-- ==== Sys2Proof/Word.lean ====
section
/-! DEFINITION. The byte, the unit of the host port and of the route channel, and its plainest arithmetic. -/

namespace Sys2Proof

/-- A byte of a frame, a request or a reply (R2, R184). -/
abbrev Byte := BitVec 8

end Sys2Proof
end

