-- ==== Sys2Proof/Config.lean ====
section
/-! DEFINITION. The part's fixed numbers, and the values the spec leaves free. -/

namespace Sys2Proof.Config

/-- Capacity of the transmit queue, the frame in flight included (R22). -/
def txQueueCap : Nat := 8
/-- Capacity of the neighbour table (R40). -/
def neighbourCap : Nat := 24
/-- Capacity of the segment table (R44). -/
def segmentCap : Nat := 96
/-- Capacity of the own claim table (R71). -/
def ownClaimCap : Nat := 4
/-- Capacity of the claim view (R89). -/
def viewCap : Nat := 32
/-- Capacity of the hold set (R140). -/
def holdCap : Nat := 8
/-- Capacity of the own callout list (R171). -/
def ownCalloutCap : Nat := 4
/-- Capacity of the relay queue (R178). -/
def relayCap : Nat := 8
/-- Capacity of the recent-relay list (R181). -/
def recentCap : Nat := 16
/-- Capacity of the host event queue (R190). -/
def eventCap : Nat := 32

/-- Largest segment number (R44). -/
def maxSegment : Nat := 4000
/-- The largest unsigned 32-bit value: the work clock and the pass accumulators stay there (R37, R51). -/
def maxWord32 : Nat := 4294967295

/-- Listen period, ms (R29). -/
def listenLimit : Nat := 2000
/-- Presence interval, ms (R38). -/
def presenceLimit : Nat := 10000
/-- Longest a Leave stays pending, ms (R32). -/
def leaveLimit : Nat := 2000
/-- Restart timer, ms (R124). -/
def restartLimit : Nat := 3000
/-- Guest-blocked timer, ms (R125). -/
def guestBlockedLimit : Nat := 120000
/-- Notice interval, ms (R126). -/
def noticeLimit : Nat := 5000
/-- Seize caution period, ms (R128). -/
def seizePeriodLimit : Nat := 10000
/-- Hold repeat interval, ms (R144). -/
def holdRepeatLimit : Nat := 10000

/-- Life of a neighbour entry, s (R42). -/
def neighbourLife : Nat := 30
/-- Life of a claim view entry, s (R82). -/
def viewLife : Nat := 60
/-- A held claim offers a refresh this long after its last successful send, s, and again at twice that (R85). -/
def refreshAfter : Nat := 20
/-- A held claim lapses this long after its last successful send, s (R88). -/
def lapseAfter : Nat := 50
/-- Life of a peer's guest notice, s (R65). -/
def guestLife : Nat := 15
/-- Life of a received hold, s (R141). -/
def holdLife : Nat := 30
/-- Life of a recent-relay pair, s (R181). -/
def recentLife : Nat := 120
/-- Age up to which a reported temperature is used, s (R152). -/
def reportLife : Nat := 1800

/-- Symbols of a seize (R18). -/
def seizeSymbols : Nat := 48
/-- Recessive symbols that make a channel idle (R3). -/
def idleSymbols : Nat := 16
/-- A dominant run of this many symbols is a seize (R5). -/
def seizeRun : Nat := 24
/-- A dominant run of this many symbols is a jam (R6). -/
def jamRun : Nat := 400
/-- Dominant symbols of the start mark (R7). -/
def markDominants : Nat := 4
/-- Symbols of the start mark, the recessive one included (R7). -/
def markSymbols : Nat := 5
/-- Symbols of a byte (R2). -/
def byteSymbolCount : Nat := 16
/-- Symbols of a frame up to the end of header byte 1, where arbitration is won (R14). -/
def wonSymbols : Nat := 37
/-- Symbols of a frame up to the end of its header (R7, R10). -/
def headerSymbols : Nat := 53
/-- Recessive symbols of the gap before a response value (R9). -/
def gapSymbols : Nat := 4
/-- Symbols from the start of a gap to the last spacer of the response field after it (R9). -/
def fieldEnd : Nat := 36
/-- The sensed value of a response field in which nobody keyed (R9). -/
def noResponse : Nat := 0xFFFF
/-- The largest hop count a station still acknowledges is one below this (R176). -/
def hopLimit : Nat := 12
/-- An own callout ends UNROUTED after this many attempts (R172). -/
def ownAttempts : Nat := 5
/-- A relay entry is dropped after this many attempts (R179). -/
def relayAttempts : Nat := 3

/-- DESIGN CHOICE (safe, log 23). The bytes of a Read Status reply to which R193 and R197 give no value at the
moment of the read: byte 0 the direction with no current segment, bytes 1 and 2 the end state and the origin of
STOPPING in any other motion state. Nothing is known of them. -/
opaque unstatedReplyByte : Nat → BitVec 8

/-- DESIGN CHOICE (safe, log 24). What a 16-bit field shows of a guest-blocked time of more than 65,535 s
(R125, R135): the spec states no value. -/
opaque guestSecondsBeyond : Nat → BitVec 16

/-- DESIGN CHOICE (safe, log 9). How many symbols in a row were sensed dominant before the one that TX_UNHEARD or
SEIZE_ENDS found recessive (R16, R18): the commands carry no symbol. Nothing is known of it. -/
opaque keyedUntil : Nat → Nat

/-- DESIGN CHOICE (safe, log 29). Whether SEL is low when the port comes out of its n-th reset by POWER_ON or RESET_N
(R185): the commands carry no level of SEL. Nothing is known of it. -/
opaque selLowAtReset : Nat → Bool

end Sys2Proof.Config
end

