-- ==== Sys2Proof/Machine/Bytes.lean ====
section
/-! DEFINITION. Numbers as bytes and symbols on the wire: byte order (R2, R197), two's complement (R197), the
check byte (R8), the bit code and the start mark (R2, R7). -/

namespace Sys2Proof.Machine

/-- The low eight bits of a number. -/
def byteOf (n : Nat) : Byte := BitVec.ofNat 8 n

/-- A number in two bytes, most significant byte first (R197). -/
def be16 (n : Nat) : List Byte := [byteOf (n / 256), byteOf n]

/-- A number in four bytes, most significant byte first (R197); modulo 2^32, which an expiry alone can pass (log 43). -/
def be32 (n : Nat) : List Byte :=
  [byteOf (n / 16777216), byteOf (n / 65536), byteOf (n / 256), byteOf n]

/-- A number in `w` bytes, most significant byte first (R197). -/
def beBytes : Nat → Nat → List Byte
  | 0, _ => []
  | w + 1, n => byteOf (n / 256 ^ w) :: beBytes w n

/-- The unsigned number a list of bytes spells, most significant byte first (R197). -/
def unsigned (bs : List Byte) : Nat := bs.foldl (fun a b => a * 256 + b.toNat) 0

/-- The 16-bit two's complement code of a number (R197). -/
def twos16 (i : Int) : Nat := (i % 65536).toNat

/-- The number a 16-bit two's complement code stands for (R197). -/
def signed16 (n : Nat) : Int := if n < 32768 then (n : Int) else (n : Int) - 65536

/-- The 32-bit two's complement code of a number (R197). -/
def twos32 (i : Int) : Nat := (i % 4294967296).toNat

/-- A flag as a byte, 0 not set and 1 set (11.2). -/
def flagByte (b : Bool) : Byte := if b then 1 else 0

/-- A value that may be absent: a presence byte, then the value in two bytes, 0 when absent (R197). -/
def optional16 : Option Nat → List Byte
  | none => 0 :: be16 0
  | some n => 1 :: be16 n

/-- A value that may be absent: a presence byte, then the value in four bytes, 0 when absent (R197). -/
def optional32 : Option Nat → List Byte
  | none => 0 :: be32 0
  | some n => 1 :: be32 n

/-- Cut a list of bytes into fields of the given widths and read each as an unsigned number. -/
def readFields : List Nat → List Byte → List Nat
  | [], _ => []
  | w :: ws, bs => unsigned (bs.take w) :: readFields ws (bs.drop w)

/-- The sum of a list of field widths. -/
def totalWidth (ws : List Nat) : Nat := ws.foldl (· + ·) 0

/-! ## The check byte (R8) -/

/-- One bit through the check register (R8). -/
def crcBit (r : Byte) (bit : Bool) : Byte :=
  if bit != r.msb then (r <<< 1) ^^^ 0x07 else r <<< 1

/-- The bits of a byte, most significant first (R2). -/
def bitsOf (b : Byte) : List Bool :=
  [b.getLsbD 7, b.getLsbD 6, b.getLsbD 5, b.getLsbD 4, b.getLsbD 3, b.getLsbD 2, b.getLsbD 1, b.getLsbD 0]

/-- One byte through the check register (R8). -/
def crcByte (r b : Byte) : Byte := (bitsOf b).foldl crcBit r

/-- The check byte of header and payload: the register starts at 0xFF and is not inverted or reflected (R8). -/
def checkByte (bs : List Byte) : Byte := bs.foldl crcByte 0xFF

/-! ## Symbols (R1, R2, R7): `true` is dominant -/

/-- A data bit: its value symbol, dominant for 0, and the recessive spacer (R2). -/
def bitSymbols (b : Bool) : List Bool := [!b, false]

/-- The start mark: four dominant symbols and one recessive (R7). -/
def startMarkSymbols : List Bool := [true, true, true, true, false]

/-- The symbols of a run of bytes (R2). -/
def byteSymbols (bs : List Byte) : List Bool := bs.flatMap fun b => (bitsOf b).flatMap bitSymbols

/-- The symbols a sender keys for a frame, from its start mark to the end of its check byte (R7, R13). In a
response gap and field the sender keys nothing. -/
def frameSymbols (image : List Byte) : List Bool := startMarkSymbols ++ byteSymbols image

/-- The symbols of a keyed response value, 16 data bits (R9, R19). -/
def responseSymbols (value : Nat) : List Bool := byteSymbols (be16 value)

end Sys2Proof.Machine
end

