-- ==== Sys2Proof/Syntax.lean ====
section
/-! DEFINITION. The commands of the block: one constructor for each row of spec/opcode_table.json.

The table gives no operands and no bits. Operands are the fields that the rules give a request (R197), a frame
(R196) or an event; they are numbers as the wire carries them, so that a field out of its range can be sent. -/

namespace Sys2Proof

/-- The fields of a Configure request in field-number order (section 2.3, R197). -/
structure ConfigureFields where
  station : Nat
  cls : Nat
  group : Nat
  width : Nat
  feedCal : Nat
  feedMax : Nat
  crawl : Nat
  accel : Nat
  decel : Nat
  countsPerMetre : Nat
  decodeMode : Nat
  warnThreshold : Nat
  warnDecrement : Nat
  stuckThreshold : Nat
  stuckDecrement : Nat
  holdResponse : Nat
  holdStop : Nat
  sendHold : Nat
  manualRestart : Nat
  stride : Nat
  residualWindow : Nat
  lowStock : Nat
  workBeacon : Nat
  doses : List Nat
deriving DecidableEq, Repr

/-- The fields of a Load Segment request (R45, R197): four adjacent fields are always sent. -/
structure LoadFields where
  segment : Nat
  length : Nat
  speedLimit : Nat
  surface : Nat
  saltPermitted : Nat
  defaultTemp : Int
  adjacentCount : Nat
  adjacent : List Nat
deriving DecidableEq, Repr

/-- One of the two odometer lines (R97). -/
inductive OdoLine where
  | a
  | b
deriving DecidableEq, Repr

/-- An edge of one odometer line, and the level of the other at that moment (R97). -/
structure Edge where
  line : OdoLine
  rises : Bool
  otherHigh : Bool
deriving DecidableEq, Repr

/-- Why the receive assembler discards a frame (R10, R11, R12). -/
inductive DiscardCause where
  | header
  | checkByte
  | codingViolation
  | dominantRun
deriving DecidableEq, Repr

/-- What spoils a response gap or field (R21). -/
inductive SpoilCause where
  | codingViolation
  | dominantRun
  | seize
deriving DecidableEq, Repr

/-- The commands, in the table's order. -/
inductive Instr where
  | powerOn
  | resetN
  | transactionAborted
  | unknownRequest (code : Nat)
  | readStatus
  | takeEvent
  | configure (f : ConfigureFields)
  | loadSegment (f : LoadFields)
  | clearSegments
  | join
  | leave
  | restart
  | readSegment (segment : Nat)
  | readCells (segment first last : Nat)
  | reportTemperature (segment : Nat) (temperature : Int)
  | markSnowfall (first last clearSalt broadcast : Nat)
  | requestClaim (segment intent urgency : Nat)
  | releaseClaim (segment : Nat)
  | readClaims
  | enterSegment (segment direction : Nat)
  | start
  | armStart
  | stopRoute
  | sendGo
  | sendHold (holdType reason : Nat)
  | sendResume
  | setBeacon (intensity : Nat)
  | loadStock (grams : Nat)
  | raiseCallout (urgency segment cell detail : Nat)
  | workClockTick
  | channelIdle
  | noise
  | frameDiscarded (cause : DiscardCause)
  | seize
  | jammed
  | jamCleared
  | duplicateStation
  | frameStart
  | arbitrationWon
  | arbitrationLost
  | collided
  | responseFieldSpoiled (cause : SpoilCause)
  | txUnheard
  | sent
  | sentResponded (value : Nat)
  | stale (entry : Nat)
  | objection (sender segment intent rank mode : Nat)
  | acknowledgement (sender origin seq code segment cell hop distance detail : Nat)
  | presence (sender cls distance motion group : Nat)
  | claim (sender segment intent rank mode sensed : Nat)
  | release (sender segment : Nat)
  | progress (sender segment first last work dose distance : Nat)
  | guest (sender segment cell zone : Nat)
  | hold (sender group holdType reason : Nat)
  | resume (sender group : Nat)
  | go (sender group : Nat)
  | callout (sender origin seq code segment cell hop distance detail sensed : Nat)
  | snowfall (sender first last clearSalt : Nat)
  | listenDone
  | presenceInterval
  | neighbourLost (station : Nat)
  | leaveComplete
  | refresh (segment : Nat)
  | lapse (segment : Nat)
  | claimViewExpiry (segment holder : Nat)
  | guestStateExpiry (segment : Nat)
  | wheelCount (edge : Edge) (blade : Bool)
  | decodeError
  | speedSample
  | rampStep
  | scannerSample (warn prot : Bool)
  | guestCleared
  | guestBlocked
  | noticeInterval
  | seizeCautionPeriod
  | holdRepeatInterval
  | holdExpiry (originator : Nat)
  | feedPulse
  | calloutBackoff (seq : Nat)
  | relayBackoff (origin seq : Nat)
  | recentRelayExpiry (origin seq : Nat)
  | startMark
  | breakInIdleCount
  | seizeEnds
deriving DecidableEq, Repr

end Sys2Proof
end

