-- ==== Sys2Proof/Machine/State.lean ====
section
/-! DEFINITION. The state of the block as plain data: one structure for each internal block of the K340
(00_scope.md, Blocks), and the queue of waiting commands. -/

namespace Sys2Proof.Machine

/-! ## Names of the spec -/

/-- Station states (R27). -/
inductive StationState where
  | offline
  | listening
  | active
  | silent
deriving DecidableEq, Repr

/-- Reset causes (R27). -/
inductive ResetCause where
  | powerOn
  | resetLine
  | restart
deriving DecidableEq, Repr

/-- Station class, fixed by the configuration record. -/
inductive StationClass where
  | robot
  | depot
deriving DecidableEq, Repr

/-- Odometer decode modes (R97). -/
inductive DecodeMode where
  | x1
  | x2
  | x4
deriving DecidableEq, Repr

/-- Decrement modes of the warning and stuck counters (R121, R131). -/
inductive Decrement where
  | reset
  | by1
  | by2
  | by4
deriving DecidableEq, Repr

/-- Channel conditions (R3, R6). -/
inductive Condition where
  | idle
  | busy
  | jammed
deriving DecidableEq, Repr

/-- States of the receive assembler (R10). -/
inductive Assembler where
  | off
  | waitIdle
  | hunt
  | header
  | body
  | gap
  | response
deriving DecidableEq, Repr

/-- The blocks that queue frames (R22). -/
inductive Block where
  | station
  | segments
  | claims
  | motion
  | group
  | callout
deriving DecidableEq, Repr

/-- The payload of a frame, field by field in wire order, each as the number the wire carries (R196, 11.2). -/
inductive Payload where
  | presence (cls distance motion group : Nat)
  | claim (segment intent rank mode : Nat)
  | release (segment : Nat)
  | progress (segment first last work dose distance : Nat)
  | guest (segment cell zone : Nat)
  | hold (group holdType reason : Nat)
  | resume (group : Nat)
  | go (group : Nat)
  | callout (origin seq code segment cell hop distance detail : Nat)
  | snowfall (first last clearSalt : Nat)
deriving DecidableEq, Repr

/-- Surface classes (R44). -/
inductive Surface where
  | walkway
  | street
  | stairBridge
  | queueArea
deriving DecidableEq, Repr

/-- Guest zones, CLEAR the lowest (R65, R126). -/
inductive Zone where
  | clear
  | warning
  | protective
deriving DecidableEq, Repr

/-- Work values of a progress report (R57). -/
inductive Work where
  | plowed
  | salted
  | both
deriving DecidableEq, Repr

/-- Claim intents in intent order (R68). -/
inductive Intent where
  | plow
  | salt
  | transit
deriving DecidableEq, Repr

/-- States of an own claim record (R72). -/
inductive ClaimState where
  | queued
  | contesting
  | holding
deriving DecidableEq, Repr

/-- The frame field of an own claim record (R71). -/
inductive ClaimFrame where
  | none
  | new
  | refresh
deriving DecidableEq, Repr

/-- Changes a CLAIM event reports: HOLDING or a terminal outcome (R72). -/
inductive ClaimChange where
  | holding
  | denied
  | yielded
  | released
  | lapsed
  | stale
deriving DecidableEq, Repr

/-- Directions of a segment entry (R99). -/
inductive Direction where
  | forward
  | reverse
deriving DecidableEq, Repr

/-- Senses of a speed sample (R107). -/
inductive Sense where
  | none
  | forward
  | backward
deriving DecidableEq, Repr

/-- Motion states (R111). -/
inductive MotionState where
  | idle
  | retained
  | run
  | caution
  | stopping
  | guestStop
  | groupHold
  | faultStop
deriving DecidableEq, Repr

/-- End states of STOPPING (R119). -/
inductive StopEnd where
  | idle
  | groupHold
deriving DecidableEq, Repr

/-- The states STOPPING is entered from (R119, R134). -/
inductive StopFrom where
  | run
  | caution
deriving DecidableEq, Repr

/-- Causes of a motion change (R111). -/
inductive MotionCause where
  | start
  | arm
  | go
  | completion
  | enter
  | stopRoute
  | stopped
  | cautionOn
  | cautionOff
  | guest
  | guestCleared
  | hold
  | holdCleared
  | overspeed
  | stuck
  | odometer
  | claimLost
  | leave
deriving DecidableEq, Repr

/-- Fault causes of FAULT_STOP (R129). -/
inductive FaultCause where
  | overspeed
  | stuck
  | odometer
  | claimLost
deriving DecidableEq, Repr

/-- The set of fault causes held, no cause twice (R129). -/
structure FaultSet where
  overspeed : Bool
  stuck : Bool
  odometer : Bool
  claimLost : Bool
deriving DecidableEq, Repr

/-- Hold types (R140). -/
inductive HoldType where
  | immediate
  | decelerate
deriving DecidableEq, Repr

/-- Hold reasons (R140). -/
inductive HoldReason where
  | guest
  | fault
  | request
deriving DecidableEq, Repr

/-- Causes of a removal from the hold set (R140). -/
inductive HoldRemoval where
  | resume
  | expiry
  | replaced
  | ownCleared
deriving DecidableEq, Repr

/-- Outcomes a CALLOUT event reports (R172). -/
inductive CalloutOutcome where
  | acked
  | unrouted
  | notSent
deriving DecidableEq, Repr

/-- Causes of a STOCK event (R162 to R164). -/
inductive StockCause where
  | loaded
  | low
  | empty
deriving DecidableEq, Repr

/-- Causes of a CHANNEL event (R5, R6, R11). -/
inductive ChannelCause where
  | seize
  | jammed
  | jamCleared
  | duplicateStation
deriving DecidableEq, Repr

/-- Causes of a STATION event that reports a change of station state, or Restart (R27, R33). -/
inductive StationCause where
  | join
  | listenDone
  | unheard
  | leave
  | restart
deriving DecidableEq, Repr

/-- Transmit outcomes that leave no frame in the queue unsent: STALE and DISPLACED (R26). -/
inductive Unsent where
  | stale
  | displaced
deriving DecidableEq, Repr

/-- Where a callout record stands: QUEUED with its frame in the transmit queue, or AWAITING with its backoff
timer in ms (R171, R178). -/
inductive Retry where
  | queued
  | awaiting (ms : Nat)
deriving DecidableEq, Repr

/-! ## Station controller (Chapter 2) -/

/-- The configuration record, its fields with their meanings (section 2.3). Field 23 is the one home of the work
beacon intensity (R134). -/
structure Configuration where
  station : Nat
  cls : StationClass
  group : Nat
  width : Nat
  feedCal : Nat
  feedMax : Nat
  crawl : Nat
  accel : Nat
  decel : Nat
  countsPerMetre : Nat
  decodeMode : DecodeMode
  warnThreshold : Nat
  warnDecrement : Decrement
  stuckThreshold : Nat
  stuckDecrement : Decrement
  holdResponse : Bool
  alwaysImmediate : Bool
  sendHold : Bool
  manualRestart : Bool
  stride : Nat
  residualWindow : Nat
  lowStock : Nat
  workBeacon : Nat
  doses : List Nat
deriving DecidableEq, Repr

/-- A neighbour table entry (R40): `none` is the spec's unknown. -/
structure Neighbour where
  station : Nat
  cls : StationClass
  distance : Nat
  motion : Option MotionState
  group : Option Nat
  lastHeard : Nat
deriving DecidableEq, Repr

/-- The station controller. `neighbours` is in order of last refresh, the least recently refreshed first (R40).
`secondMs` and `leaveFrames` are the model's own (log 1, log 21). -/
structure Station where
  state : StationState
  resetCause : ResetCause
  configValid : Bool
  config : Configuration
  clock : Nat
  secondMs : Nat
  listenTimer : Nat
  presenceMs : Nat
  leavePending : Bool
  leaveMs : Nat
  leaveFrames : List Nat
  neighbours : List Neighbour
  distance : Nat
deriving DecidableEq, Repr

/-! ## Channel controller (Chapter 1) -/

/-- A transmit queue entry (R22). -/
structure Queued where
  payload : Payload
  priority : Nat
  owner : Block
  age : Nat
  entry : Nat
deriving DecidableEq, Repr

/-- The frame in flight (R13): its entry number, whether it has won arbitration (R14), and the bytes it keys
after the start mark. -/
structure Flight where
  entry : Nat
  won : Bool
  image : List (BitVec 8)
deriving DecidableEq, Repr

/-- A response that an own seize has taken from its field (R18): the value that was keyed, and how many symbols of the
gap and the field had passed by then. -/
structure Abandoned where
  value : Nat
  symbol : Nat
deriving DecidableEq, Repr

/-- The channel controller. `queue` is in order of priority value, then entry number (R22). `run` is the length of
the dominant run that is going on (R4, R5), 0 where none is, and `runCounted` says that the noise count has already gone
up in the run of an own seize (R12). `echo` says that the frame in GAP or RESPONSE is this station's own, keyed whole and
withdrawn since, whose end is still to come (R11, R25, R88). `abandoned` is the response that
an own seize has taken from the field that is going on, if one has (R18). Two are the model's own: `symbol`, the symbols since the
start of the frame in assembly, in GAP and RESPONSE since the start of the gap (log 28), and `cuts`, how often the free
value `Config.keyedUntil` has been read, which no reset starts again (log 9). -/
structure Channel where
  condition : Condition
  idleCount : Nat
  assembler : Assembler
  noiseCount : Nat
  unheardCount : Nat
  queue : List Queued
  nextEntry : Nat
  flight : Option Flight
  response : Option Nat
  echo : Bool
  abandoned : Option Abandoned
  seizeLeft : Nat
  symbol : Nat
  run : Nat
  runCounted : Bool
  cuts : Nat
deriving DecidableEq, Repr

/-! ## Segment table (Chapter 3) -/

/-- A coverage cell (R47). -/
structure Cell where
  plowed : Bool
  plowedAt : Option Nat
  dose : Nat
  saltedAt : Option Nat
  shortfall : Bool
deriving DecidableEq, Repr

/-- A guest state that is not CLEAR (R44, R65). -/
structure PeerGuest where
  zone : Zone
  source : Nat
  expiry : Nat
deriving DecidableEq, Repr

/-- A segment record (R44); `guest` is none while the zone is CLEAR. -/
structure Segment where
  number : Nat
  length : Nat
  speedLimit : Nat
  surface : Surface
  saltPermitted : Bool
  defaultTemp : Int
  adjacent : List Nat
  reported : Option (Int × Nat)
  guest : Option PeerGuest
  cells : List Cell
deriving DecidableEq, Repr

/-- The accumulators of an open pass (R51). -/
structure Pass where
  cell : Nat
  travel : Nat
  blade : Nat
  pulses : Nat
  target : Nat
  residual : Nat
deriving DecidableEq, Repr

/-- The pending report for the current segment (R57). -/
structure Report where
  first : Nat
  last : Nat
  work : Work
  dose : Nat
  count : Nat
deriving DecidableEq, Repr

/-- The segment table; `records` is in order of segment number, lowest first (R44). -/
structure Segments where
  records : List Segment
  pass : Option Pass
  report : Option Report
deriving DecidableEq, Repr

/-! ## Claim controller (Chapter 4) -/

/-- An own claim record (R71). `refreshesOffered` is the model's own: which of the offers of R85 has been made
since the last successful send (log 22). -/
structure OwnClaim where
  segment : Nat
  intent : Intent
  urgency : Nat
  rank : Nat
  state : ClaimState
  frame : ClaimFrame
  lastSend : Option Nat
  releasePending : Bool
  refreshesOffered : Nat
deriving DecidableEq, Repr

/-- A claim view entry (R89). -/
structure ViewEntry where
  segment : Nat
  holder : Nat
  intent : Intent
  rank : Nat
  expiry : Nat
deriving DecidableEq, Repr

/-- The claim controller. `own` is in order of creation (R71), `view` in order of creation or last refresh, the
longest ago first (the tie of R89). -/
structure Claims where
  own : List OwnClaim
  view : List ViewEntry
  deferrals : Nat
deriving DecidableEq, Repr

/-! ## Odometry unit (Chapter 5) -/

/-- The current entry of a segment (R100). -/
structure Entry where
  segment : Nat
  direction : Direction
  length : Nat
  cell : Nat
  done : Bool
deriving DecidableEq, Repr

/-- The odometry unit. `windowMs` is the model's own (log 1). -/
structure Odo where
  position : Int
  entry : Option Entry
  net : Int
  errors : Nat
  lastErrors : Nat
  speed : Nat
  sense : Sense
  fault : Bool
  faultFresh : Bool
  faultWindows : Nat
  lineA : Bool
  lineB : Bool
  blade : Bool
  windowMs : Nat
deriving DecidableEq, Repr

/-! ## Motion supervisor (Chapter 6) -/

/-- The motion supervisor. `stopEnd` and `stopFrom` have a meaning in STOPPING only; `warnLine` and `protLine` are
the levels of WARN_FIELD and PROT_FIELD, `lastProt` what the last PROT_FIELD sample counts as (R122); `rampMs` and
`scanMs` are the model's own (log 1). -/
structure Motion where
  state : MotionState
  stopEnd : StopEnd
  stopFrom : StopFrom
  ceiling : Nat
  history : List Nat
  warnCounter : Nat
  warning : Bool
  latch : Bool
  warnLine : Bool
  protLine : Bool
  lastProt : Bool
  restartMs : Nat
  guestBlockedMs : Nat
  guestBlockedRaised : Bool
  noticeMs : Nat
  seizePeriod : Option Nat
  stuck : Nat
  overspeedRun : Nat
  faults : FaultSet
  holdSent : Bool
  rampMs : Nat
  scanMs : Nat
deriving DecidableEq, Repr

/-! ## Group control (Chapter 7) -/

/-- A hold set entry (R140); `expiry` is absent for the own hold. `stamp` is the model's own: the order of
creation or refresh. -/
structure HoldEntry where
  originator : Nat
  holdType : HoldType
  reason : HoldReason
  expiry : Option Nat
  stamp : Nat
deriving DecidableEq, Repr

/-- Group control; `holds` is in order of creation (R140). -/
structure Group where
  retained : Bool
  holds : List HoldEntry
  guestMark : Bool
  hostMark : Option (HoldType × HoldReason)
  repeatMs : Nat
  nextStamp : Nat
deriving DecidableEq, Repr

/-! ## Dosing unit (Chapter 8) -/

/-- The dosing unit: `dose` is D, `rate` is f16, `acc` the accumulator of the pulse generator, `pulsesNow` the pulses
it has emitted in the present step of 1 ms, which drive FEED (R158). -/
structure Dosing where
  stock : Nat
  low : Bool
  active : Bool
  need : Nat
  dose : Nat
  vSalt : Option Nat
  rate : Nat
  capped : Bool
  acc : Nat
  pulsesNow : Nat
deriving DecidableEq, Repr

/-! ## Callout unit (Chapter 9) -/

/-- An own callout record (R171). -/
structure OwnCallout where
  code : Nat
  segment : Nat
  cell : Nat
  detail : Nat
  seq : Nat
  attempts : Nat
  retry : Retry
deriving DecidableEq, Repr

/-- A relay queue entry (R178). -/
structure RelayEntry where
  origin : Nat
  seq : Nat
  code : Nat
  segment : Nat
  cell : Nat
  detail : Nat
  hop : Nat
  attempts : Nat
  retry : Retry
deriving DecidableEq, Repr

/-- A recent-relay pair (R181). -/
structure RecentPair where
  origin : Nat
  seq : Nat
  expiry : Nat
deriving DecidableEq, Repr

/-- The callout unit; the lists are in order of creation or joining. -/
structure Callouts where
  seq : Nat
  own : List OwnCallout
  relay : List RelayEntry
  recent : List RecentPair
deriving DecidableEq, Repr

/-! ## Host port (Chapter 10) -/

/-- The fields of an event record by kind and cause (section 11.3, Event records). `none` is an absent value. -/
inductive Event where
  | stationState (cause : StationCause) (left entered : StationState)
  | neighbourNew (n : Neighbour)
  | neighbourChanged (n : Neighbour)
  | neighbourLost (station : Nat)
  | distance (old new : Nat)
  | claim (segment : Nat) (intent : Intent) (rank : Nat) (change : ClaimChange) (occupied : Bool) (stronger : Option (Nat × Nat))
  | segmentDone (segment : Nat) (direction : Direction) (cell : Nat) (position : Int)
  | motion (left entered : MotionState) (cause : MotionCause) (ceiling : Nat) (segment : Option Nat) (faults : FaultSet)
  | guestZone (new old : Zone) (place : Option (Nat × Nat))
  | peerGuest (segment : Nat) (zone : Zone) (source cell : Nat) (expired : Bool)
  | holdAdded (originator : Nat) (holdType : HoldType) (reason : HoldReason) (entries : Nat)
  | holdChanged (originator : Nat) (holdType : HoldType) (reason : HoldReason) (entries : Nat)
  | holdRemoved (originator : Nat) (cause : HoldRemoval) (holdType : HoldType) (reason : HoldReason) (entries : Nat)
  | goIgnored (sender entries : Nat)
  | callout (code : Nat) (seq : Option Nat) (segment cell detail : Nat) (outcome : CalloutOutcome) (attempts : Nat) (ackedBy : Option (Nat × Nat))
  | calloutReceived (origin seq code segment cell detail hop sender distance : Nat)
  | stock (cause : StockCause) (stock : Nat)
  | channel (cause : ChannelCause) (own : Bool)
  | snowfall (source first last : Nat) (clearSalt : Bool) (filled : Nat)
deriving DecidableEq, Repr

/-- An event record (R190). -/
structure EventRecord where
  event : Event
  time : Nat
  dropped : Bool
deriving DecidableEq, Repr

/-- The transaction under way on the lines of the port (R184): SEL has fallen, `count` rising edges of SCK and `shown`
falling ones have come since, `shift` takes in the bits of the byte under way, most significant first, and `bytes` are the
request bytes complete so far. -/
structure Transaction where
  selected : Bool
  count : Nat
  shift : BitVec 8
  bytes : List (BitVec 8)
  shown : Nat
deriving DecidableEq, Repr

/-- The host port: the event queue, oldest first, and the reply of the last request taken, its status byte and
result fields (R184); `none` where no reply exists (R185). `heldSel` says that the port came out of its last reset with
SEL low, which no TRANSACTION_ABORTED has followed (R185). `transaction` is what the port has taken in and sent since SEL
fell (R184), which its lines alone and a reset change. `resets` is the model's own: how often the free value
`Config.selLowAtReset` has been read (log 29). -/
structure HostPort where
  events : List EventRecord
  reply : Option (List (BitVec 8))
  heldSel : Bool
  transaction : Transaction
  resets : Nat
deriving DecidableEq, Repr

/-! ## The state -/

/-- The whole state of the block. `pending` is the queue of commands that wait, first in, first out. -/
structure State where
  pending : List Instr
  station : Station
  channel : Channel
  segs : Segments
  claims : Claims
  odo : Odo
  motion : Motion
  group : Group
  dosing : Dosing
  callout : Callouts
  host : HostPort
deriving DecidableEq, Repr

/-- No command of this block ends its run in a fault: the spec answers a request it will not act on with a
refusal status (R186), and the robot's own faults are states of the motion supervisor (R129). So nobody raises a
fault and the type has no value; this is safe. -/
inductive Fault where
deriving DecidableEq, Repr

/-- A command that has no meaning in the model. -/
inductive Refusal where
  /-- Raised by `exec` for a command not modelled yet; safe. No arm of this model raises it. -/
  | notModelled (mnemonic : String)
deriving DecidableEq, Repr

/-- The answer of a meaning. -/
abbrev Result := Host.Outcome State Fault Refusal

/-! ## One update for each internal block -/

/-- Update the queue of waiting commands. -/
def State.setPending (p : List Instr) (s : State) : State := { s with pending := p }
/-- Update the station controller. -/
def State.onStation (f : Station → Station) (s : State) : State := { s with station := f s.station }
/-- Update the channel controller. -/
def State.onChannel (f : Channel → Channel) (s : State) : State := { s with channel := f s.channel }
/-- Update the segment table. -/
def State.onSegs (f : Segments → Segments) (s : State) : State := { s with segs := f s.segs }
/-- Update the claim controller. -/
def State.onClaims (f : Claims → Claims) (s : State) : State := { s with claims := f s.claims }
/-- Update the odometry unit. -/
def State.onOdo (f : Odo → Odo) (s : State) : State := { s with odo := f s.odo }
/-- Update the motion supervisor. -/
def State.onMotion (f : Motion → Motion) (s : State) : State := { s with motion := f s.motion }
/-- Update group control. -/
def State.onGroup (f : Group → Group) (s : State) : State := { s with group := f s.group }
/-- Update the dosing unit. -/
def State.onDosing (f : Dosing → Dosing) (s : State) : State := { s with dosing := f s.dosing }
/-- Update the callout unit. -/
def State.onCallout (f : Callouts → Callouts) (s : State) : State := { s with callout := f s.callout }
/-- Update the host port. -/
def State.onHost (f : HostPort → HostPort) (s : State) : State := { s with host := f s.host }

/-! ## Reset -/

/-- What the configuration record holds before the first Configure: the spec says only that it is invalid, so
every number is zero and every choice its first code (DESIGN CHOICE, unsafe, log 6); the work beacon intensity is
64 (R134). -/
def Configuration.reset : Configuration where
  station := 0
  cls := .robot
  group := 0
  width := 0
  feedCal := 0
  feedMax := 0
  crawl := 0
  accel := 0
  decel := 0
  countsPerMetre := 0
  decodeMode := .x1
  warnThreshold := 0
  warnDecrement := .reset
  stuckThreshold := 0
  stuckDecrement := .reset
  holdResponse := false
  alwaysImmediate := false
  sendHold := false
  manualRestart := false
  stride := 0
  residualWindow := 0
  lowStock := 0
  workBeacon := 64
  doses := List.replicate 24 0

/-- The station controller after power-on (R34). -/
def Station.reset : Station where
  state := .offline
  resetCause := .powerOn
  configValid := false
  config := Configuration.reset
  clock := 0
  secondMs := 0
  listenTimer := 0
  presenceMs := 0
  leavePending := false
  leaveMs := 0
  leaveFrames := []
  neighbours := []
  distance := 15

/-- The channel controller after every reset (R1, R3, R10, R12, R16, R22). -/
def Channel.reset : Channel where
  condition := .busy
  idleCount := 0
  assembler := .off
  noiseCount := 0
  unheardCount := 0
  queue := []
  nextEntry := 0
  flight := none
  response := none
  echo := false
  abandoned := none
  seizeLeft := 0
  symbol := 0
  run := 0
  runCounted := false
  cuts := 0

/-- The segment table after power-on (R49). -/
def Segments.reset : Segments where
  records := []
  pass := none
  report := none

/-- The claim controller after every reset (R95). -/
def Claims.reset : Claims where
  own := []
  view := []
  deferrals := 0

/-- The odometry unit after every reset (section 5.6); the line levels and the error count of a window before the
first are DESIGN CHOICE, unsafe (log 7). -/
def Odo.reset : Odo where
  position := 0
  entry := none
  net := 0
  errors := 0
  lastErrors := 0
  speed := 0
  sense := .none
  fault := false
  faultFresh := false
  faultWindows := 0
  lineA := false
  lineB := false
  blade := false
  windowMs := 0

/-- No fault cause. -/
def FaultSet.empty : FaultSet := ⟨false, false, false, false⟩

/-- The motion supervisor after every reset (R136); `stopEnd`, `stopFrom` and the two line levels are DESIGN CHOICE,
unsafe (log 7). -/
def Motion.reset : Motion where
  state := .idle
  stopEnd := .idle
  stopFrom := .run
  ceiling := 0
  history := [0, 0, 0, 0]
  warnCounter := 0
  warning := false
  latch := false
  warnLine := false
  protLine := false
  lastProt := false
  restartMs := 0
  guestBlockedMs := 0
  guestBlockedRaised := false
  noticeMs := 0
  seizePeriod := none
  stuck := 0
  overspeedRun := 0
  faults := FaultSet.empty
  holdSent := false
  rampMs := 0
  scanMs := 0

/-- Group control after every reset (R149). -/
def Group.reset : Group where
  retained := false
  holds := []
  guestMark := false
  hostMark := none
  repeatMs := 0
  nextStamp := 0

/-- The dosing unit after power-on (R166). -/
def Dosing.reset : Dosing where
  stock := 0
  low := false
  active := false
  need := 0
  dose := 0
  vSalt := none
  rate := 0
  capped := false
  acc := 0
  pulsesNow := 0

/-- The callout unit after power-on (R174, R180, R181). -/
def Callouts.reset : Callouts where
  seq := 0
  own := []
  relay := []
  recent := []

/-- No transaction: SEL is high (R184, R195). -/
def Transaction.reset : Transaction where
  selected := false
  count := 0
  shift := 0
  bytes := []
  shown := 0

/-- The host port after power-on (R195). That SEL is high at the first reset is DESIGN CHOICE, unsafe (log 29). -/
def HostPort.reset : HostPort where
  events := []
  reply := none
  heldSel := false
  transaction := Transaction.reset
  resets := 0

/-- The block right after power-on, no command waiting (R34, R195). -/
def State.reset : State where
  pending := []
  station := Station.reset
  channel := Channel.reset
  segs := Segments.reset
  claims := Claims.reset
  odo := Odo.reset
  motion := Motion.reset
  group := Group.reset
  dosing := Dosing.reset
  callout := Callouts.reset
  host := HostPort.reset

end Sys2Proof.Machine
end

