-- ==== Sys2Proof/Machine/Operands.lean ====
section
/-! DEFINITION. The codes of Chapter 11: what number stands for what choice, and which frame has which kind,
priority value, stale limit and layout. -/

namespace Sys2Proof.Machine

/-! ## Codes (11.2, 11.3) -/

/-- Station state codes (R197). -/
def stationCode : StationState → Nat
  | .offline => 0
  | .listening => 1
  | .active => 2
  | .silent => 3

/-- Reset cause codes (R197). -/
def resetCode : ResetCause → Nat
  | .powerOn => 0
  | .resetLine => 1
  | .restart => 2

/-- Class codes (R196). -/
def classCode : StationClass → Nat
  | .robot => 0
  | .depot => 1

/-- The class a code stands for. -/
def classOf : Nat → Option StationClass
  | 0 => some .robot
  | 1 => some .depot
  | _ => none

/-- Decode mode of a code: x1 1, x2 2, x4 4 (R197). -/
def decodeModeOf : Nat → Option DecodeMode
  | 1 => some .x1
  | 2 => some .x2
  | 4 => some .x4
  | _ => none

/-- Decrement mode of a code: RESET 0, then 1, 2, 4 (R197). -/
def decrementOf : Nat → Option Decrement
  | 0 => some .reset
  | 1 => some .by1
  | 2 => some .by2
  | 4 => some .by4
  | _ => none

/-- A flag field, 0 or 1 (R188). -/
def flagOf : Nat → Option Bool
  | 0 => some false
  | 1 => some true
  | _ => none

/-- Surface class codes (R44). -/
def surfaceCode : Surface → Nat
  | .walkway => 0
  | .street => 1
  | .stairBridge => 2
  | .queueArea => 3

/-- The surface class a code stands for. -/
def surfaceOf : Nat → Option Surface
  | 0 => some .walkway
  | 1 => some .street
  | 2 => some .stairBridge
  | 3 => some .queueArea
  | _ => none

/-- Channel condition codes (R197). -/
def conditionCode : Condition → Nat
  | .idle => 0
  | .busy => 1
  | .jammed => 2

/-- Zone codes, in the order of zones (R65, R196). -/
def zoneCode : Zone → Nat
  | .clear => 0
  | .warning => 1
  | .protective => 2

/-- The zone a code stands for. -/
def zoneOf : Nat → Option Zone
  | 0 => some .clear
  | 1 => some .warning
  | 2 => some .protective
  | _ => none

/-- Work codes (R196). -/
def workCode : Work → Nat
  | .plowed => 1
  | .salted => 2
  | .both => 3

/-- The work value a code stands for. -/
def workOf : Nat → Option Work
  | 1 => some .plowed
  | 2 => some .salted
  | 3 => some .both
  | _ => none

/-- The intent order, which is the intent's code (R68). -/
def intentCode : Intent → Nat
  | .plow => 0
  | .salt => 1
  | .transit => 2

/-- The intent a code stands for. -/
def intentOf : Nat → Option Intent
  | 0 => some .plow
  | 1 => some .salt
  | 2 => some .transit
  | _ => none

/-- Claim state codes (R197). -/
def claimStateCode : ClaimState → Nat
  | .queued => 0
  | .contesting => 1
  | .holding => 2

/-- Frame field codes (R197). -/
def claimFrameCode : ClaimFrame → Nat
  | .none => 0
  | .new => 1
  | .refresh => 2

/-- Change codes of a CLAIM event (R197). -/
def claimChangeCode : ClaimChange → Nat
  | .holding => 0
  | .denied => 1
  | .yielded => 2
  | .released => 3
  | .lapsed => 4
  | .stale => 5

/-- Direction codes (R197). -/
def directionCode : Direction → Nat
  | .forward => 0
  | .reverse => 1

/-- The direction a code stands for. -/
def directionOf : Nat → Option Direction
  | 0 => some .forward
  | 1 => some .reverse
  | _ => none

/-- Sense codes (R197). -/
def senseCode : Sense → Nat
  | .none => 0
  | .forward => 1
  | .backward => 2

/-- Motion state codes (R196). -/
def motionCode : MotionState → Nat
  | .idle => 0
  | .retained => 1
  | .run => 2
  | .caution => 3
  | .stopping => 4
  | .guestStop => 5
  | .groupHold => 6
  | .faultStop => 7

/-- The motion state a code stands for; a code above 7 is unknown (R41). -/
def motionOf : Nat → Option MotionState
  | 0 => some .idle
  | 1 => some .retained
  | 2 => some .run
  | 3 => some .caution
  | 4 => some .stopping
  | 5 => some .guestStop
  | 6 => some .groupHold
  | 7 => some .faultStop
  | _ => none

/-- Motion cause codes of a MOTION event (R197). -/
def motionCauseCode : MotionCause → Nat
  | .start => 1
  | .arm => 2
  | .go => 3
  | .completion => 4
  | .enter => 5
  | .stopRoute => 6
  | .stopped => 7
  | .cautionOn => 8
  | .cautionOff => 9
  | .guest => 10
  | .guestCleared => 11
  | .hold => 12
  | .holdCleared => 13
  | .overspeed => 14
  | .stuck => 15
  | .odometer => 16
  | .claimLost => 17
  | .leave => 18

/-- The fault-cause byte: bit 0 OVERSPEED, 1 STUCK, 2 ODOMETER, 3 CLAIM_LOST (R197), 0 in its other bits (DEDUCED,
log 51). -/
def faultByte (f : FaultSet) : Nat :=
  f.overspeed.toNat + 2 * f.stuck.toNat + 4 * f.odometer.toNat + 8 * f.claimLost.toNat

/-- Hold type codes (R196). -/
def holdTypeCode : HoldType → Nat
  | .immediate => 0
  | .decelerate => 1

/-- The hold type a code stands for. -/
def holdTypeOf : Nat → Option HoldType
  | 0 => some .immediate
  | 1 => some .decelerate
  | _ => none

/-- Hold reason codes (R196). -/
def holdReasonCode : HoldReason → Nat
  | .guest => 0
  | .fault => 1
  | .request => 2

/-- The hold reason a code stands for. -/
def holdReasonOf : Nat → Option HoldReason
  | 0 => some .guest
  | 1 => some .fault
  | 2 => some .request
  | _ => none

/-- Removal cause codes of a HOLD event (R197). -/
def holdRemovalCode : HoldRemoval → Nat
  | .resume => 1
  | .expiry => 2
  | .replaced => 3
  | .ownCleared => 4

/-- Outcome codes of a CALLOUT event (R197). -/
def calloutOutcomeCode : CalloutOutcome → Nat
  | .acked => 0
  | .unrouted => 1
  | .notSent => 2

/-- Cause codes of a STOCK event (R197). -/
def stockCauseCode : StockCause → Nat
  | .loaded => 0
  | .low => 1
  | .empty => 2

/-- Cause codes of a CHANNEL event (R197). -/
def channelCauseCode : ChannelCause → Nat
  | .seize => 0
  | .jammed => 1
  | .jamCleared => 2
  | .duplicateStation => 3

/-- Cause codes of a STATION event that reports a state change (R197). -/
def stationCauseCode : StationCause → Nat
  | .join => 1
  | .listenDone => 2
  | .unheard => 3
  | .leave => 4
  | .restart => 5

/-! ## Status bytes (R186, R197) -/

/-- OK. -/
def statusOk : Byte := 0x00
/-- REFUSED_STATE. -/
def refusedState : Byte := 0x01
/-- REFUSED_RANGE. -/
def refusedRange : Byte := 0x02
/-- REFUSED_FULL. -/
def refusedFull : Byte := 0x03
/-- REFUSED_DUPLICATE. -/
def refusedDuplicate : Byte := 0x04
/-- REFUSED_UNKNOWN. -/
def refusedUnknown : Byte := 0x05
/-- REFUSED_NO_CLAIM. -/
def refusedNoClaim : Byte := 0x06
/-- REFUSED_OCCUPIED. -/
def refusedOccupied : Byte := 0x07
/-- REFUSED_HELD. -/
def refusedHeld : Byte := 0x08
/-- UNKNOWN_REQUEST. -/
def unknownRequestByte : Byte := 0x09
/-- The filler byte of a transaction (section 11.3). -/
def fillerByte : Byte := 0xA5

/-! ## Range checks (R35, R45, R188) -/

/-- A number lies in a range, ends included. -/
def within (low high n : Nat) : Bool := decide (low ≤ n) && decide (n ≤ high)

/-- The number of the first check that fails, the first check having number `n`. -/
def firstFault (n : Nat) : List Bool → Option Nat
  | [] => none
  | true :: r => firstFault (n + 1) r
  | false :: _ => some n

/-! ## Frames (R7, R196) -/

/-- The kind number (R7). -/
def Payload.kind : Payload → Nat
  | .presence .. => 1
  | .claim .. => 2
  | .release .. => 3
  | .progress .. => 4
  | .guest .. => 5
  | .hold .. => 6
  | .resume .. => 7
  | .go .. => 8
  | .callout .. => 9
  | .snowfall .. => 10

/-- The priority value of a callout code: 2 urgent, 5 routine (R167). -/
def calloutPriority (code : Nat) : Nat :=
  if code = 5 ∨ code = 6 ∨ code = 8 then 5 else 2

/-- The priority value of a frame (R7). -/
def Payload.priority : Payload → Nat
  | .presence .. => 6
  | .claim .. => 3
  | .release .. => 3
  | .progress .. => 4
  | .guest .. => 0
  | .hold .. => 1
  | .resume .. => 1
  | .go .. => 1
  | .callout _ _ code _ _ _ _ _ => calloutPriority code
  | .snowfall .. => 5

/-- The stale limit of a frame in ms (R7, R24). -/
def Payload.staleLimit : Payload → Nat
  | .presence .. => 10000
  | .claim .. => 2000
  | .release .. => 2000
  | .progress .. => 5000
  | .guest .. => 1000
  | .hold .. => 2000
  | .resume .. => 2000
  | .go .. => 2000
  | .callout .. => 4000
  | .snowfall .. => 5000

/-- Whether a frame has a response field: CLAIM and CALLOUT (R7). -/
def Payload.hasResponse : Payload → Bool
  | .claim .. => true
  | .callout .. => true
  | _ => false

/-- The payload fields with their widths in bytes, in wire order (11.2). -/
def Payload.fields : Payload → List (Nat × Nat)
  | .presence c d m g => [(1, c), (1, d), (1, m), (1, g)]
  | .claim s i r m => [(2, s), (1, i), (1, r), (1, m)]
  | .release s => [(2, s)]
  | .progress s f l w d x => [(2, s), (1, f), (1, l), (1, w), (1, d), (1, x)]
  | .guest s c z => [(2, s), (1, c), (1, z)]
  | .hold g t r => [(1, g), (1, t), (1, r)]
  | .resume g => [(1, g)]
  | .go g => [(1, g)]
  | .callout o q c s e h x d => [(1, o), (1, q), (1, c), (2, s), (1, e), (1, h), (1, x), (2, d)]
  | .snowfall f l c => [(2, f), (2, l), (1, c)]

/-- The payload bytes of a frame (R196). -/
def Payload.bytes (p : Payload) : List Byte := p.fields.flatMap fun f => beBytes f.1 f.2

/-- Header and payload of a frame sent by `sender` at priority value `priority` (R7). -/
def frameBody (sender priority : Nat) (p : Payload) : List Byte :=
  byteOf (priority * 32 + p.kind) :: byteOf sender :: byteOf p.bytes.length :: p.bytes

/-- The bytes a frame keys after its start mark: header, payload and check byte (R7, R8, R13). -/
def frameImage (sender priority : Nat) (p : Payload) : List Byte :=
  frameBody sender priority p ++ [checkByte (frameBody sender priority p)]

/-- The frame in flight has a response field: kind 2 or 9 in its first byte (R7). -/
def Flight.hasField (f : Flight) : Bool :=
  let kind := (f.image.headD 0).toNat % 32
  kind == 2 || kind == 9

/-- The symbols of the frame in flight up to the end of its check byte (R2, R7). -/
def Flight.length (f : Flight) : Nat := Config.markSymbols + Config.byteSymbolCount * f.image.length

end Sys2Proof.Machine
end

