-- ==== Sys2Proof/WellFormed.lean ====
section
/-! DEFINITION. Which commands can be sent: every operand fits the field the wire or the table gives it (R196, R197).
A field out of the range its rule allows is still well formed where the wire can carry it: the block checks it. -/

namespace Sys2Proof

/-- A number fits one byte. -/
def fits8 (n : Nat) : Bool := decide (n < 256)

/-- A number fits two bytes. -/
def fits16 (n : Nat) : Bool := decide (n < 65536)

/-- A number fits four bytes. -/
def fits32 (n : Nat) : Bool := decide (n < 4294967296)

/-- A signed number fits two bytes in two's complement (R197). -/
def fitsSigned16 (i : Int) : Bool := decide (-32768 ≤ i) && decide (i < 32768)

/-- The station number of a station, its own 8-bit field (R7). -/
def stationNumber (n : Nat) : Bool := decide (1 ≤ n) && decide (n ≤ 254)

/-- A segment number (R44). -/
def segmentNumber (n : Nat) : Bool := decide (1 ≤ n) && decide (n ≤ 4000)

/-- The fields of a Configure request at their widths (section 11.3). -/
def ConfigureFields.wellFormed (f : ConfigureFields) : Bool :=
  fits8 f.station && fits8 f.cls && fits8 f.group && fits16 f.width && fits16 f.feedCal && fits16 f.feedMax
    && fits16 f.crawl && fits16 f.accel && fits16 f.decel && fits16 f.countsPerMetre && fits8 f.decodeMode
    && fits8 f.warnThreshold && fits8 f.warnDecrement && fits8 f.stuckThreshold && fits8 f.stuckDecrement
    && fits8 f.holdResponse && fits8 f.holdStop && fits8 f.sendHold && fits8 f.manualRestart && fits8 f.stride
    && fits8 f.residualWindow && fits32 f.lowStock && fits8 f.workBeacon && f.doses.length == 24 && f.doses.all fits8

/-- The fields of a Load Segment request at their widths: four adjacent fields are always sent (R184, section 11.3). -/
def LoadFields.wellFormed (f : LoadFields) : Bool :=
  fits16 f.segment && fits16 f.length && fits16 f.speedLimit && fits8 f.surface && fits8 f.saltPermitted
    && fitsSigned16 f.defaultTemp && fits8 f.adjacentCount && f.adjacent.length == 4 && f.adjacent.all fits16

/-- A command can be sent. -/
def Instr.wellFormed : Instr → Bool
  | .powerOn => true
  | .resetN => true
  | .transactionAborted => true
  | .unknownRequest code => fits8 code && !(decide (1 ≤ code) && decide (code ≤ 0x19))
  | .readStatus => true
  | .takeEvent => true
  | .configure f => f.wellFormed
  | .loadSegment f => f.wellFormed
  | .clearSegments => true
  | .join => true
  | .leave => true
  | .restart => true
  | .readSegment segment => fits16 segment
  | .readCells segment first last => fits16 segment && fits8 first && fits8 last
  | .reportTemperature segment temperature => fits16 segment && fitsSigned16 temperature
  | .markSnowfall first last clearSalt broadcast => fits16 first && fits16 last && fits8 clearSalt && fits8 broadcast
  | .requestClaim segment intent urgency => fits16 segment && fits8 intent && fits8 urgency
  | .releaseClaim segment => fits16 segment
  | .readClaims => true
  | .enterSegment segment direction => fits16 segment && fits8 direction
  | .start => true
  | .armStart => true
  | .stopRoute => true
  | .sendGo => true
  | .sendHold holdType reason => fits8 holdType && fits8 reason
  | .sendResume => true
  | .setBeacon intensity => fits8 intensity
  | .loadStock grams => fits32 grams
  | .raiseCallout urgency segment cell detail => fits8 urgency && fits16 segment && fits8 cell && fits16 detail
  | .workClockTick => true
  | .channelIdle => true
  | .noise => true
  | .frameDiscarded _ => true
  | .seize => true
  | .jammed => true
  | .jamCleared => true
  | .duplicateStation => true
  | .frameStart => true
  | .arbitrationWon => true
  | .arbitrationLost => true
  | .collided => true
  | .responseFieldSpoiled _ => true
  | .txUnheard => true
  | .sent => true
  | .sentResponded value => decide (value < 65535)
  | .stale _ => true
  | .objection sender segment intent rank mode =>
    stationNumber sender && fits16 segment && fits8 intent && fits8 rank && fits8 mode
  | .acknowledgement sender origin seq code segment cell hop distance detail =>
    stationNumber sender && fits8 origin && fits8 seq && fits8 code && fits16 segment && fits8 cell && fits8 hop
      && fits8 distance && fits16 detail
  | .presence sender cls distance motion group =>
    stationNumber sender && fits8 cls && fits8 distance && fits8 motion && fits8 group
  | .claim sender segment intent rank mode sensed =>
    stationNumber sender && fits16 segment && fits8 intent && fits8 rank && fits8 mode && fits16 sensed
  | .release sender segment => stationNumber sender && fits16 segment
  | .progress sender segment first last work dose distance =>
    stationNumber sender && fits16 segment && fits8 first && fits8 last && fits8 work && fits8 dose && fits8 distance
  | .guest sender segment cell zone => stationNumber sender && fits16 segment && fits8 cell && fits8 zone
  | .hold sender group holdType reason => stationNumber sender && fits8 group && fits8 holdType && fits8 reason
  | .resume sender group => stationNumber sender && fits8 group
  | .go sender group => stationNumber sender && fits8 group
  | .callout sender origin seq code segment cell hop distance detail sensed =>
    stationNumber sender && fits8 origin && fits8 seq && fits8 code && fits16 segment && fits8 cell && fits8 hop
      && fits8 distance && fits16 detail && fits16 sensed
  | .snowfall sender first last clearSalt => stationNumber sender && fits16 first && fits16 last && fits8 clearSalt
  | .listenDone => true
  | .presenceInterval => true
  | .neighbourLost station => stationNumber station
  | .leaveComplete => true
  | .refresh segment => segmentNumber segment
  | .lapse segment => segmentNumber segment
  | .claimViewExpiry segment holder => segmentNumber segment && stationNumber holder
  | .guestStateExpiry segment => segmentNumber segment
  | .wheelCount _ _ => true
  | .decodeError => true
  | .speedSample => true
  | .rampStep => true
  | .scannerSample _ _ => true
  | .guestCleared => true
  | .guestBlocked => true
  | .noticeInterval => true
  | .seizeCautionPeriod => true
  | .holdRepeatInterval => true
  | .holdExpiry originator => stationNumber originator
  | .feedPulse => true
  | .calloutBackoff seq => fits8 seq
  | .relayBackoff origin seq => stationNumber origin && fits8 seq
  | .recentRelayExpiry origin seq => stationNumber origin && fits8 seq
  | .startMark => true
  | .breakInIdleCount => true
  | .seizeEnds => true

end Sys2Proof
end

