-- ==== Sys2Proof/Decode.lean ====
section
/-! DEFINITION. Which command a transaction's bytes or a frame's bytes give, and the bytes of a request (R184, R185,
R196, R197). The opcode table gives no row any bits, so no table word spells a command. -/

namespace Sys2Proof

open Sys2Proof.Machine

/-- The command that a word spells by the table's bits: the table gives none. -/
def decodeTableWord (_nbits _w : Nat) : Option Instr := none

/-! ## Requests (section 11.3) -/

/-- The widths of the fields of a request code, none for a code that is not defined (R185, section 11.3). -/
def requestWidths : Nat → Option (List Nat)
  | 0x01 => some []
  | 0x02 => some []
  | 0x03 => some ([1, 1, 1] ++ List.replicate 7 2 ++ List.replicate 11 1 ++ [4, 1] ++ List.replicate 24 1)
  | 0x04 => some [2, 2, 2, 1, 1, 2, 1, 2, 2, 2, 2]
  | 0x05 => some []
  | 0x06 => some []
  | 0x07 => some []
  | 0x08 => some []
  | 0x09 => some [2]
  | 0x0A => some [2, 1, 1]
  | 0x0B => some [2, 2]
  | 0x0C => some [2, 2, 1, 1]
  | 0x0D => some [2, 1, 1]
  | 0x0E => some [2]
  | 0x0F => some []
  | 0x10 => some [2, 1]
  | 0x11 => some []
  | 0x12 => some []
  | 0x13 => some []
  | 0x14 => some []
  | 0x15 => some [1, 1]
  | 0x16 => some []
  | 0x17 => some [1]
  | 0x18 => some [4]
  | 0x19 => some [1, 2, 1, 2]
  | _ => none

/-- The command of a request code with its fields (section 11.3). -/
def requestOf : Nat → List Nat → Option Instr
  | 0x01, [] => some .readStatus
  | 0x02, [] => some .takeEvent
  | 0x03, station :: cls :: group :: width :: feedCal :: feedMax :: crawl :: accel :: decel :: cpm :: mode :: warnT
      :: warnD :: stuckT :: stuckD :: response :: stop :: send :: manual :: stride :: window :: low :: beacon :: doses =>
    some (.configure ⟨station, cls, group, width, feedCal, feedMax, crawl, accel, decel, cpm, mode, warnT, warnD,
      stuckT, stuckD, response, stop, send, manual, stride, window, low, beacon, doses⟩)
  | 0x04, [segment, length, limit, surface, salt, temp, count, a, b, c, d] =>
    some (.loadSegment ⟨segment, length, limit, surface, salt, signed16 temp, count, [a, b, c, d]⟩)
  | 0x05, [] => some .clearSegments
  | 0x06, [] => some .join
  | 0x07, [] => some .leave
  | 0x08, [] => some .restart
  | 0x09, [segment] => some (.readSegment segment)
  | 0x0A, [segment, first, last] => some (.readCells segment first last)
  | 0x0B, [segment, temp] => some (.reportTemperature segment (signed16 temp))
  | 0x0C, [first, last, clearSalt, broadcast] => some (.markSnowfall first last clearSalt broadcast)
  | 0x0D, [segment, intent, urgency] => some (.requestClaim segment intent urgency)
  | 0x0E, [segment] => some (.releaseClaim segment)
  | 0x0F, [] => some .readClaims
  | 0x10, [segment, direction] => some (.enterSegment segment direction)
  | 0x11, [] => some .start
  | 0x12, [] => some .armStart
  | 0x13, [] => some .stopRoute
  | 0x14, [] => some .sendGo
  | 0x15, [holdType, reason] => some (.sendHold holdType reason)
  | 0x16, [] => some .sendResume
  | 0x17, [intensity] => some (.setBeacon intensity)
  | 0x18, [grams] => some (.loadStock grams)
  | 0x19, [urgency, segment, cell, detail] => some (.raiseCallout urgency segment cell detail)
  | _, _ => none

/-- The command that the bytes of one transaction give, from the fall of SEL to its rise (R184, R185): bytes after the
last request byte are ignored; a request cut short is aborted; a code that is not defined is unknown. -/
def decodeRequest : List Byte → Instr
  | [] => .transactionAborted
  | code :: rest =>
    match requestWidths code.toNat with
    | none => .unknownRequest code.toNat
    | some ws =>
      if rest.length < totalWidth ws then .transactionAborted
      else (requestOf code.toNat (readFields ws rest)).getD .transactionAborted

/-- The code and fields of a command that is a request (section 11.3). -/
def requestParts : Instr → Option (Nat × List Nat)
  | .readStatus => some (0x01, [])
  | .takeEvent => some (0x02, [])
  | .configure f =>
    some (0x03, [f.station, f.cls, f.group, f.width, f.feedCal, f.feedMax, f.crawl, f.accel, f.decel, f.countsPerMetre,
      f.decodeMode, f.warnThreshold, f.warnDecrement, f.stuckThreshold, f.stuckDecrement, f.holdResponse, f.holdStop,
      f.sendHold, f.manualRestart, f.stride, f.residualWindow, f.lowStock, f.workBeacon] ++ f.doses)
  | .loadSegment f =>
    some (0x04, [f.segment, f.length, f.speedLimit, f.surface, f.saltPermitted, twos16 f.defaultTemp, f.adjacentCount]
      ++ f.adjacent)
  | .clearSegments => some (0x05, [])
  | .join => some (0x06, [])
  | .leave => some (0x07, [])
  | .restart => some (0x08, [])
  | .readSegment segment => some (0x09, [segment])
  | .readCells segment first last => some (0x0A, [segment, first, last])
  | .reportTemperature segment temperature => some (0x0B, [segment, twos16 temperature])
  | .markSnowfall first last clearSalt broadcast => some (0x0C, [first, last, clearSalt, broadcast])
  | .requestClaim segment intent urgency => some (0x0D, [segment, intent, urgency])
  | .releaseClaim segment => some (0x0E, [segment])
  | .readClaims => some (0x0F, [])
  | .enterSegment segment direction => some (0x10, [segment, direction])
  | .start => some (0x11, [])
  | .armStart => some (0x12, [])
  | .stopRoute => some (0x13, [])
  | .sendGo => some (0x14, [])
  | .sendHold holdType reason => some (0x15, [holdType, reason])
  | .sendResume => some (0x16, [])
  | .setBeacon intensity => some (0x17, [intensity])
  | .loadStock grams => some (0x18, [grams])
  | .raiseCallout urgency segment cell detail => some (0x19, [urgency, segment, cell, detail])
  | _ => none

/-- Numbers at their widths, one after the other. -/
def writeFields : List Nat → List Nat → List Byte
  | w :: ws, n :: ns => beBytes w n ++ writeFields ws ns
  | _, _ => []

/-- The bytes of a request: its code, then its fields at their widths (R197). -/
def encodeRequest (i : Instr) : Option (List Byte) :=
  match requestParts i with
  | none => none
  | some (code, fields) => some (byteOf code :: writeFields ((requestWidths code).getD []) fields)

/-! ## Frames (R7, R10, R11, R196) -/

/-- The widths of the payload fields of a kind (section 11.2). -/
def payloadWidths : Nat → Option (List Nat)
  | 1 => some [1, 1, 1, 1]
  | 2 => some [2, 1, 1, 1]
  | 3 => some [2]
  | 4 => some [2, 1, 1, 1, 1, 1]
  | 5 => some [2, 1, 1]
  | 6 => some [1, 1, 1]
  | 7 => some [1]
  | 8 => some [1]
  | 9 => some [1, 1, 1, 2, 1, 1, 1, 2]
  | 10 => some [2, 2, 1]
  | _ => none

/-- The payload of a kind with its fields (section 11.2). -/
def payloadOf : Nat → List Nat → Option Payload
  | 1, [c, d, m, g] => some (.presence c d m g)
  | 2, [s, i, r, m] => some (.claim s i r m)
  | 3, [s] => some (.release s)
  | 4, [s, f, l, w, d, x] => some (.progress s f l w d x)
  | 5, [s, c, z] => some (.guest s c z)
  | 6, [g, t, r] => some (.hold g t r)
  | 7, [g] => some (.resume g)
  | 8, [g] => some (.go g)
  | 9, [o, q, c, s, e, h, x, d] => some (.callout o q c s e h x d)
  | 10, [f, l, c] => some (.snowfall f l c)
  | _, _ => none

/-- The command that delivers a payload of `sender`, with the sensed value of its response field (R11). -/
def delivery (sender : Nat) (p : Payload) (sensed : Nat) : Instr :=
  match p with
  | .presence c d m g => .presence sender c d m g
  | .claim s i r m => .claim sender s i r m sensed
  | .release s => .release sender s
  | .progress s f l w d x => .progress sender s f l w d x
  | .guest s c z => .guest sender s c z
  | .hold g t r => .hold sender g t r
  | .resume g => .resume sender g
  | .go g => .go sender g
  | .callout o q c s e h x d => .callout sender o q c s e h x d sensed
  | .snowfall f l c => .snowfall sender f l c

/-- What the bytes of a frame heard after a start mark come to at station `own`, its response field having ended with
the sensed value (R10, R11): the header checks, the check byte, and the sender. -/
def hearFrame (own sensed : Nat) : List Byte → Instr
  | b0 :: b1 :: b2 :: rest =>
    match payloadWidths (b0.toNat % 32) with
    | none => .frameDiscarded .header
    | some ws =>
      if b1.toNat = 0 ∨ 254 < b1.toNat ∨ b2.toNat ≠ totalWidth ws then .frameDiscarded .header
      else if rest.drop (totalWidth ws) ≠ [checkByte (b0 :: b1 :: b2 :: rest.take (totalWidth ws))] then
        .frameDiscarded .checkByte
      else if b1.toNat = own then .duplicateStation
      else
        match payloadOf (b0.toNat % 32) (readFields ws rest) with
        | some p => delivery b1.toNat p sensed
        | none => .frameDiscarded .header
  | _ => .frameDiscarded .header

/-- The payload's fields fit their widths (section 11.2). -/
def payloadFits (p : Payload) : Bool := p.fields.all fun f => decide (f.2 < 256 ^ f.1)

end Sys2Proof
end

