-- ==== Sys2Proof/Machine/Flags.lean ====
section
/-! DEFINITION. The conditions, lines and values that the rules define as functions of the state: they are
computed here, never stored apart (log 37). -/

namespace Sys2Proof.Machine

/-! ## Station -/

/-- "Now": the work clock (00_scope.md, Conventions). -/
def State.now (s : State) : Nat := s.station.clock

/-- The configuration record. -/
def State.cfg (s : State) : Configuration := s.station.config

/-- The station is a ROBOT with a valid configuration. -/
def State.isRobot (s : State) : Bool := s.station.configValid && s.cfg.cls == .robot

/-- The station is a DEPOT with a valid configuration. -/
def State.isDepot (s : State) : Bool := s.station.configValid && s.cfg.cls == .depot

/-- The receiver is on in every station state but OFFLINE (section 2.1). -/
def State.receiverOn (s : State) : Bool := !(s.station.state == .offline)

/-- ACTIVE without a pending Leave: the column of R187 that admits new work on the channel. -/
def State.working (s : State) : Bool := s.station.state == .active && !s.station.leavePending

/-- The service distance that R43 gives. -/
def State.serviceDistance (s : State) : Nat :=
  if s.station.configValid then
    match s.cfg.cls with
    | .depot => 0
    | .robot =>
      match (s.station.neighbours.map (·.distance)).min? with
      | some d => min 15 (1 + d)
      | none => 15
  else 15

/-- The presence interval runs in ACTIVE while no Leave is pending (R38). -/
def State.presenceRuns (s : State) : Bool := s.working

/-! ## Channel -/

/-- The assembler holds a frame in assembly (R10). -/
def Assembler.inFrame : Assembler → Bool
  | .header => true
  | .body => true
  | .gap => true
  | .response => true
  | _ => false

/-- The symbol on the air where each station within range keys as listed: dominant if any of them keys (R1). -/
def onAir (keyed : List Bool) : Bool := keyed.any id

/-- The symbol sensed where RXCAR, sampled in the middle of the symbol period, shows a carrier or none: a carrier is
dominant (R1). -/
def sensedSymbol (carrier : Bool) : Bool := carrier

/-- The assembler is in the part of a frame that its sender keys: the start mark, at the sender still in HUNT, the header
or the body (R7, R10, R13). -/
def Assembler.keyed : Assembler → Bool
  | .hunt => true
  | .header => true
  | .body => true
  | _ => false

/-- The symbols, `true` dominant, that the channel controller is to key, counted as `symbol` counts them. The frame in
flight: its symbols from the start mark to the check byte, and nothing through its gap and field or once its assembly has
ended (R13, R15, R17). No frame in flight: a response value after the gap's four symbols, if one is keyed (R9, R19). -/
def State.keyedSymbols (s : State) : List Bool :=
  match s.channel.flight, s.channel.response with
  | some f, _ => if s.channel.assembler.keyed then frameSymbols f.image else []
  | none, some v => List.replicate Config.gapSymbols false ++ responseSymbols v
  | none, none => []

/-- The symbol that follows `sensed` in the keying of `plan`: recessive after its end, and from the first symbol sensed
otherwise than keyed (R14 to R16, R20). -/
def keyNext (plan sensed : List Bool) : Bool :=
  if sensed.isPrefixOf plan then plan.getD sensed.length false else false

/-- TXKEY in the symbol period that follows `sensed`, the symbols sensed since the frame, or its gap, began: on while
a seize is keyed, else as the frame in flight or the response is keyed, else off (R1, R13, R18, R19). -/
def State.txkey (s : State) (sensed : List Bool) : Bool :=
  s.channel.seizeLeft != 0 || keyNext s.keyedSymbols sensed

/-- TXKEY in the `k`-th symbol period of the present millisecond, each symbol having been sensed as keyed (R1, log 28). -/
def State.txkeyNow (s : State) (k : Nat) : Bool := s.txkey (s.keyedSymbols.take (s.channel.symbol + k))

/-- The conditions of R13 for starting the head frame, the queue not being empty among them. -/
def State.mayStartFrame (s : State) : Bool :=
  s.station.state == .active && s.channel.condition == .idle && s.channel.flight.isNone
    && s.channel.seizeLeft == 0 && !s.channel.queue.isEmpty

/-- The conditions of R19 for keying a response value. -/
def State.mayRespond (s : State) : Bool :=
  s.station.state == .active && !(s.channel.condition == .jammed) && s.channel.seizeLeft == 0

/-- The station's role in a response field (R20). -/
inductive Role where
  | none
  | won
  | lost
deriving DecidableEq, Repr

/-- An own seize has taken the response from the field that ended with the sensed value, and every symbol of the field
that had passed by then was sensed as keyed: this station was keying, and takes nothing from the frame (R18). Where a
symbol was sensed otherwise it had lost before the seize and keyed nothing more (R20). -/
def Channel.takesNothing (sensed : Nat) (c : Channel) : Bool :=
  c.abandoned.any fun a =>
    (responseSymbols a.value).take (a.symbol - Config.gapSymbols)
      == (responseSymbols sensed).take (a.symbol - Config.gapSymbols)

/-- The role in a field with the sensed value: NONE where nothing was keyed, WON where every symbol was sensed
as keyed, LOST otherwise, before a seize took the response too (R18, R20). -/
def State.role (s : State) (sensed : Nat) : Role :=
  match s.channel.response with
  | .none => if s.channel.abandoned.isSome && !s.channel.takesNothing sensed then .lost else .none
  | .some v => if v = sensed then .won else .lost

/-! ## Segments -/

/-- The record of a segment, if the table holds one (R44). -/
def State.segment? (s : State) (n : Nat) : Option Segment := s.segs.records.find? (·.number == n)

/-- The current segment (R106). -/
def State.currentSegment (s : State) : Option Nat := s.odo.entry.map (·.segment)

/-- The current segment and cell (R110). -/
def State.place (s : State) : Option (Nat × Nat) := s.odo.entry.map fun e => (e.segment, e.cell)

/-- The current segment and cell, or 0 and 0 with no current segment (R126, R125). -/
def State.placeOrZero (s : State) : Nat × Nat := s.place.getD (0, 0)

/-- The record of the current segment. -/
def State.currentRecord (s : State) : Option Segment := s.currentSegment.bind s.segment?

/-- The number of cells of a segment of `len` dm: its length over 50, rounded up (R47). -/
def cellCount (len : Nat) : Nat := (len + 49) / 50

/-- The length in dm of cell `i` of a segment of `len` dm (R47). -/
def cellLength (len i : Nat) : Nat := if i + 1 = cellCount len then len - 50 * i else 50

/-- A length in odometer counts, rounded down (R47, R100). -/
def inCounts (cfg : Configuration) (dm : Nat) : Nat := dm * cfg.countsPerMetre / 10

/-- The residual of a cell at work clock `now` with a residual window of `w` minutes (R67). -/
def residual (w now : Nat) (c : Cell) : Nat :=
  match c.saltedAt with
  | none => 0
  | some t =>
    if now - t ≤ 60 * w then c.dose
    else if now - t ≤ 120 * w then c.dose / 2
    else 0

/-! ## Claims -/

/-- Two intents on one segment conflict (R68). -/
def conflicts : Intent → Intent → Bool
  | .plow, _ => true
  | _, .plow => true
  | .salt, .salt => true
  | _, _ => false

/-- The rank of a claim (R69). -/
def claimRank (urgency : Nat) (intent : Intent) (deferrals : Nat) : Nat :=
  1 + (3 - urgency) * 64 + intentCode intent * 16 + (15 - min 15 deferrals)

/-- A (rank, station) pair as the 16-bit value of R69: the lower value is the stronger pair. -/
def claimValue (rank station : Nat) : Nat := rank * 256 + station

/-- The own record for a segment, if there is one (R71). -/
def State.ownClaim? (s : State) (n : Nat) : Option OwnClaim := s.claims.own.find? (·.segment == n)

/-- An own HOLDING record for the segment exists. -/
def State.holds (s : State) (n : Nat) : Bool :=
  match s.ownClaim? n with
  | some r => r.state == .holding
  | none => false

/-- A record is occupied: HOLDING, on the current segment, while the motion state is not IDLE (R73). -/
def State.occupied (s : State) (r : OwnClaim) : Bool :=
  r.state == .holding && s.currentSegment == some r.segment && !(s.motion.state == .idle)

/-- The unexpired view entries for a segment that conflict with an intent. -/
def State.conflictingView (s : State) (n : Nat) (i : Intent) : List ViewEntry :=
  s.claims.view.filter fun v => v.segment == n && conflicts v.intent i && decide (s.now < v.expiry)

/-- The strongest entry of a list: the lowest (rank, holder) value (R69). -/
def strongest : List ViewEntry → Option ViewEntry
  | [] => none
  | v :: r =>
    match strongest r with
    | none => some v
    | some w => if claimValue v.rank v.holder ≤ claimValue w.rank w.holder then some v else some w

/-- The strongest unexpired conflicting view entry that is stronger than (rank, this station) (R74, R91). -/
def State.strongerView (s : State) (n : Nat) (i : Intent) (rank : Nat) : Option ViewEntry :=
  strongest ((s.conflictingView n i).filter fun v =>
    decide (claimValue v.rank v.holder < claimValue rank s.cfg.station))

/-- Which offer of a refresh of a HOLDING record comes now (R85; log 22): the first at its last successful send + 20 s, the
second at + 40 s, each once, in ACTIVE without a pending Leave. -/
def State.refreshDue (s : State) (r : OwnClaim) : Option Nat :=
  if s.working ∧ r.state = .holding then
    match r.lastSend with
    | none => none
    | some t =>
      if s.now = t + Config.refreshAfter ∧ r.refreshesOffered = 0 then some 1
      else if s.now = t + 2 * Config.refreshAfter ∧ r.refreshesOffered ≤ 1 then some 2
      else none
  else none

/-- A HOLDING record has reached its last successful send + 50 s (R88). -/
def State.lapseDue (s : State) (r : OwnClaim) : Bool :=
  r.state == .holding &&
    match r.lastSend with
    | none => false
    | some t => decide (t + Config.lapseAfter ≤ s.now)

/-! ## Odometry -/

/-- The decoder runs while the configuration is valid and of class ROBOT (R98). -/
def State.decoderRuns (s : State) : Bool := s.isRobot

/-- The accounting position of a counter on a segment of `len` counts (R101). -/
def accounting (len : Nat) (position : Int) : Nat :=
  if position < 0 then 0 else min position.toNat (len - 1)

/-- The cell index of an accounting position (R101). -/
def cellIndex (cfg : Configuration) (p : Nat) : Nat := p / (5 * cfg.countsPerMetre)

/-- An accounting position in mm (R102). -/
def positionMm (cfg : Configuration) (p : Nat) : Nat :=
  p / cfg.countsPerMetre * 1000 + p % cfg.countsPerMetre * 1000 / cfg.countsPerMetre

/-- The wheel count an edge gives in a decode mode (R97). -/
def edgeCount (m : DecodeMode) (e : Edge) : Int :=
  match e.line, e.rises, e.otherHigh with
  | .a, true, false => 1
  | .a, true, true => -1
  | .a, false, true => if m = .x1 then 0 else 1
  | .a, false, false => if m = .x1 then 0 else -1
  | .b, true, true => if m = .x4 then 1 else 0
  | .b, true, false => if m = .x4 then -1 else 0
  | .b, false, false => if m = .x4 then 1 else 0
  | .b, false, true => if m = .x4 then -1 else 0

/-- The speed of a window with net wheel count magnitude `n` (R107). -/
def sampleSpeed (cfg : Configuration) (n : Nat) : Nat :=
  if cfg.countsPerMetre ≤ n then 4000 else n * 4000 / cfg.countsPerMetre

/-! ## Motion -/

/-- The own guest zone (R126). -/
def State.zone (s : State) : Zone :=
  if s.motion.latch then .protective else if s.motion.warning then .warning else .clear

/-- PERMIT: on in RUN, CAUTION and STOPPING while the own claim on the current segment is HOLDING (R112). -/
def State.permit (s : State) : Bool :=
  (s.motion.state == .run || s.motion.state == .caution || s.motion.state == .stopping) &&
    match s.currentSegment with
    | some n => s.holds n
    | none => false

/-- A guest notice is held for the segment (R127): a segment with no record contributes nothing. -/
def State.guestOn (s : State) (n : Nat) : Bool :=
  match s.segment? n with
  | some r => r.guest.isSome
  | none => false

/-- Caution cause: own warning (R127). -/
def State.causeWarning (s : State) : Bool := s.motion.warning

/-- Caution cause: a peer's guest on the current segment or a segment it lists as adjacent (R127). -/
def State.causePeer (s : State) : Bool :=
  match s.currentSegment with
  | none => false
  | some n =>
    s.guestOn n || match s.segment? n with
      | some r => r.adjacent.any s.guestOn
      | none => false

/-- Caution cause: the seize caution period runs (R127, R128). -/
def State.causeSeize (s : State) : Bool := s.motion.seizePeriod.isSome

/-- A caution cause is present (R127). -/
def State.cautionCause (s : State) : Bool := s.causeWarning || s.causePeer || s.causeSeize

/-- The target RUN has: the current segment's speed limit, or the salt speed limit while the feed is active and
that is lower (R113). -/
def State.runTarget (s : State) : Nat :=
  match s.currentRecord with
  | none => 0
  | some r =>
    match s.dosing.active, s.dosing.vSalt with
    | true, some v => min v r.speedLimit
    | _, _ => r.speedLimit

/-- The target toward which the ceiling moves (R113). -/
def State.target (s : State) : Nat :=
  match s.motion.state with
  | .run => s.runTarget
  | .caution => min s.runTarget s.cfg.crawl
  | _ => 0

/-- BEACON: the effective intensity (R134). -/
def State.beacon (s : State) : Nat :=
  match s.motion.state with
  | .idle => 0
  | .retained => 0
  | .run => s.cfg.workBeacon
  | .caution => 192
  | .stopping =>
    match s.motion.stopFrom with
    | .run => s.cfg.workBeacon
    | .caution => 192
  | .groupHold => 128
  | .guestStop => 255
  | .faultStop => 255

/-- The restart timer runs: latch set, last PROT_FIELD sample inactive, warning cleared (R124). -/
def State.restartRuns (s : State) : Bool :=
  s.motion.latch && !s.motion.lastProt && !s.motion.warning

/-- What the ceiling is clamped to on entry to a motion state (R114). -/
def clampCeiling (new : MotionState) (crawl ceiling : Nat) : Nat :=
  match new with
  | .caution => min ceiling crawl
  | .run => ceiling
  | .stopping => ceiling
  | _ => 0

/-- The amount a decrement mode leaves of a counter (R121, R131). -/
def lowered (d : Decrement) (n : Nat) : Nat :=
  match d with
  | .reset => 0
  | .by1 => n - 1
  | .by2 => n - 2
  | .by4 => n - 4

/-- The set of fault causes with one more (R129). -/
def FaultSet.add (f : FaultSet) : FaultCause → FaultSet
  | .overspeed => { f with overspeed := true }
  | .stuck => { f with stuck := true }
  | .odometer => { f with odometer := true }
  | .claimLost => { f with claimLost := true }

/-- The cause a MOTION event carries for a fault (R111). -/
def faultMotionCause : FaultCause → MotionCause
  | .overspeed => .overspeed
  | .stuck => .stuck
  | .odometer => .odometer
  | .claimLost => .claimLost

/-! ## Group -/

/-- The station's own entry in the hold set (R143). -/
def State.ownHold? (s : State) : Option HoldEntry :=
  s.group.holds.find? (·.originator == s.cfg.station)

/-- The hold type and reason the marks give the own hold (R143). -/
def Group.ownValues (g : Group) : Option (HoldType × HoldReason) :=
  if g.guestMark then some (.immediate, .guest) else g.hostMark

/-- The effective hold type (R147). -/
def State.effectiveHold (s : State) : HoldType :=
  if s.cfg.alwaysImmediate || s.group.holds.any (·.holdType == .immediate) then .immediate else .decelerate

/-! ## Dosing -/

/-- The salting conditions (R150). -/
def State.saltingConditions (s : State) : Bool :=
  s.isRobot && !s.motion.warning && decide (s.cfg.feedCal ≤ s.dosing.stock) &&
    match s.currentRecord with
    | none => false
    | some r =>
      r.saltPermitted &&
        match s.ownClaim? r.number with
        | none => false
        | some c => c.state == .holding && !(c.intent == .transit)

/-- The feed is to be active (R150). -/
def State.feedShouldRun (s : State) : Bool :=
  s.saltingConditions &&
    (s.motion.state == .run || s.motion.state == .caution || s.motion.state == .stopping)

/-- The surface temperature of a record at work clock `now` (R152). -/
def surfaceTemp (now : Nat) (r : Segment) : Int :=
  match r.reported with
  | some (t, at_) => if now - at_ ≤ Config.reportLife then t else r.defaultTemp
  | none => r.defaultTemp

/-- The temperature band (R153). -/
def tempBand (t : Int) : Nat :=
  if 10 ≤ t then 0
  else if 0 ≤ t then 1
  else if -30 ≤ t then 2
  else if -60 ≤ t then 3
  else if -100 ≤ t then 4
  else 5

/-- The base dose B (R153): the table is by surface class, each with its six bands (R197). -/
def baseDose (cfg : Configuration) (surface : Surface) (t : Int) : Nat :=
  cfg.doses.getD (surfaceCode surface * 6 + tempBand t) 0

/-- The cell need for a pass with the given residual at entry (R153). -/
def cellNeed (cfg : Configuration) (now : Nat) (r : Segment) (residualAtEntry : Nat) : Nat :=
  baseDose cfg r.surface (surfaceTemp now r) - residualAtEntry

/-- The salt speed limit for dose D (R156). -/
def saltLimit (cfg : Configuration) (dose : Nat) : Option Nat :=
  if dose = 0 then none
  else some (max 100 (min 4000 (cfg.feedMax * 16 * 25 * cfg.feedCal / (4 * dose * cfg.width))))

/-- The feed rate before the cap (R157). -/
def uncappedRate (cfg : Configuration) (dose speed : Nat) : Nat :=
  dose * cfg.width * speed * 4 / (25 * cfg.feedCal)

/-- The delivered dose of a pass with `pulses` feed pulses over `lc` dm (R160). -/
def deliveredDose (cfg : Configuration) (pulses lc : Nat) : Nat :=
  min 63 ((2 * min pulses 65535 * cfg.feedCal + cfg.width * lc) / (2 * cfg.width * lc))

/-- A FEED pulse of this moment is emitted: the feed is active and the stock is at least G (R158); with a rate of 0 the
accumulator is 0 and no pulse comes (R159). -/
def State.emitsPulse (s : State) : Bool :=
  s.dosing.active && decide (s.cfg.feedCal ≤ s.dosing.stock) && decide (0 < s.dosing.rate)

/-- One pulse of the present step of 1 ms is out, and the accumulator still stands at 16,000 or more: a second one
follows 500 µs after the first, unless the feed has become inactive by then (R158). -/
def State.secondPulseDue (s : State) : Bool :=
  s.emitsPulse && s.dosing.pulsesNow == 1 && decide (16000 ≤ s.dosing.acc)

/-- FEED, `us` µs after the start of the present step of 1 ms: high for 100 µs at the first pulse of the step, and for
100 µs from 500 µs on at a second one (R158); low with no pulse (R159). -/
def State.feedLine (s : State) (us : Nat) : Bool :=
  (decide (1 ≤ s.dosing.pulsesNow) && decide (us < 100))
    || (decide (2 ≤ s.dosing.pulsesNow) && decide (500 ≤ us) && decide (us < 600))

/-! ## Host port -/

/-- The port waits for SEL to rise: it came out of a reset with SEL low, and that transaction has not ended (R185,
R195). -/
def State.portWaits (s : State) : Bool := s.host.heldSel

/-- ATTN: the event queue holds a record (R192). -/
def State.attn (s : State) : Bool := !s.host.events.isEmpty

end Sys2Proof.Machine
end

