-- ==== Sys2Proof/Machine/Ops.lean ====
section
/-! DEFINITION. The named operations that several commands share: event records, replies, the transmit queue and
what becomes of a frame that leaves it unsent, ends of claims and callouts, raising a callout, the neighbour table
and the service distance. -/

namespace Sys2Proof.Machine

/-! ## Host port -/

/-- Post an event record: at the end of the queue, or, in a full queue, in place of the oldest record and with the
dropped flag set (R190). -/
def post (e : Event) (s : State) : State :=
  s.onHost fun h =>
    if h.events.length < Config.eventCap then
      { h with events := h.events ++ [⟨e, s.now, false⟩] }
    else
      { h with events := h.events.drop 1 ++ [⟨e, s.now, true⟩] }

/-- Form the reply of a request: its status byte and result fields (R184). -/
def reply (bs : List Byte) (s : State) : State := s.onHost fun h => { h with reply := some bs }

/-- The transaction ends with nothing taken and no reply; the port waits no longer (R185). -/
def nothingTaken (s : State) : State := s.onHost fun h => { h with reply := none, heldSel := false }

/-- The answer `r` to a request that the port takes. While it waits for SEL to rise it takes nothing in the transaction
that a reset found under way, and a request sent in it is lost; the next one is taken (R185, R195; log 29). -/
def whenTaken (s : State) (r : Result) : Result := if s.portWaits then .next (nothingTaken s) else r

/-- The reply OK with result fields (R186). -/
def ok (fields : List Byte) (s : State) : State := reply (statusOk :: fields) s

/-- A refusal: the status byte alone, and nothing else changes (R186). -/
def refuse (status : Byte) (s : State) : Result := .next (reply [status] s)

/-! ## Lists kept in a stated order -/

/-- Remove the first entry with the least key: the earliest expiry, and among several the one that stands first. -/
def dropEarliest {α : Type} (key : α → Nat) (l : List α) : List α :=
  match (l.map key).min? with
  | none => l
  | some m => l.eraseP fun x => key x == m

/-- Change the entries that satisfy `p`. -/
def updateIf {α : Type} (p : α → Bool) (f : α → α) (l : List α) : List α :=
  l.map fun x => if p x then f x else x

/-! ## Service distance (R43) -/

/-- Recompute the service distance; a change posts a STATION event DISTANCE (R43). -/
def recomputeDistance (s : State) : State :=
  let d := s.serviceDistance
  if d = s.station.distance then s
  else post (.distance s.station.distance d) (s.onStation fun t => { t with distance := d })

/-! ## The transmit queue (R22 to R26) -/

/-- Put a frame in its place: after every frame of its own or a lower priority value (R22). -/
def insertFrame (f : Queued) : List Queued → List Queued
  | [] => [f]
  | q :: r => if q.priority ≤ f.priority then q :: insertFrame f r else f :: q :: r

/-- The entry number of the frame in flight (R13). -/
def Channel.flightEntry (c : Channel) : Option Nat := c.flight.map (·.entry)

/-- The queued frame, other than the frame in flight, that a full queue may give up: the greatest priority value,
and among several the youngest (R23). -/
def giveUp (inFlight : Option Nat) : List Queued → Option Queued
  | [] => none
  | q :: r =>
    match giveUp inFlight r with
    | none => if inFlight = some q.entry then none else some q
    | some c =>
      if inFlight ≠ some q.entry ∧ (c.priority < q.priority ∨ (c.priority = q.priority ∧ c.entry < q.entry))
      then some q else some c

/-- The assembler is past the check byte of a frame, in its gap or its response field (R10). -/
def Assembler.inField : Assembler → Bool
  | .gap => true
  | .response => true
  | _ => false

/-- The frame in flight while it is in the queue `q`, and none once it has left it (R13, R25). -/
def Channel.flightIn (q : List Queued) (c : Channel) : Option Flight :=
  c.flight.filter fun f => q.any (·.entry == f.entry)

/-- Remove the queued frames that satisfy `p`. A frame in flight so removed stops being keyed; in its gap or field it has
been keyed whole, and its echo goes on to its end (R11, R25; log 38). -/
def withdraw (p : Queued → Bool) (s : State) : State :=
  s.onChannel fun c =>
    let q := c.queue.filter fun q => !p q
    { c with
      queue := q
      flight := c.flightIn q
      echo := c.echo || (c.flight.isSome && (c.flightIn q).isNone && c.assembler.inField) }

/-- The queued frame is this station's CLAIM frame for the segment. -/
def isClaimFor (segment : Nat) (q : Queued) : Bool :=
  match q.payload with
  | .claim n _ _ _ => n == segment
  | _ => false

/-- The queued frame carries the callout pair (R171, R178). -/
def isCalloutFor (origin seq : Nat) (q : Queued) : Bool :=
  match q.payload with
  | .callout o n _ _ _ _ _ _ => o == origin && n == seq
  | _ => false

/-- A transmit outcome other than TX_UNHEARD is reported: the unheard count goes back to 0 (R16). At 3 the station
is SILENT and the count stays until OFFLINE (R16; log 10). -/
def noteOutcome (s : State) : State :=
  s.onChannel fun c => { c with unheardCount := if c.unheardCount < 3 then 0 else c.unheardCount }

/-! ## Ends of own claims (R72) -/

/-- An own record ends: the record is removed, its CLAIM frame withdrawn, a DENIED counted as a deferral (R70), and
the CLAIM event posted (R72). -/
def endOwn (segment : Nat) (change : ClaimChange) (stronger : Option (Nat × Nat)) (s : State) : State :=
  match s.ownClaim? segment with
  | none => s
  | some r =>
    post (.claim segment r.intent r.rank change (s.occupied r) stronger)
      (withdraw (isClaimFor segment)
        (s.onClaims fun c =>
          { c with
            own := c.own.filter fun x => !(x.segment == segment)
            deferrals := if change = .denied then min 255 (c.deferrals + 1) else c.deferrals }))

/-- Change the own record of a segment. -/
def updateOwn (segment : Nat) (f : OwnClaim → OwnClaim) (s : State) : State :=
  s.onClaims fun c => { c with own := updateIf (·.segment == segment) f c.own }

/-! ## Callouts (R168 to R181) -/

/-- An own callout ends: the record is removed and its CALLOUT event posted (R172); NOT_SENT carries no sequence
number (R183). -/
def endCallout (c : OwnCallout) (outcome : CalloutOutcome) (ackedBy : Option (Nat × Nat)) (s : State) : State :=
  post (.callout c.code (if outcome = .notSent then none else some c.seq) c.segment c.cell c.detail outcome c.attempts ackedBy)
    (s.onCallout fun u => { u with own := u.own.filter fun x => !(x.seq == c.seq) })

/-- One attempt of an own callout has failed (R172): at the fifth the record ends UNROUTED, before it the record
waits for its backoff. -/
def ownAttempt (seq : Nat) (s : State) : State :=
  match s.callout.own.find? (·.seq == seq) with
  | none => s
  | some c =>
    if c.attempts + 1 < Config.ownAttempts then
      s.onCallout fun u =>
        { u with own := updateIf (·.seq == seq) (fun x => { x with attempts := x.attempts + 1, retry := .awaiting 0 }) u.own }
    else endCallout { c with attempts := c.attempts + 1 } .unrouted none s

/-- The relay entry is the one with this pair (R178). -/
def RelayEntry.isPair (e : RelayEntry) (origin seq : Nat) : Bool := e.origin == origin && e.seq == seq

/-- The recent-relay pair is this one (R181). -/
def RecentPair.isPair (p : RecentPair) (origin seq : Nat) : Bool := p.origin == origin && p.seq == seq

/-- A pair joins the recent-relay list, a full list losing the pair with the earliest expiry (R181). -/
def addRecent (origin seq : Nat) (s : State) : State :=
  s.onCallout fun u =>
    { u with
      recent := (if u.recent.length < Config.recentCap then u.recent else dropEarliest (·.expiry) u.recent)
        ++ [⟨origin, seq, s.now + Config.recentLife⟩] }

/-- A relay entry leaves the queue and its pair joins the recent-relay list (R179). -/
def leaveRelay (origin seq : Nat) (s : State) : State :=
  if s.callout.relay.any (·.isPair origin seq) then
    addRecent origin seq (s.onCallout fun u => { u with relay := u.relay.filter fun x => !x.isPair origin seq })
  else s

/-- One attempt of a relay entry has failed (R179). -/
def relayAttempt (origin seq : Nat) (s : State) : State :=
  match s.callout.relay.find? (·.isPair origin seq) with
  | none => s
  | some e =>
    if e.attempts + 1 < Config.relayAttempts then
      s.onCallout fun u =>
        { u with relay := updateIf (·.isPair origin seq) (fun x => { x with attempts := x.attempts + 1, retry := .awaiting 0 }) u.relay }
    else leaveRelay origin seq s

/-- A callout frame is of this station's own list when its origin is this station, of the relay queue otherwise. -/
def calloutAttempt (origin seq : Nat) (s : State) : State :=
  if origin = s.cfg.station then ownAttempt seq s else relayAttempt origin seq s

/-! ## A frame that leaves the queue unsent -/

/-- A frame ends STALE or DISPLACED: its outcome reaches the block that queued it (R26). A NEW claim ends STALE
(R78), a REFRESH leaves its record without a frame (R87), a callout has made an attempt (R172, R179); for every
other kind the frame only ends (R39, R59, R62, R92, R126, R137). -/
def unsent (p : Payload) (s : State) : State :=
  match p with
  | .claim n _ _ mode =>
    if mode = 0 then endOwn n .stale none (noteOutcome s)
    else updateOwn n (fun r => { r with frame := .none }) (noteOutcome s)
  | .callout origin seq _ _ _ _ _ _ => calloutAttempt origin seq (noteOutcome s)
  | _ => noteOutcome s

/-- A frame joins the queue in its place, with the next entry number (R22, R23). -/
def enterQueue (owner : Block) (p : Payload) (s : State) : State :=
  s.onChannel fun c =>
    { c with queue := insertFrame ⟨p, p.priority, owner, 0, c.nextEntry⟩ c.queue, nextEntry := c.nextEntry + 1 }

/-- A block queues a frame (R23). OFFLINE: STALE at once. A full queue gives up a frame of a greater priority value,
or refuses the new one with DISPLACED. -/
def queueFrame (owner : Block) (p : Payload) (s : State) : State :=
  if s.station.state = .offline then unsent p s
  else if s.channel.queue.length < Config.txQueueCap then enterQueue owner p s
  else
    match giveUp s.channel.flightEntry s.channel.queue with
    | none => unsent p s
    | some v =>
      if p.priority < v.priority then
        unsent v.payload (enterQueue owner p (withdraw (·.entry == v.entry) s))
      else unsent p s

/-- A frame of this station that satisfies `p` is queued and not in flight; of several the one that stands first (DESIGN
CHOICE, unsafe, log 45). -/
def State.waitingFrame (s : State) (p : Payload → Bool) : Option Queued :=
  s.channel.queue.find? fun q => p q.payload && !(s.channel.flightEntry == some q.entry)

/-- Change the payload of a queued frame; it keeps its place, entry number and age (R25). -/
def changePayload (entry : Nat) (p : Payload) (s : State) : State :=
  s.onChannel fun c => { c with queue := updateIf (·.entry == entry) (fun q => { q with payload := p }) c.queue }

/-- Offer a frame of which one is enough: a queued one that is not in flight takes the new values, otherwise a new
frame is queued (R38, R126, R144). -/
def offerFrame (owner : Block) (same : Payload → Bool) (p : Payload) (s : State) : State :=
  match s.waitingFrame same with
  | some q => changePayload q.entry p s
  | none => queueFrame owner p s

/-! ## Raising a callout -/

/-- The first sequence number from `n` on, 255 followed by 0, that none of `held` is (R168). -/
def freeSeq : Nat → List Nat → Nat → Nat
  | 0, _, n => n
  | fuel + 1, held, n => if held.contains n then freeSeq fuel held ((n + 1) % 256) else n

/-- The origin sequence number the next callout takes (R168). -/
def State.nextSeq (s : State) : Nat :=
  let held := s.callout.own.map (·.seq)
  freeSeq held.length held (s.callout.seq % 256)

/-- The counter becomes one more than the number taken (R168). -/
def takeSeq (n : Nat) (s : State) : State := s.onCallout fun u => { u with seq := (n + 1) % 256 }

/-- Queue the frame of an own callout record (R171). -/
def queueOwnCallout (c : OwnCallout) (s : State) : State :=
  queueFrame .callout (.callout s.cfg.station c.seq c.code c.segment c.cell 0 s.station.distance c.detail) s

/-- Queue a forward frame of a relay entry (R178). -/
def queueRelay (e : RelayEntry) (s : State) : State :=
  queueFrame .callout (.callout e.origin e.seq e.code e.segment e.cell e.hop s.station.distance e.detail) s

/-- A block hands a callout to the callout unit. A DEPOT takes a number and delivers it to itself (R170). A ROBOT in
ACTIVE or LISTENING keeps it and queues its frame if its list has room; otherwise NOT_SENT (R168). -/
def raise (code segment cell detail : Nat) (s : State) : State :=
  if s.isDepot then
    let n := s.nextSeq
    post (.callout code (some n) segment cell detail .acked 0 (some (s.cfg.station, 0)))
      (post (.calloutReceived s.cfg.station n code segment cell detail 0 s.cfg.station 0) (takeSeq n s))
  else if (s.station.state = .active ∨ s.station.state = .listening) ∧ s.callout.own.length < Config.ownCalloutCap then
    let n := s.nextSeq
    let c : OwnCallout := ⟨code, segment, cell, detail, n, 0, .queued⟩
    queueOwnCallout c ((takeSeq n s).onCallout fun u => { u with own := u.own ++ [c] })
  else post (.callout code none segment cell detail .notSent 0 none) s

/-- Raise a callout with the current segment and cell, or 0 and 0 with no current segment. -/
def raiseHere (code detail : Nat) (s : State) : State :=
  raise code s.placeOrZero.1 s.placeOrZero.2 detail s

/-! ## Neighbour table (R40 to R42) -/

/-- A good PRESENCE or PROGRESS frame refreshes the sender's entry, or creates it, a full table first losing the
entry refreshed longest ago (R41, R42). The distance is recomputed once, the replacement of an entry being one change of
the table (R43; DEDUCED, log 47). -/
def hearNeighbour (n : Neighbour) (s : State) : State :=
  match s.station.neighbours.find? (·.station == n.station) with
  | some old =>
    let s1 := s.onStation fun t =>
      { t with neighbours := t.neighbours.filter (fun x => !(x.station == n.station)) ++ [n] }
    let changed := old.cls ≠ n.cls ∨ old.distance ≠ n.distance ∨ old.motion ≠ n.motion ∨ old.group ≠ n.group
    recomputeDistance (if changed then post (.neighbourChanged n) s1 else s1)
  | none =>
    let s1 :=
      if s.station.neighbours.length < Config.neighbourCap then s
      else
        match s.station.neighbours with
        | [] => s
        | h :: r => post (.neighbourLost h.station) (s.onStation fun t => { t with neighbours := r })
    recomputeDistance
      (post (.neighbourNew n) (s1.onStation fun t => { t with neighbours := t.neighbours ++ [n] }))

end Sys2Proof.Machine
end

