-- ==== Sys2Proof/Machine/MotionOps.lean ====
section
/-! DEFINITION. The operations of the motion supervisor and group control that several commands share: changes of
motion state, the end of an occupancy, entry into RUN or CAUTION, caution, guest notices, the hold set and the own
hold, fault stops and the loss of a claim. -/

namespace Sys2Proof.Machine

/-! ## Changes of motion state -/

/-- The retained flag after a change to a motion state (R138). -/
def keepsRetained : MotionState → Bool
  | .retained => true
  | .groupHold => true
  | .guestStop => true
  | .stopping => true
  | _ => false

/-- An own HOLDING record stopped being occupied (R73): it yields to a stronger unexpired conflicting view entry
(R91). Where several stand against it, it names the strongest (DESIGN CHOICE, unsafe, log 50). -/
def endOccupancy (segment : Nat) (s : State) : State :=
  match s.ownClaim? segment with
  | none => s
  | some r =>
    if r.state = .holding then
      match s.strongerView segment r.intent r.rank with
      | some v => endOwn segment .yielded (some (v.holder, v.rank)) s
      | none => s
    else s

/-- The fields of the motion supervisor after a change of state: the clamp of R114, the fault set of R129, the
stuck counter and overspeed run of R129 to R131, and the guest-blocked timer, which starts from 0 on entry to
GUEST_STOP and stops on leaving it, keeping its value (R125; log 42). -/
def Motion.moved (m : Motion) (new : MotionState) (faults : FaultSet) (crawl : Nat) : Motion :=
  { m with
    state := new
    ceiling := clampCeiling new crawl m.ceiling
    faults := faults
    overspeedRun := if new = .idle ∨ new = .faultStop then 0 else m.overspeedRun
    stuck := if new = .faultStop then 0 else m.stuck
    guestBlockedMs := if new = .guestStop then 0 else m.guestBlockedMs
    guestBlockedRaised := if new = .guestStop then false else m.guestBlockedRaised }

/-- Change the motion state with its MOTION event (R111). Nothing happens where the state is already the one
chosen (R117). The retained flag follows R138. A change to IDLE ends the occupancy of the current segment's record
(R73, R91, R112). `faults` is the set FAULT_STOP holds after the change, empty for every other state (R129). -/
def moveTo (new : MotionState) (cause : MotionCause) (faults : FaultSet) (s : State) : State :=
  if s.motion.state = new then s
  else
    let s1 := (s.onMotion fun m => m.moved new faults s.cfg.crawl).onGroup fun g =>
      { g with retained := g.retained && keepsRetained new }
    let s2 := post (.motion s.motion.state new cause s1.motion.ceiling s.currentSegment faults) s1
    match new, s.currentSegment with
    | .idle, some n => endOccupancy n s2
    | _, _ => s2

/-- Change the motion state to one that holds no fault cause. -/
def move (new : MotionState) (cause : MotionCause) (s : State) : State := moveTo new cause FaultSet.empty s

/-- An entry to "RUN or CAUTION" (R117): GUEST_STOP while the latch is set, GROUP_HOLD while the hold set is not
empty, CAUTION with a caution cause present, RUN otherwise. -/
def enterMoving (cause : MotionCause) (s : State) : State :=
  if s.motion.latch then move .guestStop .guest s
  else if !s.group.holds.isEmpty then move .groupHold .hold s
  else if s.cautionCause then move .caution cause s
  else move .run cause s

/-- Evaluate caution (R127). -/
def evalCaution (s : State) : State :=
  if s.motion.state = .run ∧ s.cautionCause then move .caution .cautionOn s
  else if s.motion.state = .caution ∧ !s.cautionCause then move .run .cautionOff s
  else s

/-- Enter STOPPING from RUN or CAUTION, remembering where from (R119). -/
def enterStopping (stopEnd : StopEnd) (cause : MotionCause) (s : State) : State :=
  move .stopping cause
    (s.onMotion fun m =>
      { m with stopEnd := stopEnd, stopFrom := if m.state = .caution then .caution else .run })

/-- STOPPING ends once the ceiling is 0 and the measured speed below 20 mm/s (R119). -/
def checkStopped (s : State) : State :=
  if s.motion.state = .stopping ∧ s.motion.ceiling = 0 ∧ s.odo.speed < 20 then
    match s.motion.stopEnd with
    | .idle => move .idle .stopped s
    | .groupHold => move .groupHold .hold s
  else s

/-! ## Guest notices (R126) -/

/-- The payload is a GUEST notice. -/
def Payload.isGuest : Payload → Bool
  | .guest .. => true
  | _ => false

/-- Offer a GUEST notice with the current segment, cell and own zone (R126). -/
def offerNotice (s : State) : State :=
  offerFrame .motion Payload.isGuest (.guest s.placeOrZero.1 s.placeOrZero.2 (zoneCode s.zone)) s

/-- The own zone has changed from `old`: the GUEST_ZONE event, a notice, and the notice interval, which starts
from 0 at a change to WARNING or PROTECTIVE and stops at 0 at a change to CLEAR (R126). -/
def zoneChanged (old : Zone) (s : State) : State :=
  if s.zone = old then s
  else
    offerNotice (post (.guestZone s.zone old s.place) (s.onMotion fun m => { m with noticeMs := 0 }))

/-! ## The hold set (R140 to R148) -/

/-- The hold set has just become empty: what the motion supervisor does (R148). -/
def holdsEmptied (s : State) : State :=
  match s.motion.state with
  | .groupHold =>
    if s.group.retained then move .retained .holdCleared s
    else if s.odo.entry.isSome then enterMoving .holdCleared s
    else move .idle .holdCleared s
  | .stopping =>
    match s.motion.stopEnd with
    | .groupHold =>
      if s.odo.entry.isSome then enterMoving .holdCleared s
      else s.onMotion fun m => { m with stopEnd := .idle }
    | .idle => s
  | _ => s

/-- Remove the entry of an originator, with its HOLD event (R140). -/
def dropHold (originator : Nat) (cause : HoldRemoval) (s : State) : State :=
  match s.group.holds.find? (·.originator == originator) with
  | none => s
  | some h =>
    let s1 := s.onGroup fun g => { g with holds := g.holds.filter fun x => !(x.originator == originator) }
    post (.holdRemoved originator cause h.holdType h.reason s1.group.holds.length) s1

/-- Remove the entry of an originator, and act if that leaves the set empty (R142, R148). -/
def removeHold (originator : Nat) (cause : HoldRemoval) (s : State) : State :=
  if s.group.holds.any (·.originator == originator) then
    let s1 := dropHold originator cause s
    if s1.group.holds.isEmpty then holdsEmptied s1 else s1
  else s

/-- An entry was created, or became IMMEDIATE: what the effective hold type does to the motion state (R147). -/
def applyHold (s : State) : State :=
  match s.motion.state with
  | .run =>
    match s.effectiveHold with
    | .immediate => move .groupHold .hold s
    | .decelerate => enterStopping .groupHold .hold s
  | .caution =>
    match s.effectiveHold with
    | .immediate => move .groupHold .hold s
    | .decelerate => enterStopping .groupHold .hold s
  | .stopping =>
    match s.effectiveHold with
    | .immediate => move .groupHold .hold s
    | .decelerate => s.onMotion fun m => { m with stopEnd := .groupHold }
  | .retained => move .groupHold .hold s
  | _ => s

/-- Of the received entries, the one with the earliest expiry, and among several the one created or refreshed
longest ago (R140). The own hold has no expiry and is never chosen. -/
def oldestHold : List HoldEntry → Option HoldEntry
  | [] => none
  | h :: r =>
    match h.expiry, oldestHold r with
    | none, o => o
    | some _, none => some h
    | some a, some o =>
      match o.expiry with
      | none => some h
      | some b => if a < b ∨ (a = b ∧ h.stamp ≤ o.stamp) then some h else some o

/-- Make room for a new originator in a full set (R140). -/
def makeHoldRoom (s : State) : State :=
  if s.group.holds.length < Config.holdCap then s
  else
    match oldestHold s.group.holds with
    | none => s
    | some h => dropHold h.originator .replaced s

/-- Put a new entry at the end of the set, with its HOLD event ADDED (R140). A set in which no entry can make room
does not exist: one entry at most is the own hold. -/
def createHold (originator : Nat) (t : HoldType) (r : HoldReason) (expiry : Option Nat) (s : State) : State :=
  let s0 := makeHoldRoom s
  if s0.group.holds.length < Config.holdCap then
    let s1 := s0.onGroup fun g =>
      { g with holds := g.holds ++ [⟨originator, t, r, expiry, g.nextStamp⟩], nextStamp := g.nextStamp + 1 }
    post (.holdAdded originator t r s1.group.holds.length) s1
  else s0

/-- Give an existing entry new values (R141, R143): an event CHANGED if its hold type or reason differs, and the
motion supervisor acts if the hold type became IMMEDIATE (R147). -/
def changeHold (h : HoldEntry) (t : HoldType) (r : HoldReason) (expiry : Option Nat) (s : State) : State :=
  let s1 := s.onGroup fun g =>
    { g with
      holds := updateIf (·.originator == h.originator)
        (fun x => { x with holdType := t, reason := r, expiry := expiry, stamp := g.nextStamp }) g.holds
      nextStamp := g.nextStamp + 1 }
  let s2 := if h.holdType ≠ t ∨ h.reason ≠ r then post (.holdChanged h.originator t r s1.group.holds.length) s1 else s1
  if h.holdType ≠ .immediate ∧ t = .immediate then applyHold s2 else s2

/-- A HOLD of station H: create or refresh its entry (R141). -/
def receiveHold (originator : Nat) (t : HoldType) (r : HoldReason) (s : State) : State :=
  match s.group.holds.find? (·.originator == originator) with
  | some h => changeHold h t r (some (s.now + Config.holdLife)) s
  | none => applyHold (createHold originator t r (some (s.now + Config.holdLife)) s)

/-! ## The own hold (R143, R144) -/

/-- The payload is a HOLD frame. -/
def Payload.isHold : Payload → Bool
  | .hold .. => true
  | _ => false

/-- Offer a HOLD frame with the own hold's values; the repeat interval starts again (R144). No HOLD is offered
outside ACTIVE or while a Leave is pending. -/
def offerHold (s : State) : State :=
  match s.ownHold? with
  | none => s
  | some h =>
    if s.working then
      offerFrame .group Payload.isHold (.hold s.cfg.group (holdTypeCode h.holdType) (holdReasonCode h.reason))
        (s.onGroup fun g => { g with repeatMs := 0 })
    else s

/-- Queue a RESUME frame for the group (R137). -/
def queueResume (s : State) : State := queueFrame .group (.resume s.cfg.group) s

/-- The marks of the own hold have been set or changed: the entry is created or takes the values its marks give,
a HOLD is offered, and the motion supervisor acts (R143, R144). -/
def raiseOwnHold (s : State) : State :=
  match s.group.ownValues with
  | none => s
  | some (t, r) =>
    match s.ownHold? with
    | none =>
      applyHold (offerHold ((createHold s.cfg.station t r none s).onGroup fun g => { g with repeatMs := 0 }))
    | some h => if h.holdType ≠ t ∨ h.reason ≠ r then offerHold (changeHold h t r none s) else s

/-- A mark of the own hold has been cleared (R143, R146): with no mark left the entry is removed, a RESUME is queued
if `send`, and the interval stops; otherwise the entry takes the values of the mark that remains. -/
def lowerOwnHold (send : Bool) (s : State) : State :=
  match s.group.ownValues with
  | some (t, r) =>
    match s.ownHold? with
    | none => s
    | some h => if h.holdType ≠ t ∨ h.reason ≠ r then offerHold (changeHold h t r none s) else s
  | none =>
    let s1 := (removeHold s.cfg.station .ownCleared s).onGroup fun g => { g with repeatMs := 0 }
    if send then queueResume s1 else s1

/-- Leaving GUEST_STOP: the hold-sent flag is cleared and the guest mark with it (R123). `send` is false only at a
Leave accepted in LISTENING or SILENT (R143, R149). -/
def releaseGuestHold (send : Bool) (s : State) : State :=
  if s.motion.holdSent then
    lowerOwnHold send
      ((s.onMotion fun m => { m with holdSent := false }).onGroup fun g => { g with guestMark := false })
  else s

/-! ## Fault stops (R129, R132) -/

/-- A fault sends the robot to FAULT_STOP, or is added to the causes held there (R129). -/
def faultStop (c : FaultCause) (s : State) : State :=
  if s.motion.state = .faultStop then
    let s1 := s.onMotion fun m => { m with faults := m.faults.add c }
    post (.motion .faultStop .faultStop (faultMotionCause c) s1.motion.ceiling s.currentSegment s1.motion.faults) s1
  else
    let s1 := if s.motion.state = .guestStop then releaseGuestHold true s else s
    moveTo .faultStop (faultMotionCause c) (FaultSet.empty.add c) s1

/-- The detail of CLAIM_LOST: 1 LAPSED or 2 YIELDED in the high byte, the stronger station named or 0 in the low
byte (R132). -/
def claimLostDetail (change : ClaimChange) (stronger : Option (Nat × Nat)) : Nat :=
  (if change = .lapsed then 1 else 2) * 256 + (stronger.map (·.1)).getD 0

/-- An own record ends. A HOLDING record for the current segment that ends LAPSED or YIELDED while the motion state
is not IDLE sends the robot to FAULT_STOP with CLAIM_LOST and raises its callout (R72, R132). -/
def endClaim (segment : Nat) (change : ClaimChange) (stronger : Option (Nat × Nat)) (s : State) : State :=
  let s1 := endOwn segment change stronger s
  if s.holds segment ∧ (change = .lapsed ∨ change = .yielded) ∧ s.currentSegment = some segment
      ∧ s.motion.state ≠ .idle then
    raiseHere 3 (claimLostDetail change stronger) (faultStop .claimLost s1)
  else s1

end Sys2Proof.Machine
end

