-- ==== Sys2Proof/Machine/SegmentOps.lean ====
section
/-! DEFINITION. The operations of the segment table and the dosing unit that several commands share: the pass and
its finalisation, progress reports, snowfall, guest states, the feed and the stock tests, and the end of a segment
entry. -/

namespace Sys2Proof.Machine

/-! ## Records -/

/-- Change the record of a segment (R44). -/
def updateSegment (n : Nat) (f : Segment → Segment) (s : State) : State :=
  s.onSegs fun t => { t with records := updateIf (·.number == n) f t.records }

/-- A cell as it stands after load (R47). -/
def freshCell : Cell := ⟨false, none, 0, none, false⟩

/-- Put a record in its place, by segment number, lowest first, in place of one with the same number (R44, R45). -/
def insertSegment (r : Segment) : List Segment → List Segment
  | [] => [r]
  | x :: l =>
    if x.number < r.number then x :: insertSegment r l
    else if x.number = r.number then r :: l
    else r :: x :: l

/-- Change cell `i` of a list of cells. -/
def updateCell (i : Nat) (f : Cell → Cell) (cells : List Cell) : List Cell :=
  cells.mapIdx fun j c => if j = i then f c else c

/-- Change the cells from `first` to `last`, ends included. -/
def updateCells (first last : Nat) (f : Cell → Cell) (cells : List Cell) : List Cell :=
  cells.mapIdx fun j c => if first ≤ j ∧ j ≤ last then f c else c

/-! ## Dosing (R150 to R164) -/

/-- The feed rate of dose D at speed v, with its capped flag (R157). A rate of 0 sets the accumulator to 0 (R159). -/
def Dosing.withRate (cfg : Configuration) (speed : Nat) (d : Dosing) : Dosing :=
  let raw := uncappedRate cfg d.dose speed
  let rate := min raw (cfg.feedMax * 16)
  { d with rate := rate, capped := decide (cfg.feedMax * 16 < raw), acc := if rate = 0 then 0 else d.acc }

/-- The dosing unit with the feed inactive (R151). -/
def Dosing.stopped (d : Dosing) : Dosing :=
  { d with active := false, dose := 0, vSalt := none, rate := 0, capped := false, acc := 0 }

/-- The dosing unit with the feed active on the present cell need (R151, R155). -/
def Dosing.fed (cfg : Configuration) (speed : Nat) (d : Dosing) : Dosing :=
  Dosing.withRate cfg speed { d with active := true, dose := d.need, vSalt := saltLimit cfg d.need }

/-- Re-evaluate the feed (R150, R151) and let D follow the cell need (R155). Where neither changes nothing is
recomputed. -/
def settleFeed (s : State) : State :=
  if s.feedShouldRun then
    if s.dosing.active ∧ s.dosing.dose = s.dosing.need then s
    else s.onDosing (Dosing.fed s.cfg s.odo.speed)
  else if s.dosing.active then s.onDosing Dosing.stopped
  else s

/-- The low test (R163). -/
def lowTest (s : State) : State :=
  if s.dosing.stock < s.cfg.lowStock * 1000 ∧ !s.dosing.low then
    raiseHere 6 (min 65535 (s.dosing.stock / 1000000))
      (post (.stock .low s.dosing.stock) (s.onDosing fun d => { d with low := true }))
  else s

/-- The empty test, `before` being the stock before the pulse or load (R164). The feed then stops at the end of
the step, its conditions having failed. -/
def emptyTest (before : Nat) (s : State) : State :=
  if s.cfg.feedCal ≤ before ∧ s.dosing.stock < s.cfg.feedCal then
    let s1 := post (.stock .empty s.dosing.stock) s
    if s.dosing.active then raiseHere 5 s.dosing.stock s1 else s1
  else s

/-! ## The pass (R51 to R55) -/

/-- Open a pass on a cell of the current segment: the residual at entry, the cell need computed from it (R153), and
the target at entry, which is the need where the salting conditions hold and 0 where they do not (R51, R154). -/
def openPass (cell : Nat) (s : State) : State :=
  match s.currentRecord with
  | none => s
  | some r =>
    let res := residual s.cfg.residualWindow s.now (r.cells.getD cell freshCell)
    let need := cellNeed s.cfg s.now r res
    (s.onDosing fun d => { d with need := need }).onSegs fun t =>
      { t with pass := some ⟨cell, 0, 0, 0, if s.saltingConditions then need else 0, res⟩ }

/-- The plow test of R54: the blade was down for at least 80 % of the cell's length. -/
def plowsCell (cfg : Configuration) (len : Nat) (p : Pass) : Bool :=
  decide (inCounts cfg (cellLength len p.cell) * 8 ≤ p.blade * 10)

/-- A cell after the pass over it is finalised (R54, R55). A cell already PLOWED that meets the test again takes
plowed-at now (DEDUCED, unsafe, log 44). -/
def finalisedCell (cfg : Configuration) (now len : Nat) (p : Pass) (c : Cell) : Cell :=
  let c1 := if plowsCell cfg len p then { c with plowed := true, plowedAt := some now } else c
  if 0 < p.pulses then
    let delivered := deliveredDose cfg p.pulses (cellLength len p.cell)
    { c1 with
      dose := min 63 (p.residual + delivered)
      saltedAt := some now
      shortfall := decide (delivered + 2 < p.target) }
  else if 0 < p.target then { c1 with shortfall := true }
  else c1

/-- The work value of a finalised pass, none if the cell was not worked (R57). -/
def passWork (plowed : Bool) (pulses : Nat) : Option Work :=
  match plowed, decide (0 < pulses) with
  | true, true => some .both
  | true, false => some .plowed
  | false, true => some .salted
  | false, false => none

/-! ## Progress reports (R57, R58) -/

/-- Two ranges are contiguous: each one's first cell is at most one more than the other's last (R58). -/
def contiguous (f1 l1 f2 l2 : Nat) : Bool := decide (f1 ≤ l2 + 1) && decide (f2 ≤ l1 + 1)

/-- The PROGRESS frame, queued and not in flight, that a flush may widen: same segment and work value, contiguous
range, and of several the one queued most recently (R58). -/
def mergeTarget (inFlight : Option Nat) (n : Nat) (r : Report) : List Queued → Option Queued
  | [] => none
  | q :: rest =>
    let later := mergeTarget inFlight n r rest
    match q.payload with
    | .progress m f l w _ _ =>
      if m = n ∧ w = workCode r.work ∧ contiguous f l r.first r.last ∧ inFlight ≠ some q.entry then
        match later with
        | some o => if o.entry < q.entry then some q else some o
        | none => some q
      else later
    | _ => later

/-- Flush the pending report of segment `n`: a queued frame is widened, or a new one queued (R58). -/
def flush (n : Nat) (s : State) : State :=
  match s.segs.report with
  | none => s
  | some r =>
    let s1 := s.onSegs fun t => { t with report := none }
    match mergeTarget s.channel.flightEntry n r s.channel.queue with
    | some q =>
      match q.payload with
      | .progress _ f l w d _ =>
        changePayload q.entry (.progress n (min f r.first) (max l r.last) w (min d r.dose) s.station.distance) s1
      | _ => s1
    | none =>
      queueFrame .segments (.progress n r.first r.last (workCode r.work) r.dose s.station.distance) s1

/-- Flush once the count has reached the configured stride (R57). -/
def flushAtStride (n : Nat) (s : State) : State :=
  match s.segs.report with
  | none => s
  | some r => if s.cfg.stride ≤ r.count then flush n s else s

/-- Add a worked cell of segment `n` to the pending report (R57). -/
def addReport (n cell : Nat) (work : Work) (dose : Nat) (s : State) : State :=
  let fresh : Report := ⟨cell, cell, work, dose, 1⟩
  match s.segs.report with
  | none => flushAtStride n (s.onSegs fun t => { t with report := some fresh })
  | some r =>
    if r.work = work ∧ r.first ≤ cell + 1 ∧ cell ≤ r.last + 1 then
      flushAtStride n (s.onSegs fun t =>
        { t with report := some ⟨min r.first cell, max r.last cell, work, min r.dose dose, r.count + 1⟩ })
    else
      flushAtStride n ((flush n s).onSegs fun t => { t with report := some fresh })

/-- Finalise the open pass: its result goes into the cell record and, if the cell was worked, into the pending
report (R53 to R57). The pass is closed. -/
def finalise (s : State) : State :=
  match s.segs.pass, s.currentRecord with
  | some p, some r =>
    let c := finalisedCell s.cfg s.now r.length p (r.cells.getD p.cell freshCell)
    let s1 := (updateSegment r.number (fun x => { x with cells := updateCell p.cell (fun _ => c) x.cells }) s).onSegs
      fun t => { t with pass := none }
    match passWork (plowsCell s.cfg r.length p) p.pulses with
    | none => s1
    | some w => addReport r.number p.cell w (if w = .plowed then 0 else c.dose) s1
  | _, _ => s

/-- Finalise the open pass and flush the pending report, as on leaving the segment or completing it (R53, R57). -/
def finaliseAndFlush (s : State) : State :=
  match s.currentSegment with
  | none => s
  | some n => flush n (finalise s)

/-- The segment stops being current: the pass is finalised and the report flushed, there is no current entry, cell
or cell need, FEED is low, and the claim that was occupied is looked at (R106, R53, R112, R91, R161, R166). -/
def endEntry (s : State) : State :=
  match s.currentSegment with
  | none => s
  | some n =>
    let s1 := ((finaliseAndFlush s).onOdo fun o => { o with entry := none }).onDosing
      fun d => { d with need := 0, pulsesNow := 0 }
    if s1.motion.state = .idle then s1 else endOccupancy n s1

/-! ## Snowfall (R63) -/

/-- A cell after a fill (R63). -/
def filledCell (clearSalt : Bool) (c : Cell) : Cell :=
  if clearSalt then ⟨false, none, 0, none, false⟩ else { c with plowed := false, plowedAt := none }

/-- The number of records in a range of segment numbers. -/
def State.recordsIn (s : State) (first last : Nat) : Nat :=
  (s.segs.records.filter fun r => decide (first ≤ r.number) && decide (r.number ≤ last)).length

/-- The queued frame is a PROGRESS frame, not in flight, for a segment in the range. -/
def isProgressIn (inFlight : Option Nat) (first last : Nat) (q : Queued) : Bool :=
  match q.payload with
  | .progress n _ _ _ _ _ => decide (first ≤ n) && decide (n ≤ last) && !(inFlight == some q.entry)
  | _ => false

/-- Apply a fill over a range of segments (R63), `source` being 0 for the host. -/
def fill (source first last : Nat) (clearSalt : Bool) (s : State) : State :=
  let s1 := s.onSegs fun t =>
    { t with
      records := updateIf (fun r => decide (first ≤ r.number) && decide (r.number ≤ last))
        (fun r => { r with cells := r.cells.map (filledCell clearSalt) }) t.records }
  let s2 :=
    match s.currentSegment with
    | none => s1
    | some n =>
      if first ≤ n ∧ n ≤ last then
        s1.onSegs fun t =>
          { t with
            pass := t.pass.map fun p =>
              { p with travel := 0, blade := 0, residual := if clearSalt then 0 else p.residual }
            report := none }
      else s1
  post (.snowfall source first last clearSalt (s.recordsIn first last))
    (withdraw (isProgressIn s.channel.flightEntry first last) s2)

/-! ## Guest states (R65, R66) -/

/-- The guest state after a notice with zone Z from station S (R65). -/
def noticed (now : Nat) (old : Option PeerGuest) (sender : Nat) (z : Zone) : Option PeerGuest :=
  let fresh : PeerGuest := ⟨z, sender, now + Config.guestLife⟩
  match old, z with
  | none, .clear => none
  | none, _ => some fresh
  | some g, .clear => if g.source = sender then none else some g
  | some g, _ => if g.source = sender ∨ zoneCode g.zone ≤ zoneCode z then some fresh else some g

/-- The zone of a guest state (R44). -/
def guestZoneOf : Option PeerGuest → Zone
  | none => .clear
  | some g => g.zone

end Sys2Proof.Machine
end

