-- ==== Sys2Proof/Machine/ChannelOps.lean ====
section
/-! DEFINITION. The operations of the channel controller and of the station's life that several commands share: the
ends of a frame heard and of a frame sent, transmit outcomes at the blocks that queued the frame, SILENT, and the
entry to OFFLINE by Leave. -/

namespace Sys2Proof.Machine

/-! ## What the receiver senses -/

/-- A dominant symbol outside a frame, or the end of one: the idle count starts again and IDLE becomes BUSY; JAMMED
stays (R3, R6). A dominant run that was going on is over (R4), unless this station keys a seize, whose run goes on. -/
def Channel.broken (c : Channel) : Channel :=
  { c with
    idleCount := 0
    run := if c.seizeLeft = 0 then 0 else c.run
    runCounted := c.seizeLeft != 0 && c.runCounted
    condition := if c.condition = .idle then .busy else c.condition }

/-- A frame in assembly ends or is discarded: the assembler goes to WAIT_IDLE, the idle count starts from 0, and a
response being keyed ends with it (R3, R10, R11, R21). -/
def Channel.frameOver (c : Channel) : Channel :=
  { c.broken with assembler := .waitIdle, response := none, echo := false, abandoned := none, symbol := 0 }

/-- The noise count goes up by one, saturating at 255; a run of an own seize that is going on is then counted (R12). -/
def Channel.addNoise (c : Channel) : Channel :=
  { c with noiseCount := min 255 (c.noiseCount + 1), runCounted := c.seizeLeft != 0 }

/-- A start mark has been sensed to its end: the assembler goes from HUNT to HEADER (R10). -/
def Channel.marked (c : Channel) : Channel :=
  if c.assembler = .hunt then { c.broken with assembler := .header, symbol := Config.markSymbols } else c

/-- A dominant run of `n` symbols, in which this station keyed, has ended with no seize being keyed any more; it is taken
as R4 says. One symbol breaks the idle count outside a frame, and in a frame is what its place makes it, which a command
says (log 28). Exactly four in HUNT, which began while the condition was IDLE, are a start mark. Any other run of 2 to 23
discards the frame in assembly, or is noise without one: either way it counts once, where nothing of it was counted
before (R10, R12). A longer run was a seize, or a jam after it (R5, R6). -/
def Channel.ran (n : Nat) (c : Channel) : Channel :=
  if n = 0 then c
  else if n = 1 then
    if c.assembler.inFrame then c
    else { c.broken with assembler := if c.assembler = .hunt then .waitIdle else c.assembler }
  else if n = Config.markDominants ∧ c.assembler = .hunt then c.marked
  else if n < Config.seizeRun ∧ !c.runCounted then c.frameOver.addNoise
  else c.frameOver

/-- An own seize is keyed no more, and the dominant run that it was part of has ended with `n` symbols (R4, R18). -/
def Channel.seizeStopped (n : Nat) (c : Channel) : Channel :=
  { Channel.ran n { c with seizeLeft := 0 } with run := 0, runCounted := false }

/-- Nothing is keyed from now on, the frame in flight apart: a seize stops after the symbols that have passed, and a
response with it (R30; log 32). -/
def Channel.silenced (c : Channel) : Channel :=
  { (if c.seizeLeft = 0 then c else c.seizeStopped c.run) with response := none }

/-- A good frame ends that the receiver heard from station `sender` (R10, R11). A sender outside 1..254 makes the
header malformed and the frame is discarded; the own number means another station uses it and nothing is delivered;
any other frame is delivered. OFFLINE: the receiver is off and nothing is heard. -/
def receive (sender : Nat) (deliver : State → State) (s : State) : State :=
  if !s.receiverOn then s
  else if sender = 0 ∨ 254 < sender then s.onChannel fun c => c.frameOver.addNoise
  else if sender = s.cfg.station then post (.channel .duplicateStation false) (s.onChannel Channel.frameOver)
  else (deliver s).onChannel Channel.frameOver

/-- The response field has ended: its last spacer has passed, and the value keyed in it has won or lost (R9, R20). -/
def Channel.fieldOver (c : Channel) : Bool := c.assembler == .response && decide (Config.fieldEnd ≤ c.symbol)

/-- The response that a seize asked for now takes from the field that is going on. A value that the field has shown to
have lost by now is among them: the command that brings the sensed value tells (R18, R20; log 26). -/
def Channel.abandonedNow (c : Channel) : Option Abandoned :=
  if c.assembler = .response ∧ !c.fieldOver then c.response.map fun v => ⟨v, c.symbol⟩ else none

/-- The motion supervisor asks for a seize (R18): in ACTIVE 48 dominant symbols are to be keyed from the next symbol
boundary, counted anew if a seize is being keyed, and a response being keyed is abandoned: the station takes nothing
from that frame, even where the seize goes unheard. A value that still waits in the gap is only not keyed (R19), and
one whose field has ended stands. A
frame in flight keeps its place until the seize settles its outcome; what the receiver holds goes as the symbols are
sensed (R4, R10). In the other station states nothing is keyed. -/
def requestSeize (s : State) : State :=
  if s.station.state = .active then
    s.onChannel fun c =>
      { c with
        seizeLeft := Config.seizeSymbols
        response := if c.fieldOver then c.response else none
        abandoned := c.abandonedNow.or c.abandoned }
  else s

/-! ## Claims at the end of a contest (R77, R78, R86, R93) -/

/-- Remove the unexpired view entries that conflict with a claim of this station that stands (R77). -/
def clearView (segment : Nat) (i : Intent) (s : State) : State :=
  s.onClaims fun c =>
    { c with view := c.view.filter fun v =>
        !(v.segment == segment && conflicts v.intent i && decide (s.now < v.expiry)) }

/-- A HOLDING record that is not occupied is released: its REFRESH frame is withdrawn, a RELEASE frame is queued and
the record ends RELEASED (R92, R93). -/
def releaseHeld (segment : Nat) (s : State) : State :=
  endOwn segment .released none
    (queueFrame .claims (.release segment) (withdraw (isClaimFor segment) s))

/-- A NEW claim stands (R77): HOLDING, last successful send now, no deferrals (R70), conflicting view entries
removed, the CLAIM event, and the release that was waiting for it (R93). -/
def newClaimStands (r : OwnClaim) (s : State) : State :=
  let s1 := updateOwn r.segment
    (fun x => { x with state := .holding, frame := .none, lastSend := some s.now, refreshesOffered := 0 }) s
  let s2 := clearView r.segment r.intent (s1.onClaims fun c => { c with deferrals := 0 })
  let s3 := post (.claim r.segment r.intent r.rank .holding (s2.occupied { r with state := .holding }) none) s2
  if r.releasePending then releaseHeld r.segment s3 else s3

/-- The response field of this station's CLAIM frame has ended with the sensed value (R77, R86). -/
def claimSettled (segment mode sensed : Nat) (s : State) : State :=
  match s.ownClaim? segment with
  | none => s
  | some r =>
    let stands := decide (claimValue r.rank s.cfg.station < sensed)
    if mode = 0 then
      if stands then newClaimStands r s
      else endOwn segment .denied (some (sensed % 256, sensed / 256)) s
    else
      let s1 := updateOwn segment (fun x => { x with frame := .none }) s
      if stands then
        clearView segment r.intent
          (updateOwn segment (fun x => { x with lastSend := some s.now, refreshesOffered := 0 }) s1)
      else if !s.occupied r then endClaim segment .yielded (some (sensed % 256, sensed / 256)) s1
      else if sensed / 256 = 0 ∧ sensed % 256 < s.cfg.station then endClaim segment .lapsed none s1
      else s1

/-- A NEW frame has ended without reaching the end of its response field and stays queued: the record returns to
QUEUED, or, with release pending, ends RELEASED and its frame is withdrawn (R78, R93). -/
def claimReturns (segment : Nat) (s : State) : State :=
  match s.ownClaim? segment with
  | none => s
  | some r =>
    if r.releasePending then endOwn segment .released none s
    else updateOwn segment (fun x => { x with state := .queued }) s

/-! ## Transmit outcomes -/

/-- The queue entry of the frame in flight. -/
def State.flightFrame (s : State) : Option Queued :=
  match s.channel.flight with
  | none => none
  | some f => s.channel.queue.find? (·.entry == f.entry)

/-- No frame is in flight any more (R13). -/
def endFlight (s : State) : State := s.onChannel fun c => { c with flight := none }

/-- The frame in flight stops and stays queued in its place: COLLIDED or SEIZED (`reported`), or a lost arbitration,
which is no outcome. A frame whose age has reached its stale limit is removed STALE instead (R24, R26). -/
def frameReturns (reported : Bool) (s : State) : State :=
  match s.flightFrame with
  | none => endFlight s
  | some q =>
    let s1 := endFlight s
    if q.payload.staleLimit ≤ q.age then unsent q.payload (withdraw (·.entry == q.entry) s1)
    else
      let s2 := if reported then noteOutcome s1 else s1
      match q.payload with
      | .claim n _ _ mode => if mode = 0 then claimReturns n s2 else s2
      | _ => s2

/-- The arbitration-won notice (R14): a QUEUED record whose NEW frame won becomes CONTESTING (R76). -/
def wonNotice (p : Payload) (s : State) : State :=
  match p with
  | .claim n _ _ mode =>
    if mode = 0 then
      updateOwn n (fun r => if r.state = .queued then { r with state := .contesting } else r) s
    else s
  | _ => s

/-- An own callout's frame was sent with the sensed value (R172). -/
def ownCalloutSent (seq sensed : Nat) (s : State) : State :=
  if sensed = Config.noResponse then ownAttempt seq s
  else
    match s.callout.own.find? (·.seq == seq) with
    | none => s
    | some c => endCallout c .acked (some (sensed % 256, sensed / 256)) s

/-- A forward frame was sent with the sensed value (R179). -/
def relaySent (origin seq sensed : Nat) (s : State) : State :=
  if sensed = Config.noResponse then relayAttempt origin seq s else leaveRelay origin seq s

/-- The last spacer of the response field of an own frame that was withdrawn in its gap or field: its echo ends, and no
record is left to act on it (R11, R25, R88). -/
def echoEnds (s : State) : State := if s.channel.echo then s.onChannel Channel.frameOver else s

/-- The frame in flight has reached its end and is removed: SENT, or SENT_RESPONDED with the sensed value (R17). A
frame that reached its end has won arbitration, so its notice comes first if it had not come (R14; log 39). Of a frame
withdrawn before its end the echo ends. -/
def frameSent (sensed : Nat) (s : State) : State :=
  match s.flightFrame with
  | none => echoEnds s
  | some q =>
    let s1 := withdraw (·.entry == q.entry) (wonNotice q.payload s)
    let s2 := noteOutcome (s1.onChannel Channel.frameOver)
    match q.payload with
    | .claim n _ _ mode => claimSettled n mode sensed s2
    | .callout origin seq _ _ _ _ _ _ =>
      if origin = s.cfg.station then ownCalloutSent seq sensed s2 else relaySent origin seq sensed s2
    | _ => s2

/-- An own callout's frame went unheard, `third` saying that the unheard count is 3 (R172). -/
def ownCalloutUnheard (third : Bool) (seq : Nat) (s : State) : State :=
  match s.callout.own.find? (·.seq == seq) with
  | none => s
  | some c => if third then endCallout c .unrouted none s else queueOwnCallout c s

/-- A forward frame went unheard (R179). -/
def relayUnheard (third : Bool) (origin seq : Nat) (s : State) : State :=
  match s.callout.relay.find? (·.isPair origin seq) with
  | none => s
  | some e => if third then leaveRelay origin seq s else queueRelay e s

/-- A CLAIM frame went unheard: a NEW one as R79 gives, a REFRESH one as R87 gives. -/
def claimUnheard (third : Bool) (p : Payload) (segment mode : Nat) (s : State) : State :=
  match s.ownClaim? segment with
  | none => s
  | some r =>
    if mode = 0 then
      if r.releasePending then endOwn segment .released none s
      else if third then endOwn segment .stale none s
      else queueFrame .claims p (updateOwn segment (fun x => { x with state := .queued }) s)
    else if third then updateOwn segment (fun x => { x with frame := .none }) s
    else queueFrame .claims p s

/-- What a TX_UNHEARD outcome does at the block that queued the frame (R39, R59, R79, R87, R172, R179). -/
def unheard (third : Bool) (p : Payload) (s : State) : State :=
  match p with
  | .claim n _ _ mode => claimUnheard third p n mode s
  | .callout origin seq _ _ _ _ _ _ =>
    if origin = s.cfg.station then ownCalloutUnheard third seq s else relayUnheard third origin seq s
  | _ => s

/-! ## SILENT (R30, R95, R174, R180) -/

/-- What SILENT does to one own claim record: a QUEUED one ends STALE, a queued REFRESH frame is withdrawn (R95). -/
def silenceClaim (s : State) (r : OwnClaim) : State :=
  match r.state with
  | .queued => endOwn r.segment .stale none s
  | _ =>
    if r.frame = .refresh then
      updateOwn r.segment (fun x => { x with frame := .none }) (withdraw (isClaimFor r.segment) s)
    else s

/-- What SILENT does to one own callout: UNROUTED, its frame withdrawn (R174). -/
def silenceCallout (s : State) (c : OwnCallout) : State :=
  endCallout c .unrouted none (withdraw (isCalloutFor s.cfg.station c.seq) s)

/-- What SILENT does to one relay entry: it leaves the queue, its frame withdrawn (R180). -/
def silenceRelay (s : State) (e : RelayEntry) : State :=
  leaveRelay e.origin e.seq (withdraw (isCalloutFor e.origin e.seq) s)

/-- An ACTIVE station becomes SILENT with the cause UNHEARD, and keys nothing any more (R30). The pairs of the relay
entries join the recent-relay list in the order of the relay queue, the oldest entry first (R180, which names no order;
DESIGN CHOICE, unsafe, log 53). -/
def goSilent (s : State) : State :=
  let s1 := post (.stationState .unheard s.station.state .silent)
    ((s.onStation fun t => { t with state := .silent, presenceMs := 0 }).onChannel Channel.silenced)
  let s2 := s1.claims.own.foldl silenceClaim s1
  let s3 := s2.callout.own.foldl silenceCallout s2
  s3.callout.relay.foldl silenceRelay s3

/-! ## Entry to OFFLINE by Leave (R32, R95, R149, R174, R180, R181, R49, R128) -/

/-- An own callout still in the list at the entry to OFFLINE (R174). -/
def abandonCallout (s : State) (c : OwnCallout) : State :=
  endCallout c (if c.attempts = 0 then .notSent else .unrouted) none s

/-- An own claim still in the table at the entry to OFFLINE (R95). -/
def abandonClaim (s : State) (r : OwnClaim) : State := endOwn r.segment .released none s

/-- The channel controller on entry to OFFLINE by Leave: queue emptied, nothing keyed, receiver off (R3, R10, R16,
R26, R32). Entry numbers go on. -/
def Channel.off (c : Channel) : Channel := 
  { Channel.reset with noiseCount := c.noiseCount, nextEntry := c.nextEntry, cuts := c.cuts }

/-- The station enters OFFLINE with the cause LEAVE (R32). -/
def enterOffline (s : State) : State :=
  let s1 := post (.stationState .leave s.station.state .offline)
    (s.onStation fun t =>
      { t with
        state := .offline, leavePending := false, leaveMs := 0, leaveFrames := [], listenTimer := 0, presenceMs := 0,
        neighbours := [] })
  let s2 := s1.callout.own.foldl abandonCallout s1
  let s3 := s2.claims.own.foldl abandonClaim s2
  let s4 := (s3.onCallout fun u => { u with own := [], relay := [], recent := [] }).onClaims
    fun c => { c with own := [], view := [] }
  let s5 := s4.onGroup fun g =>
    { g with retained := false, holds := [], guestMark := false, hostMark := none, repeatMs := 0 }
  let s6 := (s5.onMotion fun m => { m with seizePeriod := none }).onSegs
    fun t => { t with records := t.records.map fun r => { r with guest := none } }
  recomputeDistance (s6.onChannel Channel.off)

/-- A pending Leave completes once every RELEASE frame queued under R31 has left the queue (R32). -/
def settleLeave (s : State) : State :=
  if s.station.leavePending ∧ s.station.state = .active ∧
      ¬ s.channel.queue.any (fun q => s.station.leaveFrames.contains q.entry) then enterOffline s
  else s

/-- The end of a step: a Leave that has nothing left to wait for completes (R32; log 21), and the feed is re-evaluated
(R150, R155; log 18). -/
def endOfStep (s : State) : State := settleFeed (settleLeave s)

/-- The answer of a command that ends its step so. -/
def finish (s : State) : Result := .next (endOfStep s)

end Sys2Proof.Machine
end

