-- ==== Sys2Proof/Machine/Wire.lean ====
section
/-! DEFINITION. Event records and replies as the host reads them (R184, R193, R197, section 11.3). -/

namespace Sys2Proof.Machine

/-! ## Event records -/

/-- The kind of an event record (section 11.3). -/
def eventKind : Event → Nat
  | .stationState .. => 1
  | .neighbourNew .. => 1
  | .neighbourChanged .. => 1
  | .neighbourLost .. => 1
  | .distance .. => 1
  | .claim .. => 2
  | .segmentDone .. => 3
  | .motion .. => 4
  | .guestZone .. => 5
  | .peerGuest .. => 6
  | .holdAdded .. => 7
  | .holdChanged .. => 7
  | .holdRemoved .. => 7
  | .goIgnored .. => 7
  | .callout .. => 8
  | .calloutReceived .. => 9
  | .stock .. => 10
  | .channel .. => 11
  | .snowfall .. => 12

/-- The fields of a neighbour in a STATION record; an unknown value is shown as 0xFF (R196). -/
def neighbourBytes (n : Neighbour) : List Byte :=
  [byteOf n.station, byteOf (classCode n.cls), byteOf n.distance,
   byteOf ((n.motion.map motionCode).getD 0xFF), byteOf (n.group.getD 0xFF)]

/-- A STATION record's fields, unused ones 0 (R197). -/
def stationFields (cause left new : Nat) (neighbour : List Byte) (oldDistance newDistance : Nat) : List Byte :=
  [byteOf cause, byteOf left, byteOf new] ++ neighbour ++ [byteOf oldDistance, byteOf newDistance]

/-- A HOLD record's fields (section 11.3). -/
def holdFields (originator change removal t r entries : Nat) : List Byte :=
  [byteOf originator, byteOf change, byteOf removal, byteOf t, byteOf r, byteOf entries]

/-- The fields of an event's kind, every field present and unused ones 0 (R197, section 11.3). -/
def eventFields : Event → List Byte
  | .stationState c l n => stationFields (stationCauseCode c) (stationCode l) (stationCode n) [0, 0, 0, 0, 0] 0 0
  | .neighbourNew n => stationFields 6 0 0 (neighbourBytes n) 0 0
  | .neighbourChanged n => stationFields 7 0 0 (neighbourBytes n) 0 0
  | .neighbourLost n => stationFields 8 0 0 [byteOf n, 0, 0, 0, 0] 0 0
  | .distance o n => stationFields 9 0 0 [0, 0, 0, 0, 0] o n
  | .claim s i r c o w =>
    be16 s ++ [byteOf (intentCode i), byteOf r, byteOf (claimChangeCode c), flagByte o,
      byteOf ((w.map (·.1)).getD 0), byteOf ((w.map (·.2)).getD 0)]
  | .segmentDone s d c p => be16 s ++ [byteOf (directionCode d), byteOf c] ++ be32 (twos32 p)
  | .motion l n c v s f =>
    [byteOf (motionCode l), byteOf (motionCode n), byteOf (motionCauseCode c)] ++ be16 v ++ be16 (s.getD 0)
      ++ [byteOf (faultByte f)]
  | .guestZone n o p =>
    [byteOf (zoneCode n), byteOf (zoneCode o)] ++ be16 (p.getD (0, 0)).1 ++ [byteOf (p.getD (0, 0)).2]
  | .peerGuest s z src c x => be16 s ++ [byteOf (zoneCode z), byteOf src, byteOf c, flagByte x]
  | .holdAdded o t r n => holdFields o 0 0 (holdTypeCode t) (holdReasonCode r) n
  | .holdChanged o t r n => holdFields o 1 0 (holdTypeCode t) (holdReasonCode r) n
  | .holdRemoved o c t r n => holdFields o 2 (holdRemovalCode c) (holdTypeCode t) (holdReasonCode r) n
  | .goIgnored s n => holdFields s 3 0 0 0 n
  | .callout c q s e d o a w =>
    [byteOf c, flagByte q.isSome, byteOf (q.getD 0)] ++ be16 s ++ [byteOf e] ++ be16 d
      ++ [byteOf (calloutOutcomeCode o), byteOf a, byteOf ((w.map (·.1)).getD 0), byteOf ((w.map (·.2)).getD 0)]
  | .calloutReceived o q c s e d h snd x =>
    [byteOf o, byteOf q, byteOf c] ++ be16 s ++ [byteOf e] ++ be16 d ++ [byteOf h, byteOf snd, byteOf x]
  | .stock c m => byteOf (stockCauseCode c) :: be32 m
  | .channel c o => [byteOf (channelCauseCode c), flagByte o]
  | .snowfall src f l c n => byteOf src :: be16 f ++ be16 l ++ [flagByte c, byteOf n]

/-- An event record as Take Event returns it (R197, section 11.3): kind, work clock, flag byte with the dropped flag
in bit 7 and 0 in its other bits (DEDUCED, log 51), field length, fields. -/
def recordBytes (r : EventRecord) : List Byte :=
  byteOf (eventKind r.event) :: be32 r.time ++ [if r.dropped then 0x80 else 0x00, byteOf (eventFields r.event).length]
    ++ eventFields r.event

/-! ## Read Segment and Read Cells (R48) -/

/-- The result fields of Read Segment (R48): the pass is shown for the current segment; where a value is absent its
presence byte and the value are 0 (R197; log 25). -/
def segmentReply (s : State) (r : Segment) : List Byte :=
  be16 r.number ++ be16 r.length ++ be16 r.speedLimit ++ [byteOf (surfaceCode r.surface), flagByte r.saltPermitted]
    ++ be16 (twos16 r.defaultTemp) ++ [byteOf r.adjacent.length]
    ++ ((r.adjacent ++ List.replicate 4 0).take 4).flatMap be16
    ++ [byteOf (cellCount r.length)]
    ++ (match r.reported with
        | none => 0 :: be16 0 ++ be32 0
        | some (t, at_) => 1 :: be16 (twos16 t) ++ be32 at_)
    ++ (match r.guest with
        | none => [0, 0] ++ optional32 none
        | some g => [byteOf (zoneCode g.zone), byteOf g.source] ++ optional32 (some g.expiry))
    ++ (match s.odo.entry, s.segs.pass with
        | some e, some p =>
          if e.segment = r.number then
            [1, byteOf e.cell] ++ be32 p.travel ++ be32 p.blade ++ be32 p.pulses ++ [byteOf p.target, byteOf p.residual]
          else List.replicate 16 0
        | _, _ => List.replicate 16 0)

/-- One cell in the reply of Read Cells, with its residual now (R48, section 11.3). -/
def cellBytes (s : State) (c : Cell) : List Byte :=
  flagByte c.plowed :: optional32 c.plowedAt ++ [byteOf c.dose] ++ optional32 c.saltedAt
    ++ [flagByte c.shortfall, byteOf (residual s.cfg.residualWindow s.now c)]

/-- The result fields of Read Cells for a clamped range (R48). -/
def cellsReply (s : State) (r : Segment) (first last : Nat) : List Byte :=
  [byteOf first, byteOf last]
    ++ (if first ≤ last then ((r.cells.drop first).take (last + 1 - first)).flatMap (cellBytes s) else [])

/-! ## Read Claims (R96) -/

/-- Put a view entry in its place by segment, then holder (R96). -/
def insertView (v : ViewEntry) : List ViewEntry → List ViewEntry
  | [] => [v]
  | w :: r =>
    if w.segment < v.segment ∨ (w.segment = v.segment ∧ w.holder ≤ v.holder) then w :: insertView v r else v :: w :: r

/-- View entries in segment order, then holder order (R96). -/
def sortView (l : List ViewEntry) : List ViewEntry := l.foldr insertView []

/-- An own record in the reply of Read Claims (R96, section 11.3). -/
def ownClaimBytes (s : State) (r : OwnClaim) : List Byte :=
  be16 r.segment ++ [byteOf (intentCode r.intent), byteOf r.urgency, byteOf r.rank, byteOf (claimStateCode r.state),
    byteOf (claimFrameCode r.frame)] ++ optional32 r.lastSend ++ [flagByte r.releasePending, flagByte (s.occupied r)]

/-- A view entry in the reply of Read Claims (section 11.3); an expiry past 4,294,967,295 shows modulo 2^32 (log 43). -/
def viewBytes (v : ViewEntry) : List Byte :=
  be16 v.segment ++ [byteOf v.holder, byteOf (intentCode v.intent), byteOf v.rank] ++ be32 v.expiry

/-- The result fields of Read Claims: the deferral count, every own record in table order, every unexpired view
entry in order (R96). -/
def claimsReply (s : State) : List Byte :=
  let live := sortView (s.claims.view.filter fun v => decide (s.now < v.expiry))
  [byteOf s.claims.deferrals, byteOf s.claims.own.length] ++ s.claims.own.flatMap (ownClaimBytes s)
    ++ [byteOf live.length] ++ live.flatMap viewBytes

/-! ## Read Status (R193, section 11.3) -/

/-- The station group (R193). -/
def statusStation (s : State) : List Byte :=
  [byteOf (stationCode s.station.state), flagByte s.station.leavePending, byteOf (resetCode s.station.resetCause),
   flagByte s.station.configValid, byteOf s.cfg.station, byteOf (classCode s.cfg.cls), byteOf s.station.distance]
    ++ be32 s.station.clock

/-- The channel group (R193). -/
def statusChannel (s : State) : List Byte :=
  [byteOf (conditionCode s.channel.condition), byteOf s.channel.noiseCount, byteOf s.channel.unheardCount,
   byteOf s.channel.queue.length]

/-- The odometry group (R110). With no current segment the direction byte has no stated value (log 23). -/
def statusOdo (s : State) : List Byte :=
  be32 (twos32 s.odo.position)
    ++ (match s.odo.entry with
        | some e => be16 e.segment ++ [byteOf (directionCode e.direction), flagByte e.done, byteOf e.cell]
            ++ optional32 (some (positionMm s.cfg (accounting e.length s.odo.position)))
        | none => be16 0 ++ [Config.unstatedReplyByte 0, 0, 0xFF] ++ optional32 none)
    ++ be16 s.odo.speed ++ [byteOf (senseCode s.odo.sense), flagByte s.odo.fault, byteOf s.odo.lastErrors]

/-- The end state and the origin of STOPPING as motion state codes; in another state they have no stated value
(R135; log 23). -/
def stoppingBytes (m : Motion) : List Byte :=
  if m.state = .stopping then
    [match m.stopEnd with
      | .idle => byteOf (motionCode .idle)
      | .groupHold => byteOf (motionCode .groupHold),
     match m.stopFrom with
      | .run => byteOf (motionCode .run)
      | .caution => byteOf (motionCode .caution)]
  else [Config.unstatedReplyByte 1, Config.unstatedReplyByte 2]

/-- A guest-blocked time in whole seconds as a 16-bit field; above 65,535 s its value is not stated (log 24). -/
def guestSeconds (ms : Nat) : Nat :=
  if ms / 1000 ≤ 65535 then ms / 1000 else (Config.guestSecondsBeyond (ms / 1000)).toNat

/-- The caution cause byte: bit 0 warning, 1 peer guest, 2 seize period (section 11.3), 0 in its other bits (DEDUCED,
log 51). -/
def causeByte (s : State) : Nat :=
  s.causeWarning.toNat + 2 * s.causePeer.toNat + 4 * s.causeSeize.toNat

/-- The motion group (R135). -/
def statusMotion (s : State) : List Byte :=
  let m := s.motion
  byteOf (motionCode m.state) :: stoppingBytes m ++ be16 m.ceiling ++ be16 s.target
    ++ [flagByte s.permit, byteOf (causeByte s)]
    ++ be16 ((m.seizePeriod.map fun t => Config.seizePeriodLimit - t).getD 0)
    ++ [byteOf m.warnCounter, flagByte m.warning, flagByte m.latch] ++ be16 m.restartMs
    ++ [byteOf (zoneCode s.zone)] ++ be16 (guestSeconds m.guestBlockedMs)
    ++ [byteOf m.stuck, byteOf m.overspeedRun, byteOf (faultByte m.faults), flagByte m.holdSent,
        byteOf s.beacon, byteOf s.cfg.workBeacon]

/-- A hold set entry (R149). -/
def holdBytes (h : HoldEntry) : List Byte :=
  [byteOf h.originator, byteOf (holdTypeCode h.holdType), byteOf (holdReasonCode h.reason)] ++ optional32 h.expiry

/-- The group control group (R149): a clear host mark shows type and reason 0 (R197). -/
def statusGroup (s : State) : List Byte :=
  [byteOf s.cfg.group, flagByte s.group.retained, flagByte s.group.guestMark]
    ++ (match s.group.hostMark with
        | none => [0, 0, 0]
        | some (t, r) => [1, byteOf (holdTypeCode t), byteOf (holdReasonCode r)])
    ++ be16 s.group.repeatMs ++ [byteOf s.group.holds.length] ++ s.group.holds.flatMap holdBytes

/-- The dosing group (R165). -/
def statusDosing (s : State) : List Byte :=
  let d := s.dosing
  be32 d.stock ++ [flagByte d.low, flagByte d.active, byteOf d.need, byteOf d.dose] ++ be16 (d.vSalt.getD 0)
    ++ be16 d.rate ++ [flagByte d.capped]

/-- The state byte of a callout record: QUEUED 0, AWAITING 1 (section 11.3). -/
def retryCode : Retry → Nat
  | .queued => 0
  | .awaiting _ => 1

/-- The callout group (R183, section 11.3). -/
def statusCallout (s : State) : List Byte :=
  let u := s.callout
  [byteOf u.seq, byteOf u.own.length]
    ++ u.own.flatMap (fun c =>
        [byteOf c.code, byteOf c.seq, byteOf c.attempts, byteOf (retryCode c.retry)] ++ be16 c.segment
          ++ [byteOf c.cell] ++ be16 c.detail)
    ++ [byteOf u.relay.length]
    ++ u.relay.flatMap (fun e =>
        [byteOf e.origin, byteOf e.seq, byteOf e.code] ++ be16 e.segment
          ++ [byteOf e.cell, byteOf e.hop, byteOf e.attempts, byteOf (retryCode e.retry)] ++ be16 e.detail)

/-- The result fields of Read Status: the identity, family 0x4B and revision 3, then every block (R193). -/
def statusReply (s : State) : List Byte :=
  [0x4B, 3] ++ statusStation s ++ statusChannel s ++ statusOdo s ++ statusMotion s ++ statusGroup s ++ statusDosing s
    ++ statusCallout s ++ [byteOf s.host.events.length]

/-! ## MISO (R184) -/

/-- What MISO carries in the transaction of a request of `len` bytes while the host clocks `n` bytes: filler during
the request and for one byte after it, then the reply, then filler (R184, R185). Bit by bit it is `State.misoLevel`. -/
def State.miso (s : State) (len n : Nat) : List Byte :=
  (List.replicate (len + 1) fillerByte ++ s.host.reply.getD [] ++ List.replicate n fillerByte).take n

end Sys2Proof.Machine
end

