-- ==== Sys2Proof/Machine/ClaimSteps.lean ====
section
/-! DEFINITION. The steps of the claim controller: asking for, releasing and reading claims, objections, the CLAIM and
RELEASE frames of other stations, refreshes, lapses and the expiry of view entries (Chapter 4). -/

namespace Sys2Proof.Machine

/-! ## Requests (R74, R75, R92, R96) -/

/-- Step 4 of R74: the claim is DENIED at once, naming the strongest stronger view entry. -/
def denyAtOnce (segment : Nat) (i : Intent) (rank : Nat) (v : ViewEntry) (s : State) : State :=
  post (.claim segment i rank .denied false (some (v.holder, v.rank)))
    (s.onClaims fun c => { c with deferrals := min 255 (c.deferrals + 1) })

/-- Step 5 of R74: a QUEUED record and its NEW CLAIM frame (R75). -/
def newClaim (segment : Nat) (i : Intent) (urgency rank : Nat) (s : State) : State :=
  queueFrame .claims (.claim segment (intentCode i) rank 0)
    (s.onClaims fun c => { c with own := c.own ++ [⟨segment, i, urgency, rank, .queued, .new, none, false, 0⟩] })

/-- REQUEST_CLAIM: the steps of R74 in order. The reply carries QUEUED, DENIED or STALE, the rank, and for DENIED the
holder (section 11.3). -/
def execRequestClaim (segment intent urgency : Nat) (s : State) : Result := whenTaken s <|
  if !s.working then refuse refusedState s
  else
    match within 1 Config.maxSegment segment, intentOf intent with
    | true, some i =>
      match s.ownClaim? segment with
      | some r =>
        .next (reply [refusedDuplicate, byteOf (intentCode r.intent), byteOf r.rank, byteOf (claimStateCode r.state)] s)
      | none =>
        if Config.ownClaimCap ≤ s.claims.own.length then refuse refusedFull s
        else
          let rank := claimRank (min 3 urgency) i s.claims.deferrals
          match s.strongerView segment i rank with
          | some v => .next (ok [3, byteOf rank, byteOf v.holder] (denyAtOnce segment i rank v s))
          | none =>
            let s1 := newClaim segment i (min 3 urgency) rank s
            finish (ok [if (s1.ownClaim? segment).isSome then 0 else 4, byteOf rank, 0] s1)
    | _, _ => refuse refusedRange s

/-- RELEASE_CLAIM: in ACTIVE, a pending Leave included, and in SILENT; the result by the record's state (R92). -/
def execReleaseClaim (segment : Nat) (s : State) : Result := whenTaken s <|
  if ¬ (s.station.state = .active ∨ s.station.state = .silent) then refuse refusedState s
  else
    match s.ownClaim? segment with
    | none => refuse refusedNoClaim s
    | some r =>
      match r.state with
      | .queued => finish (ok [0] (endOwn segment .released none s))
      | .contesting => finish (ok [1] (updateOwn segment (fun x => { x with releasePending := true }) s))
      | .holding =>
        if s.occupied r then refuse refusedOccupied s else finish (ok [0] (releaseHeld segment s))

/-- READ_CLAIMS (R96). -/
def execReadClaims (s : State) : Result := whenTaken s <| .next (ok (claimsReply s) s)

/-! ## Other stations' claims (R80 to R84, R90) -/

/-- The intent of a CLAIM frame whose fields are sound (R80). -/
def claimSound (segment intent rank mode : Nat) : Option Intent :=
  if within 1 Config.maxSegment segment && within 1 240 rank && decide (mode ≤ 1) then intentOf intent else none

/-- The objection to a claim for a segment with an intent: 0 as rank where the own record is occupied (R81). -/
def State.objection? (s : State) (segment : Nat) (i : Intent) : Option Nat :=
  match s.ownClaim? segment with
  | none => none
  | some r =>
    if conflicts r.intent i then
      some (claimValue (if s.occupied r then 0 else r.rank) s.cfg.station)
    else none

/-- The gap of another station's frame begins: the frame is on the channel, its check byte accepted (R3, R10), and a
response value waits for the end of the gap, or none does (R19). -/
def Channel.gapBegins (value : Option Nat) (c : Channel) : Channel :=
  { c.broken with assembler := .gap, symbol := 0, response := value, echo := false, abandoned := none }

/-- The channel controller asked for a response in the gap of another station's frame: the value is keyed under the
conditions of R19, which are tested once, as the gap begins (DESIGN CHOICE, unsafe, log 49). -/
def respond (value : Option Nat) (s : State) : State :=
  s.onChannel (Channel.gapBegins (if s.mayRespond then value else none))

/-- The gap of a CLAIM or CALLOUT frame from `sender`: every hearer goes on to GAP (R10). The owner of the kind is asked
for a response unless the frame carries this station's own number (R19). A sender outside 1..254 has no gap (R10). -/
def inGap (sender : Nat) (value : Option Nat) (s : State) : Result :=
  if s.receiverOn ∧ within 1 254 sender then .next (respond (if sender = s.cfg.station then none else value) s)
  else .next s

/-- OBJECTION: the gap of a CLAIM frame (R19, R81; log 27). -/
def execObjection (sender segment intent rank mode : Nat) (s : State) : Result :=
  inGap sender ((claimSound segment intent rank mode).bind (s.objection? segment)) s

/-- The claim view after a standing claim (R82, R89): other conflicting entries go, the entry of (segment, holder) is
created or refreshed and stands last; a full view first gives up the entry with the earliest expiry. An expiry past
the largest work clock value is kept as it is and never comes (DESIGN CHOICE, unsafe, log 43). -/
def standingView (now segment holder : Nat) (i : Intent) (rank : Nat) (view : List ViewEntry) : List ViewEntry :=
  let kept := view.filter fun v =>
    !(v.segment == segment && (v.holder == holder || conflicts v.intent i))
  let known := view.any fun v => v.segment == segment && v.holder == holder
  (if !known ∧ Config.viewCap ≤ kept.length then dropEarliest (·.expiry) kept else kept)
    ++ [⟨segment, holder, i, rank, now + Config.viewLife⟩]

/-- What a standing claim of another station does to the own record of its segment (R83). -/
def meetStanding (segment holder : Nat) (i : Intent) (rank : Nat) (s : State) : State :=
  match s.ownClaim? segment with
  | none => s
  | some r =>
    if conflicts r.intent i then
      match r.state with
      | .holding => if s.occupied r then s else endClaim segment .yielded (some (holder, rank)) s
      | _ => endOwn segment .denied (some (holder, rank)) s
    else s

/-- A delivered CLAIM frame: a sound one whose claim value is below the sensed value stands (R82, R83). A station that
was keying its response to it when a seize took it from the field takes nothing from it (R18). -/
def hearClaim (sender segment intent rank mode sensed : Nat) (s : State) : State :=
  match claimSound segment intent rank mode with
  | none => s
  | some i =>
    if claimValue rank sender < sensed ∧ !s.channel.takesNothing sensed then
      meetStanding segment sender i rank
        (s.onClaims fun c => { c with view := standingView s.now segment sender i rank c.view })
    else s

/-- CLAIM: a good CLAIM frame of another station ends with the sensed value (R11, R82, R83). The station's role in
the field makes no difference (R81), but a response abandoned for a seize does (R18). -/
def execClaim (sender segment intent rank mode sensed : Nat) (s : State) : Result :=
  finish (receive sender (hearClaim sender segment intent rank mode sensed) s)

/-- Remove the view entry of (segment, holder) (R90). -/
def forgetView (segment holder : Nat) (s : State) : State :=
  s.onClaims fun c => { c with view := c.view.filter fun v => !(v.segment == segment && v.holder == holder) }

/-- A delivered RELEASE frame, if sound, removes its sender's entry for the segment (R90). -/
def hearRelease (sender segment : Nat) (s : State) : State :=
  if within 1 Config.maxSegment segment then forgetView segment sender s else s

/-- RELEASE: a good RELEASE frame of another station ends (R11, R90). -/
def execRelease (sender segment : Nat) (s : State) : Result := finish (receive sender (hearRelease sender segment) s)

/-! ## Time (R85, R88, R90) -/

/-- REFRESH: the work clock reaches a time at which the record offers a REFRESH frame. With a frame of the record still
queued nothing is offered, and the time has passed (R85, R87; log 22). -/
def execRefresh (segment : Nat) (s : State) : Result :=
  match s.ownClaim? segment with
  | none => .next s
  | some r =>
    match s.refreshDue r with
    | none => .next s
    | some n =>
      let s1 := updateOwn segment (fun x => { x with refreshesOffered := n }) s
      if r.frame = .none then
        finish (queueFrame .claims (.claim segment (intentCode r.intent) r.rank 1)
          (updateOwn segment (fun x => { x with frame := .refresh }) s1))
      else .next s1

/-- LAPSE: the work clock has reached the record's last successful send + 50 s (R88). -/
def execLapse (segment : Nat) (s : State) : Result :=
  match s.ownClaim? segment with
  | none => .next s
  | some r => if s.lapseDue r then finish (endClaim segment .lapsed none s) else .next s

/-- CLAIM_VIEW_EXPIRY: the work clock has reached the entry's expiry (R90). -/
def execClaimViewExpiry (segment holder : Nat) (s : State) : Result :=
  if s.claims.view.any (fun v => v.segment == segment && v.holder == holder && decide (v.expiry ≤ s.now)) then
    .next (forgetView segment holder s)
  else .next s

end Sys2Proof.Machine
end

