-- ==== Sys2Proof/Machine/CalloutSteps.lean ====
section
/-! DEFINITION. The steps of the callout unit: Raise Callout, acknowledgements, the CALLOUT frames of other stations and
the timers of callouts (Chapter 9). -/

namespace Sys2Proof.Machine

/-- RAISE_CALLOUT (R169): the reply is the sequence number, and 1 where a DEPOT has delivered it to itself (R170). -/
def execRaiseCallout (urgency segment cell detail : Nat) (s : State) : Result := whenTaken s <|
  if !s.working then refuse refusedState s
  else if ¬ (urgency ≤ 1 ∧ segment ≤ Config.maxSegment ∧ cell ≤ 63 ∧ detail ≤ 65535) then refuse refusedRange s
  else if !s.isDepot ∧ Config.ownCalloutCap ≤ s.callout.own.length then refuse refusedFull s
  else finish (ok [byteOf s.nextSeq, flagByte s.isDepot] (raise (7 + urgency) segment cell detail s))

/-- A CALLOUT frame's fields are sound (R175). -/
def calloutSound (origin code segment cell hop distance : Nat) : Bool :=
  within 1 254 origin && within 1 8 code && decide (segment ≤ Config.maxSegment) && decide (cell ≤ 63)
    && decide (hop ≤ 15) && decide (distance ≤ 15)

/-- The pair is one the station has taken: in the relay queue or the recent-relay list (R176, R177). -/
def State.knowsPair (s : State) (origin seq : Nat) : Bool :=
  s.callout.relay.any (·.isPair origin seq) || s.callout.recent.any (·.isPair origin seq)

/-- The station can accept a callout (R176). -/
def State.canAccept (s : State) (origin seq : Nat) : Bool :=
  s.isDepot || s.knowsPair origin seq || decide (s.callout.relay.length < Config.relayCap)

/-- The acknowledgement to a sound CALLOUT frame: the service distance and the station number (R176). -/
def State.acknowledgement? (s : State) (origin seq hop distance : Nat) : Option Nat :=
  if s.working ∧ s.station.distance < distance ∧ s.station.distance ≤ 14 ∧ hop < Config.hopLimit
      ∧ origin ≠ s.cfg.station ∧ s.canAccept origin seq then
    some (s.station.distance * 256 + s.cfg.station)
  else none

/-- ACKNOWLEDGEMENT: the gap of a CALLOUT frame (R19, R176; log 27). -/
def execAcknowledgement (sender origin seq code segment cell hop distance _detail : Nat) (s : State) : Result :=
  inGap sender
    (if calloutSound origin code segment cell hop distance then s.acknowledgement? origin seq hop distance else none) s

/-- A ROBOT takes a callout it won: a relay entry with the next hop count, its first frame queued (R178). The queue
has the room found at the gap (R177). A frame won as a duplicate whose pair has been forgotten since then finds no room
in a full queue and is dropped (DESIGN CHOICE, unsafe, log 46). -/
def takeRelay (origin seq code segment cell hop detail : Nat) (s : State) : State :=
  if s.knowsPair origin seq ∨ Config.relayCap ≤ s.callout.relay.length then s
  else
    let e : RelayEntry := ⟨origin, seq, code, segment, cell, detail, hop + 1, 0, .queued⟩
    queueRelay e (s.onCallout fun u => { u with relay := u.relay ++ [e] })

/-- A DEPOT takes a callout it won (R177, R182). -/
def takeAtDepot (sender origin seq code segment cell hop distance detail : Nat) (s : State) : State :=
  if s.callout.recent.any (·.isPair origin seq) then s
  else addRecent origin seq (post (.calloutReceived origin seq code segment cell detail hop sender distance) s)

/-- A delivered CALLOUT frame: a sound one whose field this station won is taken (R177; log 26). What R176 asks of an
acknowledgement, an origin other than this station and a hop count below 12, holds of every frame won. -/
def hearCallout (sender origin seq code segment cell hop distance detail sensed : Nat) (s : State) : State :=
  if calloutSound origin code segment cell hop distance ∧ s.role sensed = .won ∧ origin ≠ s.cfg.station
      ∧ hop < Config.hopLimit then
    if s.isDepot then takeAtDepot sender origin seq code segment cell hop distance detail s
    else takeRelay origin seq code segment cell hop detail s
  else s

/-- CALLOUT: a good CALLOUT frame of another station ends with the sensed value (R11, R177). -/
def execCallout (sender origin seq code segment cell hop distance detail sensed : Nat) (s : State) : Result :=
  finish (receive sender (hearCallout sender origin seq code segment cell hop distance detail sensed) s)

/-- The callout record or entry waits for its backoff (R171, R178). -/
def Retry.waits : Retry → Bool
  | .queued => false
  | .awaiting _ => true

/-- CALLOUT_BACKOFF: an own record's backoff is over; it is QUEUED again with a new frame (R173). -/
def execCalloutBackoff (seq : Nat) (s : State) : Result :=
  match s.callout.own.find? (·.seq == seq) with
  | none => .next s
  | some c =>
    if c.retry.waits then
      finish (queueOwnCallout c
        (s.onCallout fun u => { u with own := updateIf (·.seq == seq) (fun x => { x with retry := .queued }) u.own }))
    else .next s

/-- RELAY_BACKOFF: a relay entry's backoff is over; it is QUEUED again with a new forward frame (R179). -/
def execRelayBackoff (origin seq : Nat) (s : State) : Result :=
  match s.callout.relay.find? (·.isPair origin seq) with
  | none => .next s
  | some e =>
    if e.retry.waits then
      finish (queueRelay e
        (s.onCallout fun u =>
          { u with relay := updateIf (·.isPair origin seq) (fun x => { x with retry := .queued }) u.relay }))
    else .next s

/-- RECENT_RELAY_EXPIRY: the work clock has reached a pair's expiry (R181). -/
def execRecentRelayExpiry (origin seq : Nat) (s : State) : Result :=
  .next (s.onCallout fun u =>
    { u with recent := u.recent.filter fun p => !(p.isPair origin seq && decide (p.expiry ≤ s.now)) })

end Sys2Proof.Machine
end

