-- ==== Sys2Proof/Machine/ChannelSteps.lean ====
section
/-! DEFINITION. The steps of the channel controller: what the receiver senses, and the course and end of a frame of
this station (Chapter 1). -/

namespace Sys2Proof.Machine

/-! ## What the receiver senses -/

/-- Sixteen recessive symbols have been heard: the condition is IDLE and the assembler hunts (R3, R10). -/
def Channel.quiet (c : Channel) : Channel :=
  { c with condition := .idle, idleCount := Config.idleSymbols, assembler := .hunt, run := 0, runCounted := false }

/-- No frame is on the channel that this receiver follows, and this station keys nothing. -/
def Channel.atRest (c : Channel) : Bool := !c.assembler.inFrame && c.flight.isNone && c.seizeLeft == 0

/-- CHANNEL_IDLE: the idle count reaches 16 and a BUSY condition becomes IDLE (R3). -/
def execChannelIdle (s : State) : Result :=
  if s.receiverOn ∧ s.channel.condition = .busy ∧ s.channel.atRest then .next (s.onChannel Channel.quiet) else .next s

/-- NOISE: a dominant run of 2 to 23 symbols that is no start mark (R4, R12). -/
def execNoise (s : State) : Result :=
  if s.receiverOn then .next (s.onChannel fun c => c.frameOver.addNoise) else .next s

/-- FRAME_DISCARDED: the assembler discards the frame in assembly and the noise count goes up (R10, R11, R12),
whatever the cause and whoever keyed it (log 8). -/
def execFrameDiscarded (_cause : DiscardCause) (s : State) : Result :=
  if s.receiverOn then .next (s.onChannel fun c => c.frameOver.addNoise) else .next s

/-- START_MARK: four dominant symbols, then a recessive one. In HUNT, which the run has found IDLE, a frame begins (R4,
R10), and with it a frame of this station in flight, or withdrawn in its start mark; after HUNT the own start mark has
been sensed already, and anywhere else the run is noise (log 31). -/
def execStartMark (s : State) : Result :=
  if !s.receiverOn then .next s
  else if s.channel.flight.isSome ∨ s.channel.assembler = .hunt then
    .next (s.onChannel Channel.marked)
  else .next (s.onChannel fun c => c.frameOver.addNoise)

/-- BREAK_IN_IDLE_COUNT: one dominant symbol outside a frame (R3, R4, R10). -/
def execBreakInIdleCount (s : State) : Result :=
  if s.receiverOn ∧ !s.channel.assembler.inFrame then
    .next (s.onChannel fun c =>
      { c.broken with assembler := if c.assembler = .hunt then .waitIdle else c.assembler })
  else .next s

/-- SEIZE: the 24th dominant symbol of a run (R5). The frame in assembly is abandoned, a frame in flight ends SEIZED
and stays queued, a response stops, the event is posted, and at a ROBOT the seize caution period starts (R128). The
run goes on. -/
def execSeize (s : State) : Result :=
  if !s.receiverOn then .next s
  else
    let s1 := post (.channel .seize (s.channel.seizeLeft != 0))
      ((frameReturns true s).onChannel fun c => { c.frameOver with run := max Config.seizeRun c.run })
    if s.isRobot then finish (evalCaution (s1.onMotion fun m => { m with seizePeriod := some 0 })) else finish s1

/-- JAMMED: the 400th dominant symbol of a run (R6; log 11). -/
def execJammed (s : State) : Result :=
  if s.receiverOn then
    .next (post (.channel .jammed false)
      (s.onChannel fun c => { c.frameOver with condition := .jammed, run := max Config.jamRun c.run }))
  else .next s

/-- JAM_CLEARED: the idle count reaches 16 while the condition is JAMMED (R6). -/
def execJamCleared (s : State) : Result :=
  if s.channel.condition = .jammed ∧ s.receiverOn then
    .next (post (.channel .jamCleared false) (s.onChannel Channel.quiet))
  else .next s

/-- DUPLICATE_STATION: a good frame with this station's number that it did not key (R11). -/
def execDuplicateStation (s : State) : Result :=
  if s.receiverOn then .next (post (.channel .duplicateStation false) (s.onChannel Channel.frameOver)) else .next s

/-! ## The frame in flight -/

/-- FRAME_START: the head of the queue becomes the frame in flight, its bytes as they stand now (R13). The assembler
hunts until its start mark has been sensed (R10). -/
def execFrameStart (s : State) : Result :=
  if s.mayStartFrame then
    match s.channel.queue with
    | [] => .next s
    | q :: _ =>
      .next (s.onChannel fun c =>
        { c.broken with
          assembler := .hunt
          symbol := 0
          flight := some ⟨q.entry, false, frameImage s.cfg.station q.priority q.payload⟩ })
  else .next s

/-- ARBITRATION_WON: the frame in flight has passed header byte 1 as keyed; its block is told (R14). -/
def execArbitrationWon (s : State) : Result :=
  match s.channel.flight, s.flightFrame with
  | some f, some q =>
    if f.won then .next s
    else finish (wonNotice q.payload (s.onChannel fun c =>
      { c.marked with flight := some { f with won := true }, symbol := max Config.wonSymbols c.symbol }))
  | _, _ => .next s

/-- ARBITRATION_LOST: a stronger frame started with it. The frame stays queued, with no outcome, and the assembler
carries on with the winner's (R14). -/
def execArbitrationLost (s : State) : Result :=
  match s.channel.flight with
  | some f => if f.won then .next s else finish (frameReturns false (s.onChannel Channel.marked))
  | none => .next s

/-- The assembler discards the frame of this station that it holds, if it holds one, and counts it; a run that spoiled
its start mark counts as a noise run (R10, R12, R15). -/
def Channel.discarded (c : Channel) : Channel :=
  if c.assembler.inFrame ∨ c.assembler = .hunt then c.frameOver.addNoise else c.frameOver

/-- COLLIDED: the frame in flight met another carrier; it stays queued, and this station's own assembler has discarded
it (R12, R15, R26; log 8). -/
def execCollided (s : State) : Result :=
  if s.channel.flight.isSome then finish ((frameReturns true s).onChannel Channel.discarded) else .next s

/-- A spoiled gap or field counts as noise, unless a seize spoiled it (R12, R21). -/
def spoilIsNoise : SpoilCause → Bool
  | .codingViolation => true
  | .dominantRun => true
  | .seize => false

/-- RESPONSE_FIELD_SPOILED: the frame ends for every party. The sender's frame stays queued; a hearer takes nothing
(R21; log 33). -/
def execResponseFieldSpoiled (cause : SpoilCause) (s : State) : Result :=
  if !s.receiverOn then .next s
  else if s.channel.flight.isSome then
    finish ((frameReturns true s).onChannel (if spoilIsNoise cause then Channel.discarded else Channel.frameOver))
  else .next (s.onChannel fun c => if spoilIsNoise cause then c.frameOver.addNoise else c.frameOver)

/-- The receiver after a start mark of this station that it stopped keying has ended with `n` dominant symbols (R3, R4, R10).
With none sensed the channel is as idle as before the frame; up to three are a run that has ended; after four the start
mark has been sensed. -/
def Channel.markEnds (n : Nat) (c : Channel) : Channel :=
  if n = 0 then c.quiet else if n < Config.markDominants then c.ran n else c.marked

/-- The receiver after a frame of this station went unheard. In the start mark, where the symbol is free, at least the
symbols that have passed were sensed; later the assembler goes on with the frame as it hears it (R10, R16; log 9). -/
def Channel.unheard (c : Channel) : Channel :=
  { (if c.assembler = .hunt then c.markEnds (max c.symbol (Config.keyedUntil c.cuts)) else c) with
    cuts := c.cuts + 1 }

/-- TX_UNHEARD: a keyed dominant symbol is sensed recessive. The frame is removed, the unheard count goes up, and at 3 the
station becomes SILENT, or OFFLINE with a Leave pending (R16, R30, R32; log 9). -/
def execTxUnheard (s : State) : Result :=
  match s.flightFrame with
  | none => .next s
  | some q =>
    let third := decide (3 ≤ s.channel.unheardCount + 1)
    let s1 := (withdraw (·.entry == q.entry) s).onChannel fun c =>
      { c.unheard with flight := none, unheardCount := min 3 (c.unheardCount + 1) }
    let s2 := unheard third q.payload s1
    if third then
      if s2.station.leavePending then finish (enterOffline s2)
      else if s2.station.state = .active then finish (goSilent s2)
      else finish s2
    else finish s2

/-- SENT: the frame in flight has reached its end and nobody responded (R17). -/
def execSent (s : State) : Result := finish (frameSent Config.noResponse s)

/-- SENT_RESPONDED: the CLAIM or CALLOUT in flight has reached its end with a response value sensed (R17). -/
def execSentResponded (value : Nat) (s : State) : Result :=
  match s.flightFrame with
  | none => .next (echoEnds s)
  | some q => if q.payload.hasResponse then finish (frameSent value s) else .next s

/-- STALE: the age of a queued frame reaches its stale limit. The frame in flight goes on, and the limit counts at
its end; any other is removed with the outcome STALE (R24). -/
def execStale (entry : Nat) (s : State) : Result :=
  match s.channel.queue.find? (·.entry == entry) with
  | none => .next s
  | some q =>
    if s.channel.flightEntry = some entry then
      .next (s.onChannel fun c =>
        { c with queue := updateIf (·.entry == entry) (fun x => { x with age := max x.age x.payload.staleLimit }) c.queue })
    else finish (unsent q.payload (withdraw (·.entry == entry) s))

/-- The dominant run in which an own seize ended (R4, R18): it has `run` symbols where it has reached its 24th; short of
that the symbol at which the seize stopped is free, and at least the symbols that have passed were sensed (log 9). -/
def Channel.seizeRunLength (c : Channel) : Nat :=
  if Config.seizeRun ≤ c.run then c.run else c.run + Config.keyedUntil c.cuts % (Config.seizeRun - c.run)

/-- The receiver after an own seize (R4, R12, R18). -/
def Channel.seizeOver (c : Channel) : Channel :=
  { c.seizeStopped c.seizeRunLength with cuts := c.cuts + 1 }

/-- SEIZE_ENDS: this station's seize has been keyed to its end, or stopped where a symbol of it was sensed recessive; the
dominant run that it was part of is taken as R4 says. A frame in flight that it interrupted before its 24th symbol ends
COLLIDED and stays queued (R12, R18; logs 9, 32). -/
def execSeizeEnds (s : State) : Result :=
  if s.channel.seizeLeft ≠ 0 then finish ((frameReturns true s).onChannel Channel.seizeOver)
  else .next s

end Sys2Proof.Machine
end

