-- ==== Sys2Proof/Machine/DosingSteps.lean ====
section
/-! DEFINITION. The steps of the dosing unit: Load Stock and the FEED pulse (Chapter 8). -/

namespace Sys2Proof.Machine

/-- LOAD_STOCK: the stock is set, not added to; the low and empty tests follow with a valid record (R162 to R164). -/
def execLoadStock (grams : Nat) (s : State) : Result := whenTaken s <|
  let g := min 4000000 grams
  let s1 := post (.stock .loaded (g * 1000)) (s.onDosing fun d => { d with stock := g * 1000, low := false })
  finish (ok (be32 g) (if s.station.configValid then emptyTest s.dosing.stock (lowTest s1) else s1))

/-- The accumulator after the pulse: the generator adds the rate once a millisecond until 16,000 is reached, and takes
16,000 for the pulse (R158; log 19). -/
def accAfterPulse (rate acc : Nat) : Nat :=
  if 16000 ≤ acc then acc - 16000 else acc + (16000 - acc + rate - 1) / rate * rate - 16000

/-- FEED_PULSE: emitted while the feed is active and the stock is at least G; G leaves the stock, the open pass is
charged, and the low and empty tests follow (R158). FEED goes high for it; it is a further pulse of the present step of
1 ms only where the accumulator still stands at 16,000 or more, else the first of a later step (log 19). -/
def execFeedPulse (s : State) : Result :=
  if s.emitsPulse then
    let s1 := (s.onDosing fun d =>
        { d with
          acc := accAfterPulse d.rate d.acc
          stock := d.stock - s.cfg.feedCal
          pulsesNow := if 16000 ≤ d.acc then min 2 (d.pulsesNow + 1) else 1 }).onSegs
      fun t => { t with pass := t.pass.map fun p => { p with pulses := min Config.maxWord32 (p.pulses + 1) } }
    finish (emptyTest s.dosing.stock (lowTest s1))
  else .next s

end Sys2Proof.Machine
end

