-- ==== Sys2Proof/Machine/GroupSteps.lean ====
section
/-! DEFINITION. The steps of group control: Send Go, Send Hold, Send Resume, the HOLD, RESUME and GO frames of other
stations, and the timers of holds (Chapter 7). -/

namespace Sys2Proof.Machine

/-- A GO is taken: a RETAINED robot is released; one that is held ignores it (R139; log 12). -/
def takeGo (sender : Nat) (s : State) : State :=
  match s.motion.state with
  | .retained => (enterMoving .go s).onGroup fun g => { g with retained := false }
  | .groupHold => if s.group.retained then post (.goIgnored sender s.group.holds.length) s else s
  | .guestStop => if s.group.retained then post (.goIgnored sender s.group.holds.length) s else s
  | _ => s

/-- The station conditions of Send Go, Send Hold and Send Resume (R139, R145, R146). -/
def State.mayCommandGroup (s : State) : Bool := s.working && s.cfg.group != 0

/-- SEND_GO: a GO frame is queued, then the GO is taken here; the reply is the motion state after it (R139). -/
def execSendGo (s : State) : Result := whenTaken s <|
  if s.mayCommandGroup then
    let s1 := takeGo s.cfg.station (queueFrame .group (.go s.cfg.group) s)
    finish (ok [byteOf (motionCode s1.motion.state)] s1)
  else refuse refusedState s

/-- The reason of a Send Hold: FAULT or REQUEST (R145). -/
def hostReasonOf : Nat → Option HoldReason
  | 1 => some .fault
  | 2 => some .request
  | _ => none

/-- The host mark is set: the own hold is created or takes its values, and one HOLD is offered whether or not they
changed (R143, R145). -/
def hostHold (t : HoldType) (r : HoldReason) (s : State) : State :=
  let s1 := s.onGroup fun g => { g with hostMark := some (t, r) }
  match s1.ownHold?, s1.group.ownValues with
  | some h, some (t2, r2) => if h.holdType = t2 ∧ h.reason = r2 then offerHold s1 else raiseOwnHold s1
  | _, _ => raiseOwnHold s1

/-- SEND_HOLD (R145). -/
def execSendHold (holdType reason : Nat) (s : State) : Result := whenTaken s <|
  if s.mayCommandGroup then
    match holdTypeOf holdType, hostReasonOf reason with
    | some t, some r =>
      let s1 := hostHold t r s
      finish (ok [byteOf s1.group.holds.length] s1)
    | _, _ => refuse refusedRange s
  else refuse refusedState s

/-- SEND_RESUME: the four cases of R146. -/
def execSendResume (s : State) : Result := whenTaken s <|
  if s.mayCommandGroup then
    let s1 := s.onGroup fun g => { g with hostMark := none }
    match s.group.hostMark.isSome, s.group.guestMark with
    | true, true => finish (ok [1] (lowerOwnHold true s1))
    | true, false => finish (ok [0] (lowerOwnHold true s1))
    | false, true => finish (ok [1] s)
    | false, false => finish (ok [0] (queueResume s))
  else refuse refusedState s

/-- Group control acts on a frame for this group (R137). -/
def State.groupFrame (s : State) (group : Nat) : Bool := s.cfg.group != 0 && group == s.cfg.group

/-- A delivered HOLD frame (R137, R141). -/
def hearHold (sender group holdType reason : Nat) (s : State) : State :=
  match holdTypeOf holdType, holdReasonOf reason with
  | some t, some r => if s.groupFrame group ∧ s.cfg.holdResponse then receiveHold sender t r s else s
  | _, _ => s

/-- HOLD: a good HOLD frame of another station ends (R11, R141). -/
def execHold (sender group holdType reason : Nat) (s : State) : Result :=
  finish (receive sender (hearHold sender group holdType reason) s)

/-- A delivered RESUME frame (R137, R142). -/
def hearResume (sender group : Nat) (s : State) : State :=
  if s.groupFrame group then removeHold sender .resume s else s

/-- RESUME: a good RESUME frame of another station ends (R11, R142). -/
def execResume (sender group : Nat) (s : State) : Result := finish (receive sender (hearResume sender group) s)

/-- A delivered GO frame (R137, R139). -/
def hearGo (sender group : Nat) (s : State) : State := if s.groupFrame group then takeGo sender s else s

/-- GO: a good GO frame of another station ends (R11, R139). -/
def execGo (sender group : Nat) (s : State) : Result := finish (receive sender (hearGo sender group) s)

/-- HOLD_REPEAT_INTERVAL: the repeat interval reaches 10,000 ms. The HOLD is offered in ACTIVE without a pending
Leave; the interval starts again either way (R144). -/
def execHoldRepeatInterval (s : State) : Result :=
  if s.ownHold?.isSome then finish (offerHold (s.onGroup fun g => { g with repeatMs := 0 })) else .next s

/-- HOLD_EXPIRY: the work clock has reached a received entry's expiry (R142). -/
def execHoldExpiry (originator : Nat) (s : State) : Result :=
  match s.group.holds.find? (·.originator == originator) with
  | none => .next s
  | some h =>
    match h.expiry with
    | none => .next s
    | some e => if e ≤ s.now then finish (removeHold originator .expiry s) else .next s

end Sys2Proof.Machine
end

