-- ==== Sys2Proof/Machine/HostPort.lean ====
section
/-! DEFINITION. The steps of the host port itself: broken and unknown transactions, Read Status and Take Event
(R185, R191, R193). -/

namespace Sys2Proof.Machine

/-- TRANSACTION_ABORTED: SEL rises before the last byte of a request, or at the end of a transaction that a reset found
with SEL low. Nothing is taken and no reply exists (R185). -/
def execTransactionAborted (s : State) : Result :=
  .next (nothingTaken s)

/-- A request code of the request table (section 11.3). -/
def definedCode (code : Nat) : Bool := decide (1 ≤ code) && decide (code ≤ 0x19)

/-- UNKNOWN_REQUEST: a code byte that is no request is answered with the status UNKNOWN_REQUEST (R185). A defined
code is no unknown request (log 5). -/
def execUnknownRequest (code : Nat) (s : State) : Result := whenTaken s <|
  if definedCode code then .next s else refuse unknownRequestByte s

/-- READ_STATUS: the picture of every block; the noise count it shows goes to 0 (R193, R12). -/
def execReadStatus (s : State) : Result := whenTaken s <|
  .next ((ok (statusReply s) s).onChannel fun c => { c with noiseCount := 0 })

/-- TAKE_EVENT: the oldest record leaves the queue and is the reply, after the number of records left; on an empty
queue 0 and a record of the kind NONE (R191). -/
def execTakeEvent (s : State) : Result := whenTaken s <|
  match s.host.events with
  | [] => .next (ok [0, 0] s)
  | r :: rest => .next (ok (byteOf rest.length :: recordBytes r) (s.onHost fun h => { h with events := rest }))

end Sys2Proof.Machine
end

