-- ==== Sys2Proof/Machine/MotionSteps.lean ====
section
/-! DEFINITION. The steps of the motion supervisor: the motion requests, ramp steps, scanner samples and the timers of
guest stops, notices and seizes (Chapter 6). -/

namespace Sys2Proof.Machine

/-! ## Requests (R115, R116, R118, R120, R133, R134) -/

/-- The station conditions of the motion requests: a ROBOT in ACTIVE without a pending Leave (R115). -/
def State.mayDrive (s : State) : Bool := s.isRobot && s.working

/-- The own claim on the current segment is HOLDING (R115). -/
def State.holdsCurrent (s : State) : Bool :=
  match s.currentSegment with
  | some n => s.holds n
  | none => false

/-- The motion state allows an Enter Segment (R118). -/
def State.allowsEntry (s : State) : Bool :=
  match s.motion.state with
  | .idle => true
  | .retained => true
  | .run => (s.odo.entry.map (·.done)).getD false
  | .caution => (s.odo.entry.map (·.done)).getD false
  | .stopping => (s.odo.entry.map (·.done)).getD false
  | _ => false

/-- The counter and the entry at an accepted Enter Segment (R100). -/
def Odo.entered (cfg : Configuration) (r : Segment) (d : Direction) (o : Odo) : Odo :=
  let len := inCounts cfg r.length
  let p : Int := match d with
    | .forward => 0
    | .reverse => (len : Int)
  { o with position := p, entry := some ⟨r.number, d, len, cellIndex cfg (accounting len p), false⟩ }

/-- The segment that was current stops being occupied when another becomes current (R73, R91). -/
def leaveSegment (old : Option Nat) (new : Nat) (s : State) : State :=
  match old with
  | some n => if n = new ∨ s.motion.state = .idle then s else endOccupancy n s
  | none => s

/-- An accepted Enter Segment (R118): the pass is finalised, counter and entry are set, the old claim is looked at, the
pass opens on the start cell, the ceiling is clamped, caution is evaluated, and STOPPING with end IDLE drives on. -/
def enterSegment (r : Segment) (d : Direction) (s : State) : State :=
  let s1 := (finaliseAndFlush s).onOdo (Odo.entered s.cfg r d)
  let s2 := openPass ((s1.odo.entry.map (·.cell)).getD 0) (leaveSegment s.currentSegment r.number s1)
  let s3 := evalCaution (s2.onMotion fun m => { m with ceiling := min m.ceiling r.speedLimit })
  if s3.motion.state = .stopping ∧ s3.motion.stopEnd = .idle then enterMoving .enter s3 else s3

/-- ENTER_SEGMENT: the checks of R118 in order. -/
def execEnterSegment (segment direction : Nat) (s : State) : Result := whenTaken s <|
  if !s.mayDrive then refuse refusedState s
  else
    match within 1 Config.maxSegment segment, directionOf direction with
    | true, some d =>
      match s.segment? segment with
      | none => refuse refusedUnknown s
      | some r =>
        if !s.holds segment then refuse refusedNoClaim s
        else if !s.allowsEntry then refuse refusedState s
        else finish (ok [] (enterSegment r d s))
    | _, _ => refuse refusedRange s

/-- Every fault cause held counts as cleared (R133). -/
def State.faultsCleared (s : State) : Bool :=
  let f := s.motion.faults
  let slow := decide (s.odo.speed < 20)
  (!f.odometer || (!s.odo.fault && slow)) && (!(f.overspeed || f.stuck || f.claimLost) || slow)

/-- START: from IDLE into RUN or CAUTION (R115); from FAULT_STOP into IDLE once every cause is cleared, the refusal
carrying the causes (R133). A Start that the station state, a pending Leave or the class turns away first is answered with
the status byte alone, in FAULT_STOP too (R186; DEDUCED, log 48). -/
def execStart (s : State) : Result := whenTaken s <|
  if !s.mayDrive then refuse refusedState s
  else
    match s.motion.state with
    | .idle =>
      if !s.group.holds.isEmpty then refuse refusedHeld s
      else if !s.holdsCurrent then refuse refusedNoClaim s
      else finish (ok [] (enterMoving .start s))
    | .faultStop =>
      if s.faultsCleared then finish (ok [] (move .idle .start s))
      else .next (reply [refusedState, byteOf (faultByte s.motion.faults)] s)
    | _ => refuse refusedState s

/-- ARM_START: from IDLE into RETAINED, with the retained flag (R116, R138). -/
def execArmStart (s : State) : Result := whenTaken s <|
  if !s.mayDrive ∨ s.motion.state ≠ .idle then refuse refusedState s
  else if !s.group.holds.isEmpty then refuse refusedHeld s
  else if !s.holdsCurrent then refuse refusedNoClaim s
  else if s.cfg.group = 0 then refuse refusedState s
  else finish (ok [] ((move .retained .arm s).onGroup fun g => { g with retained := true }))

/-- The motion state after Stop Route, with no current segment any more (R120). -/
def stopRouteState (s : State) : State :=
  match s.motion.state with
  | .run => enterStopping .idle .stopRoute s
  | .caution => enterStopping .idle .stopRoute s
  | .stopping => s.onMotion fun m => { m with stopEnd := .idle }
  | .retained => move .idle .stopRoute s
  | .groupHold => move .idle .stopRoute s
  | _ => s

/-- STOP_ROUTE: a ROBOT in ACTIVE, a pending Leave included, or in SILENT. The entry ends and the retained flag is
cleared (R120). -/
def execStopRoute (s : State) : Result := whenTaken s <|
  if s.isRobot ∧ (s.station.state = .active ∨ s.station.state = .silent) then
    finish (ok [] (stopRouteState ((endEntry s).onGroup fun g => { g with retained := false })))
  else refuse refusedState s

/-- SET_BEACON: the work beacon intensity (R134). -/
def execSetBeacon (intensity : Nat) (s : State) : Result := whenTaken s <|
  if intensity ≤ 255 then
    .next (ok [] (s.onStation fun t => { t with config := { t.config with workBeacon := intensity } }))
  else refuse refusedRange s

/-! ## The ceiling (R114, R119) -/

/-- One ramp step of a ceiling toward a target (R114). -/
def rampCeiling (accel decel target ceiling : Nat) : Nat :=
  if ceiling < target then min target (ceiling + accel)
  else if target < ceiling then max target (ceiling - decel)
  else ceiling

/-- RAMP_STEP: 50 ms have passed (R114); STOPPING ends where the ceiling is 0 and the robot stands (R119). -/
def execRampStep (s : State) : Result :=
  finish (checkStopped (s.onMotion fun m => { m with ceiling := rampCeiling s.cfg.accel s.cfg.decel s.target m.ceiling }))

/-! ## The scanner (R121 to R125) -/

/-- The warning counter after a sample (R121). -/
def warnCount (cfg : Configuration) (active : Bool) (n : Nat) : Nat :=
  if active then min cfg.warnThreshold (n + 1) else lowered cfg.warnDecrement n

/-- The warning after the sample that leaves its counter at `n` (R121). -/
def warningAfter (threshold n : Nat) (warning : Bool) : Bool :=
  if threshold ≤ n then true else if n = 0 then false else warning

/-- The WARN_FIELD sample: the counter, the warning, and at a change of the warning the own zone and caution (R121,
R126, R127). -/
def sampleWarn (active : Bool) (s : State) : State :=
  let n := warnCount s.cfg active s.motion.warnCounter
  let w := warningAfter s.cfg.warnThreshold n s.motion.warning
  let s1 := s.onMotion fun m =>
    { m with warnCounter := n, warning := w, restartMs := if active then 0 else m.restartMs }
  if w = s.motion.warning then s1 else evalCaution (zoneChanged s.zone s1)

/-- The guest stop at the setting of the latch, with the own hold if it is configured (R122, R123). -/
def guestStopped (s : State) : State :=
  let s1 := move .guestStop .guest s
  if s.cfg.sendHold ∧ s.cfg.group ≠ 0 then
    raiseOwnHold ((s1.onMotion fun m => { m with holdSent := true }).onGroup fun g => { g with guestMark := true })
  else s1

/-- The protective latch is set (R122). -/
def setLatch (s : State) : State :=
  let s1 := zoneChanged s.zone (s.onMotion fun m => { m with latch := true })
  match s.motion.state with
  | .run => guestStopped s1
  | .caution => guestStopped s1
  | .stopping => guestStopped s1
  | .groupHold => guestStopped s1
  | _ => s1

/-- Raise GUEST_BLOCKED, once in a stay in GUEST_STOP (R125). -/
def raiseGuestBlocked (s : State) : State :=
  raiseHere 1 (guestSeconds s.motion.guestBlockedMs) (s.onMotion fun m => { m with guestBlockedRaised := true })

/-- Two minutes of a guest stop have passed and its callout has not been raised (R125). -/
def State.guestBlockedDue (s : State) : Bool :=
  s.motion.state == .guestStop && !s.motion.guestBlockedRaised && decide (Config.guestBlockedLimit ≤ s.motion.guestBlockedMs)

/-- The PROT_FIELD sample: a rising one asks for a seize and sets the latch (R122); an active one stops the restart
timer (R124) and raises a GUEST_BLOCKED that is due (R125). -/
def sampleProt (active : Bool) (s : State) : State :=
  let s1 := s.onMotion fun m => { m with lastProt := active, restartMs := if active then 0 else m.restartMs }
  let s2 :=
    if active ∧ !s.motion.lastProt then
      let s3 := requestSeize s1
      if s3.motion.latch then s3 else setLatch s3
    else s1
  if active ∧ s2.guestBlockedDue then raiseGuestBlocked s2 else s2

/-- SCANNER_SAMPLE: WARN_FIELD and PROT_FIELD are sampled together at a ROBOT (R121); WARN_FIELD is taken first (log
17). At any other station the lines have their levels and nothing samples them. -/
def execScannerSample (warn prot : Bool) (s : State) : Result :=
  let s1 := s.onMotion fun m => { m with warnLine := warn, protLine := prot }
  if s.isRobot then finish (sampleProt prot (sampleWarn warn s1)) else .next s1

/-- GUEST_CLEARED: the restart timer reaches 3,000 ms. The latch is cleared, and a robot in GUEST_STOP leaves it, its
guest hold first (R124, R123). That the timer then stands at 0 is the model's choice (DESIGN CHOICE, unsafe, log
52). -/
def execGuestCleared (s : State) : Result :=
  if s.restartRuns then
    let s1 := zoneChanged s.zone (s.onMotion fun m => { m with latch := false, restartMs := 0 })
    if s1.motion.state = .guestStop then
      let s2 := releaseGuestHold true s1
      if s2.cfg.manualRestart ∨ s2.odo.entry.isNone then finish (move .idle .guestCleared s2)
      else if s2.group.retained ∧ s2.group.holds.isEmpty then finish (move .retained .guestCleared s2)
      else finish (enterMoving .guestCleared s2)
    else finish s1
  else .next s

/-- GUEST_BLOCKED: the guest-blocked timer reaches 120 s. With PROT_FIELD active the callout is raised; without, the
supervisor watches on (R125). -/
def execGuestBlocked (s : State) : Result :=
  if s.motion.state = .guestStop ∧ !s.motion.guestBlockedRaised then
    let s1 := s.onMotion fun m => { m with guestBlockedMs := max m.guestBlockedMs Config.guestBlockedLimit }
    if s1.motion.lastProt then finish (raiseGuestBlocked s1) else .next s1
  else .next s

/-! ## Notices and seizes (R126, R128) -/

/-- NOTICE_INTERVAL: the notice interval reaches 5,000 ms while the own zone is not CLEAR (R126). -/
def execNoticeInterval (s : State) : Result :=
  if s.zone = .clear then .next s else finish (offerNotice (s.onMotion fun m => { m with noticeMs := 0 }))

/-- SEIZE_CAUTION_PERIOD: the period reaches 10,000 ms and ends (R128). -/
def execSeizeCautionPeriod (s : State) : Result :=
  if s.motion.seizePeriod.isSome then finish (evalCaution (s.onMotion fun m => { m with seizePeriod := none }))
  else .next s

end Sys2Proof.Machine
end

