-- ==== Sys2Proof/Machine/OdometrySteps.lean ====
section
/-! DEFINITION. The steps of the odometry unit: wheel counts, decode errors and speed samples, with what each hands to
the segment table, the motion supervisor and the dosing unit (Chapter 5, R52, R130, R131, R157). -/

namespace Sys2Proof.Machine

/-! ## Wheel counts (R97 to R105) -/

/-- The levels of the lines after an edge, and of BLADE (R97). -/
def Odo.sensed (e : Edge) (blade : Bool) (o : Odo) : Odo :=
  match e.line with
  | .a => { o with lineA := e.rises, lineB := e.otherHigh, blade := blade }
  | .b => { o with lineB := e.rises, lineA := e.otherHigh, blade := blade }

/-- What a wheel count adds to the position counter, by the sense of the present entry (R99). -/
def countStep (entry : Option Entry) (n : Int) : Int :=
  match entry with
  | none => n
  | some e =>
    match e.direction with
    | .forward => n
    | .reverse => -n

/-- A position held in the counter's range (R99). -/
def saturate32 (p : Int) : Int := max (-2147483648) (min 2147483647 p)

/-- The odometry unit after a wheel count: the net count of the window and the position counter (R99, R107). -/
def Odo.counted (n : Int) (o : Odo) : Odo :=
  { o with net := o.net + n, position := saturate32 (o.position + countStep o.entry n) }

/-- Charge a wheel count to the open pass (R52). -/
def chargeCount (blade : Bool) (s : State) : State :=
  s.onSegs fun t =>
    { t with
      pass := t.pass.map fun p =>
        { p with
          travel := min Config.maxWord32 (p.travel + 1)
          blade := if blade then min Config.maxWord32 (p.blade + 1) else p.blade } }

/-- A cell crossing: the old pass is finalised and a pass opens on the cell entered (R103, R161). -/
def crossCell (e : Entry) (cell : Nat) (s : State) : State :=
  openPass cell ((finalise s).onOdo fun o => { o with entry := some { e with cell := cell } })

/-- The entry is completed by a wheel count that leaves the counter at `p` (R105). -/
def completes (e : Entry) (p : Int) : Bool :=
  !e.done &&
    match e.direction with
    | .forward => decide ((e.length : Int) ≤ p)
    | .reverse => decide (p ≤ 0)

/-- Segment completion on `cell`: the pass is finalised, the report flushed, a fresh pass opens, SEGMENT_DONE is posted
and a robot in RUN or CAUTION comes to rest (R105, R119). -/
def completeSegment (e : Entry) (cell : Nat) (s : State) : State :=
  let s1 := openPass cell
    (finaliseAndFlush (s.onOdo fun o => { o with entry := some { e with cell := cell, done := true } }))
  let s2 := post (.segmentDone e.segment e.direction cell s1.odo.position) s1
  if s2.motion.state = .run ∨ s2.motion.state = .caution then enterStopping .idle .completion s2 else s2

/-- What a wheel count does while a segment is current, the counter having moved (R103, R105, R52). -/
def countOnSegment (e : Entry) (blade : Bool) (s : State) : State :=
  let cell := cellIndex s.cfg (accounting e.length s.odo.position)
  let s1 := if cell = e.cell then s else crossCell e cell s
  let s2 := if completes e s.odo.position then completeSegment e cell s1 else s1
  chargeCount blade s2

/-- WHEEL_COUNT: an edge of one odometer line, BLADE at that level. The decode mode says whether it counts and which
way (R97); while the decoder is stopped nothing counts (R98). -/
def execWheelCount (edge : Edge) (blade : Bool) (s : State) : Result :=
  let s1 := s.onOdo (Odo.sensed edge blade)
  let n := edgeCount s.cfg.decodeMode edge
  if s.decoderRuns ∧ n ≠ 0 then
    let s2 := s1.onOdo (Odo.counted n)
    match s2.odo.entry with
    | none => .next s2
    | some e => finish (countOnSegment e blade s2)
  else .next s1

/-! ## Decode errors (R97, R108) -/

/-- DECODE_ERROR: both lines change between two samples. The eighth error of a window raises the odometer fault, if
it is not raised: FAULT_STOP from any motion state, and the callout ODOMETER (R108, R132). -/
def execDecodeError (s : State) : Result :=
  if s.decoderRuns then
    let s1 := s.onOdo fun o => { o with lineA := !o.lineA, lineB := !o.lineB, errors := min 255 (o.errors + 1) }
    if s1.odo.errors = 8 ∧ !s1.odo.fault then
      finish (raiseHere 4 0 (faultStop .odometer
        (s1.onOdo fun o => { o with fault := true, faultFresh := true, faultWindows := 0 })))
    else .next s1
  else .next (s.onOdo fun o => { o with lineA := !o.lineA, lineB := !o.lineB })

/-! ## Speed samples (R107, R109, R130, R131, R157) -/

/-- The sense of a sample (R107). -/
def sampleSense (net : Int) (v : Nat) : Sense :=
  if v = 0 then .none else if 0 < net then .forward else .backward

/-- The odometer fault at the end of a window (R109): the window in which it was raised is not counted; it clears at
the end of an error-free window, at least the fourth. -/
def Odo.faultAged (o : Odo) : Odo :=
  if o.fault then
    if o.faultFresh then { o with faultFresh := false }
    else if o.errors = 0 ∧ 4 ≤ o.faultWindows + 1 then { o with fault := false, faultWindows := 0 }
    else { o with faultWindows := min 4 (o.faultWindows + 1) }
  else o

/-- The odometry unit at the end of a window (R107, R109). -/
def Odo.sampled (runs : Bool) (cfg : Configuration) (o : Odo) : Odo :=
  let v := if runs then sampleSpeed cfg o.net.natAbs else 0
  { o.faultAged with speed := v, sense := sampleSense o.net v, lastErrors := o.errors, errors := 0, net := 0 }

/-- The ceilings at the last four samples, the present one added and the oldest dropped (R130). -/
def pushHistory (ceiling : Nat) (h : List Nat) : List Nat := h.drop 1 ++ [ceiling]

/-- A sample of speed `v` is over, against the largest ceiling of the history (R130). -/
def overspeedSample (h : List Nat) (v : Nat) : Bool :=
  let c := h.foldl max 0
  decide (c + max 100 (c / 8) < v)

/-- The overspeed test (R130): it does not run in IDLE and FAULT_STOP. -/
def testOverspeed (s : State) : State :=
  if s.motion.state = .idle ∨ s.motion.state = .faultStop then s
  else if overspeedSample s.motion.history s.odo.speed then
    if s.motion.overspeedRun + 1 < 3 then s.onMotion fun m => { m with overspeedRun := m.overspeedRun + 1 }
    else faultStop .overspeed s
  else s.onMotion fun m => { m with overspeedRun := 0 }

/-- The stuck test (R131). -/
def testStuck (s : State) : State :=
  if s.permit ∧ 100 ≤ s.motion.ceiling ∧ s.odo.speed < 20 then
    if s.cfg.stuckThreshold ≤ min 40 (s.motion.stuck + 1) then
      raiseHere 2 s.motion.ceiling (faultStop .stuck s)
    else s.onMotion fun m => { m with stuck := min 40 (m.stuck + 1) }
  else s.onMotion fun m => { m with stuck := lowered s.cfg.stuckDecrement m.stuck }

/-- The feed rate follows the measured speed while the feed is active (R157). -/
def followSpeed (s : State) : State :=
  if s.dosing.active then s.onDosing (Dosing.withRate s.cfg s.odo.speed) else s

/-- SPEED_SAMPLE: a window of 250 ms ends (R107). The motion supervisor tests overspeed and the stuck counter and
looks for the end of STOPPING; the dosing unit takes the new speed. -/
def execSpeedSample (s : State) : Result :=
  let s1 := (s.onOdo (Odo.sampled s.decoderRuns s.cfg)).onMotion fun m =>
    { m with history := pushHistory m.ceiling m.history }
  finish (followSpeed (checkStopped (testStuck (testOverspeed s1))))

end Sys2Proof.Machine
end

