-- ==== Sys2Proof/Machine/Resets.lean ====
section
/-! DEFINITION. The resets: POWER_ON, RESET_N and RESTART (R33, R34, R194, R195, and the reset tables of the other
chapters). -/

namespace Sys2Proof.Machine

/-- The host port after POWER_ON or RESET_N (R195); whether SEL is low then is free (R185, log 29). -/
def HostPort.afterReset (h : HostPort) : HostPort :=
  { HostPort.reset with heldSel := Config.selLowAtReset h.resets, resets := h.resets + 1 }

/-- Every block at its power-on values (R34). Commands that wait stay in the queue. -/
def State.afterReset (s : State) : State :=
  { State.reset with
    pending := s.pending, channel := { Channel.reset with cuts := s.channel.cuts }, host := s.host.afterReset }

/-- POWER_ON: every block at its power-on values (R34). -/
def execPowerOn (s : State) : Result := .next s.afterReset

/-- RESET_N, from its fall to its release (R34; log 35): as power-on, with the reset cause RESET_LINE. -/
def execResetN (s : State) : Result :=
  .next (s.afterReset.onStation fun t => { t with resetCause := .resetLine })

/-- The service distance after Restart (R33). -/
def restartDistance (t : Station) : Nat := if t.configValid && t.config.cls == .depot then 0 else 15

/-- The station controller after Restart (R33). -/
def Station.restarted (t : Station) : Station :=
  { Station.reset with
    resetCause := .restart, configValid := t.configValid, config := t.config, distance := restartDistance t }

/-- A segment record after Restart: every recorded time absent, the guest state CLEAR (R49). -/
def Segment.restarted (r : Segment) : Segment :=
  { r with
    reported := none
    guest := none
    cells := r.cells.map fun c => { c with plowedAt := none, saltedAt := none } }

/-- The segment table after Restart: the pass is not finalised and nothing is reported (R49, R56). -/
def Segments.restarted (t : Segments) : Segments := ⟨t.records.map Segment.restarted, none, none⟩

/-- The odometry unit after Restart (section 5.6); the lines keep their levels. -/
def Odo.restarted (o : Odo) : Odo := { Odo.reset with lineA := o.lineA, lineB := o.lineB, blade := o.blade }

/-- The motion supervisor after Restart (R136); the lines keep their levels. -/
def Motion.restarted (m : Motion) : Motion := { Motion.reset with warnLine := m.warnLine, protLine := m.protLine }

/-- The dosing unit after Restart keeps its stock and low flag (R166). -/
def Dosing.restarted (d : Dosing) : Dosing := { Dosing.reset with stock := d.stock, low := d.low }

/-- The callout unit after Restart keeps its sequence counter (R174, R180, R181). -/
def Callouts.restarted (u : Callouts) : Callouts := { Callouts.reset with seq := u.seq }

/-- Every block at its Restart values, the event queue empty (R33, R194). The transaction that carries the Restart goes on:
the port waits for no rise of SEL, and counts on (R185). -/
def State.restarted (s : State) : State where
  pending := s.pending
  station := s.station.restarted
  channel := { Channel.reset with cuts := s.channel.cuts }
  segs := s.segs.restarted
  claims := Claims.reset
  odo := s.odo.restarted
  motion := s.motion.restarted
  group := Group.reset
  dosing := s.dosing.restarted
  callout := s.callout.restarted
  host := { HostPort.reset with transaction := s.host.transaction, resets := s.host.resets }

/-- RESTART: accepted in every station state. The first record of the emptied queue is STATION RESTART at time 0
(R33, R194). No DISTANCE record follows it (log 15). -/
def execRestart (s : State) : Result := whenTaken s <|
  .next (ok [] (post (.stationState .restart s.station.state .offline) s.restarted))

end Sys2Proof.Machine
end

