-- ==== Sys2Proof/Machine/SegmentSteps.lean ====
section
/-! DEFINITION. The steps of the segment table: loading and reading it, reported temperatures, snowfall, and the
PROGRESS, SNOWFALL and GUEST frames of other stations (Chapter 3). -/

namespace Sys2Proof.Machine

/-! ## Loading (R45, R46) -/

/-- Adjacent segment `i` of a Load Segment request is in range: 1..4000, not the record's own number, no repeat
(R45). -/
def adjacentOk (f : LoadFields) (i : Nat) : Bool :=
  let a := f.adjacent.getD i 0
  within 1 Config.maxSegment a && a != f.segment && !(f.adjacent.take i).contains a

/-- The checks of a Load Segment request in their order, numbered 1 to 7, then 8 to 11 (R45, section 11.3). -/
def loadChecks (f : LoadFields) : List Bool :=
  [within 1 Config.maxSegment f.segment, within 100 3200 f.length, within 100 4000 f.speedLimit,
   (surfaceOf f.surface).isSome, (flagOf f.saltPermitted).isSome,
   decide (-400 ≤ f.defaultTemp) && decide (f.defaultTemp ≤ 200), within 0 4 f.adjacentCount]
  ++ (List.range f.adjacentCount).map (adjacentOk f)

/-- The record a sound Load Segment request makes, its runtime parts as after load (R45, R47). -/
def loadedRecord (f : LoadFields) : Segment where
  number := f.segment
  length := f.length
  speedLimit := f.speedLimit
  surface := (surfaceOf f.surface).getD .walkway
  saltPermitted := f.saltPermitted == 1
  defaultTemp := f.defaultTemp
  adjacent := f.adjacent.take f.adjacentCount
  reported := none
  guest := none
  cells := List.replicate (cellCount f.length) freshCell

/-- LOAD_SEGMENT: OFFLINE only; the first field out of range refuses it with its number; a new number needs room
(R45). -/
def execLoadSegment (f : LoadFields) (s : State) : Result := whenTaken s <|
  if s.station.state ≠ .offline then refuse refusedState s
  else
    match firstFault 1 (loadChecks f) with
    | some n => .next (reply [refusedRange, byteOf n] s)
    | none =>
      if (s.segment? f.segment).isNone ∧ Config.segmentCap ≤ s.segs.records.length then refuse refusedFull s
      else finish (ok [] (s.onSegs fun t => { t with records := insertSegment (loadedRecord f) t.records }))

/-- CLEAR_SEGMENTS: OFFLINE only; every record goes, and the reply carries how many (R46). -/
def execClearSegments (s : State) : Result := whenTaken s <|
  if s.station.state ≠ .offline then refuse refusedState s
  else finish (ok [byteOf s.segs.records.length] (s.onSegs fun t => { t with records := [] }))

/-! ## Reading (R48) -/

/-- READ_SEGMENT (R48). -/
def execReadSegment (segment : Nat) (s : State) : Result := whenTaken s <|
  match s.segment? segment with
  | none => refuse refusedUnknown s
  | some r => .next (ok (segmentReply s r) s)

/-- READ_CELLS: cell numbers at or above the cell count are taken as the last cell (R48, R188). -/
def execReadCells (segment first last : Nat) (s : State) : Result := whenTaken s <|
  match s.segment? segment with
  | none => refuse refusedUnknown s
  | some r =>
    .next (ok (cellsReply s r (min first (cellCount r.length - 1)) (min last (cellCount r.length - 1))) s)

/-! ## Temperature (R50) -/

/-- A temperature clamped to its range (R50). -/
def clampTemp (t : Int) : Int := max (-400) (min 200 t)

/-- The cell need after a report for the current segment, against the residual the pass has (R50, R153). -/
def recomputeNeed (s : State) : State :=
  match s.currentRecord, s.segs.pass with
  | some r, some p => s.onDosing fun d => { d with need := cellNeed s.cfg s.now r p.residual }
  | _, _ => s

/-- REPORT_TEMPERATURE: the clamped value and the time now become the record's report; on the current segment the
cell need is computed anew (R50, R153). -/
def execReportTemperature (segment : Nat) (temperature : Int) (s : State) : Result := whenTaken s <|
  match s.segment? segment with
  | none => refuse refusedUnknown s
  | some _ =>
    let t := clampTemp temperature
    let s1 := updateSegment segment (fun x => { x with reported := some (t, s.now) }) s
    let s2 := if s.currentSegment = some segment then recomputeNeed s1 else s1
    finish (ok (be16 (twos16 t)) s2)

/-! ## Snowfall (R62 to R64) -/

/-- The fields of a fill are sound: the segments in 1..4000 and in order (R62, R64). -/
def fillRange (first last : Nat) : Bool :=
  within 1 Config.maxSegment first && within 1 Config.maxSegment last && decide (first ≤ last)

/-- MARK_SNOWFALL: a fill with the source HOST, and with broadcast set a SNOWFALL frame (R62). Broadcast set is
admitted in ACTIVE alone (R187); a flag that is neither 0 nor 1 is out of range (R188; log 30). -/
def execMarkSnowfall (first last clearSalt broadcast : Nat) (s : State) : Result := whenTaken s <|
  if broadcast = 1 ∧ s.station.state ≠ .active then refuse refusedState s
  else
    match fillRange first last, flagOf clearSalt, flagOf broadcast with
    | true, some c, some b =>
      let s1 := fill 0 first last c s
      let s2 := if b then queueFrame .segments (.snowfall first last clearSalt) s1 else s1
      finish (ok [byteOf (s.recordsIn first last)] s2)
    | _, _, _ => refuse refusedRange s

/-- A delivered SNOWFALL frame: a fill with its sender as source, if its fields are sound (R64). -/
def hearSnowfall (sender first last clearSalt : Nat) (s : State) : State :=
  match fillRange first last, flagOf clearSalt with
  | true, some c => fill sender first last c s
  | _, _ => s

/-- SNOWFALL: a good SNOWFALL frame of another station ends (R11, R64). -/
def execSnowfall (sender first last clearSalt : Nat) (s : State) : Result :=
  finish (receive sender (hearSnowfall sender first last clearSalt) s)

/-! ## Progress (R41, R60, R61) -/

/-- What a delivered PROGRESS frame does to the neighbour table (R41). -/
def progressNeighbour (sender distance : Nat) (s : State) : State :=
  if distance ≤ 15 then
    match s.station.neighbours.find? (·.station == sender) with
    | some n => hearNeighbour { n with distance := distance, lastHeard := s.now } s
    | none => hearNeighbour ⟨sender, .robot, distance, none, none, s.now⟩ s
  else s

/-- A cell after an applicable PROGRESS frame (R61). -/
def progressCell (now : Nat) (w : Work) (dose : Nat) (c : Cell) : Cell :=
  let plowed : Cell := { c with plowed := true, plowedAt := some now }
  match w with
  | .plowed => plowed
  | .salted => { c with dose := dose, saltedAt := some now, shortfall := false }
  | .both => { plowed with dose := dose, saltedAt := some now, shortfall := false }

/-- What a delivered PROGRESS frame does to the segment table (R60, R61). -/
def progressCells (segment first last work dose : Nat) (s : State) : State :=
  match s.segment? segment, workOf work with
  | some r, some w =>
    if first ≤ last then
      let top := cellCount r.length - 1
      updateSegment segment
        (fun x => { x with cells := updateCells (min first top) (min last top) (progressCell s.now w (min 63 dose)) x.cells }) s
    else s
  | _, _ => s

/-- PROGRESS: a good PROGRESS frame of another station ends (R11, R41, R60). -/
def execProgress (sender segment first last work dose distance : Nat) (s : State) : Result :=
  finish (receive sender (fun x => progressCells segment first last work dose (progressNeighbour sender distance x)) s)

/-! ## Guest states (R65, R66) -/

/-- A change of a segment's guest state: a change of its zone posts PEER_GUEST and caution is evaluated (R65, R127). -/
def setGuest (r : Segment) (g : Option PeerGuest) (source cell : Nat) (expired : Bool) (s : State) : State :=
  let s1 := updateSegment r.number (fun x => { x with guest := g }) s
  if guestZoneOf g = guestZoneOf r.guest then s1
  else evalCaution (post (.peerGuest r.number (guestZoneOf g) source cell expired) s1)

/-- A delivered GUEST frame (R65). -/
def hearGuest (sender segment cell zone : Nat) (s : State) : State :=
  match s.segment? segment, zoneOf zone with
  | some r, some z => setGuest r (noticed s.now r.guest sender z) sender cell false s
  | _, _ => s

/-- GUEST: a good GUEST frame of another station ends (R11, R65). -/
def execGuest (sender segment cell zone : Nat) (s : State) : Result :=
  finish (receive sender (hearGuest sender segment cell zone) s)

/-- GUEST_STATE_EXPIRY: the work clock has reached the expiry of a segment's guest state (R66). The record shows the
source, by then absent, and the cell as 0 (log 25). -/
def execGuestStateExpiry (segment : Nat) (s : State) : Result :=
  match s.segment? segment with
  | none => .next s
  | some r =>
    match r.guest with
    | none => .next s
    | some g => if g.expiry ≤ s.now then finish (setGuest r none 0 0 true s) else .next s

end Sys2Proof.Machine
end

