-- ==== Sys2Proof/Machine/StationLife.lean ====
section
/-! DEFINITION. The steps of the station controller: Configure, Join, Leave, the work clock, the listen and presence
timers, and the neighbour table (Chapter 2). -/

namespace Sys2Proof.Machine

/-! ## Configure (R35, R36) -/

/-- The checks of a Configure request in field-number order: fields 1 to 23, then the 24 doses (R35). A dose the
request does not carry is out of range (log 30). -/
def configureChecks (f : ConfigureFields) : List Bool :=
  [within 1 254 f.station, (classOf f.cls).isSome, within 0 15 f.group, within 50 400 f.width,
   within 100 5000 f.feedCal, within 10 2000 f.feedMax, within 100 800 f.crawl, within 10 500 f.accel,
   within 10 500 f.decel, within 100 20000 f.countsPerMetre, (decodeModeOf f.decodeMode).isSome,
   within 1 15 f.warnThreshold, (decrementOf f.warnDecrement).isSome, within 4 40 f.stuckThreshold,
   (decrementOf f.stuckDecrement).isSome, (flagOf f.holdResponse).isSome, (flagOf f.holdStop).isSome,
   (flagOf f.sendHold).isSome, (flagOf f.manualRestart).isSome, within 1 8 f.stride, within 10 240 f.residualWindow,
   within 0 500000 f.lowStock, within 0 255 f.workBeacon]
  ++ (List.range 24).map fun i => within 0 60 (f.doses.getD i 61)

/-- The number that REFUSED_RANGE of Configure carries: 1 to 23, or 24 + the dose's index (R35, section 11.3). -/
def configureFault (f : ConfigureFields) : Option Nat := firstFault 1 (configureChecks f)

/-- The configuration record of a request whose fields are all in range. -/
def configureRecord (f : ConfigureFields) : Configuration where
  station := f.station
  cls := (classOf f.cls).getD .robot
  group := f.group
  width := f.width
  feedCal := f.feedCal
  feedMax := f.feedMax
  crawl := f.crawl
  accel := f.accel
  decel := f.decel
  countsPerMetre := f.countsPerMetre
  decodeMode := (decodeModeOf f.decodeMode).getD .x1
  warnThreshold := f.warnThreshold
  warnDecrement := (decrementOf f.warnDecrement).getD .reset
  stuckThreshold := f.stuckThreshold
  stuckDecrement := (decrementOf f.stuckDecrement).getD .reset
  holdResponse := f.holdResponse == 1
  alwaysImmediate := f.holdStop == 1
  sendHold := f.sendHold == 1
  manualRestart := f.manualRestart == 1
  stride := f.stride
  residualWindow := f.residualWindow
  lowStock := f.lowStock
  workBeacon := f.workBeacon
  doses := f.doses.take 24

/-- The motion supervisor at each Configure (R121, R122, R124, R131): the scanner and stuck counters start again; a
DEPOT record makes it IDLE with no MOTION event (R136). That the restart timer then stands at 0 is the model's choice
(DESIGN CHOICE, unsafe, log 52). -/
def Motion.configured (cls : StationClass) (m : Motion) : Motion :=
  let m1 : Motion := { m with warnCounter := 0, warning := false, latch := false, lastProt := false, restartMs := 0, stuck := 0 }
  match cls with
  | .robot => m1
  | .depot =>
    { m1 with
      state := .idle, ceiling := 0, faults := FaultSet.empty, overspeedRun := 0 }

/-- The odometry unit at each Configure: a DEPOT record stops the decoder, which clears the odometer fault (R98,
R108). -/
def Odo.configured (cls : StationClass) (o : Odo) : Odo :=
  match cls with
  | .robot => o
  | .depot => { o with fault := false, faultFresh := false, faultWindows := 0 }

/-- Take a new configuration record: every block reads it from now on, and the service distance is recomputed
(R35, R36); FEED is low (R166). -/
def configured (c : Configuration) (s : State) : State :=
  let s1 := ((s.onStation fun t => { t with config := c, configValid := true }).onMotion (Motion.configured c.cls)).onOdo
    (Odo.configured c.cls)
  zoneChanged s.zone (recomputeDistance (s1.onDosing fun d => { d with pulsesNow := 0 }))

/-- CONFIGURE: OFFLINE only; the first field out of range refuses it with its number; otherwise the whole record is
replaced and valid (R35). The latch and the warning it clears change the own zone, if it was not CLEAR (log 16). -/
def execConfigure (f : ConfigureFields) (s : State) : Result := whenTaken s <|
  if s.station.state ≠ .offline then refuse refusedState s
  else
    match configureFault f with
    | some n => .next (reply [refusedRange, byteOf n] s)
    | none => finish (ok [] (configured (configureRecord f) s))

/-! ## Join, Leave (R28, R31, R32) -/

/-- JOIN: OFFLINE with a valid record enters LISTENING; the receiver starts with an idle count of 0 (R28, R3, R10). -/
def execJoin (s : State) : Result := whenTaken s <|
  if s.station.state = .offline ∧ s.station.configValid then
    .next (ok [] (post (.stationState .join .offline .listening)
      ((s.onStation fun t => { t with state := .listening, listenTimer := 0 }).onChannel fun c =>
        { c with condition := .busy, idleCount := 0, assembler := .waitIdle })))
  else refuse refusedState s

/-- Step 1 of an accepted Leave: a route, or a motion state other than IDLE, ends at once (R31). `send` says whether
a RESUME goes out for the guest mark (R143, R149). -/
def endRoute (send : Bool) (s : State) : State :=
  if s.isRobot ∧ (s.odo.entry.isSome ∨ s.motion.state ≠ .idle) then
    let s1 := if s.motion.state = .guestStop then releaseGuestHold send s else s
    move .idle .leave ((endEntry s1).onMotion fun m => { m with ceiling := 0 })
  else s

/-- The host mark is cleared at an accepted Leave: in ACTIVE as Send Resume clears it, otherwise without a frame
(R149). -/
def clearHostMark (send : Bool) (s : State) : State :=
  if s.group.hostMark.isSome then lowerOwnHold send (s.onGroup fun g => { g with hostMark := none }) else s

/-- What an accepted Leave in ACTIVE does to one own claim: a HOLDING record is released and the entry number of its
RELEASE frame, if it joined the queue, is kept for R32; any other record ends RELEASED (R31, R95). -/
def leaveClaim (s : State) (r : OwnClaim) : State :=
  match r.state with
  | .holding =>
    let s1 := releaseHeld r.segment s
    if s1.channel.queue.any (·.entry == s.channel.nextEntry) then
      s1.onStation fun t => { t with leaveFrames := t.leaveFrames ++ [s.channel.nextEntry] }
    else s1
  | _ => endOwn r.segment .released none s

/-- LEAVE: in ACTIVE the Leave is pending until its RELEASE frames are gone, and completes at once without any; in
LISTENING and SILENT it completes at once; a second Leave does nothing (R31, R32; log 20). -/
def execLeave (s : State) : Result := whenTaken s <|
  match s.station.state with
  | .offline => refuse refusedState s
  | .active =>
    if s.station.leavePending then .next (ok [] s)
    else
      let s0 := s.onStation fun t => { t with leavePending := true, leaveMs := 0, leaveFrames := [], presenceMs := 0 }
      let s1 := clearHostMark true (endRoute true s0)
      finish (ok [] (s1.claims.own.foldl leaveClaim s1))
  | _ => finish (ok [] (enterOffline (clearHostMark false (endRoute false s))))

/-- LEAVE_COMPLETE: 2,000 ms have passed since the Leave was accepted (R32). -/
def execLeaveComplete (s : State) : Result :=
  if s.station.leavePending then finish (enterOffline s) else .next s

/-! ## Time (R29, R37, R38) -/

/-- WORK_CLOCK_TICK: a whole second has passed; the clock stays at its largest value (R37). -/
def execWorkClockTick (s : State) : Result :=
  .next (s.onStation fun t => { t with clock := min Config.maxWord32 (t.clock + 1) })

/-- The payload is a PRESENCE frame. -/
def Payload.isPresence : Payload → Bool
  | .presence .. => true
  | _ => false

/-- The PRESENCE frame of this moment; a DEPOT reports IDLE (R38). -/
def State.presencePayload (s : State) : Payload :=
  .presence (classCode s.cfg.cls) s.station.distance
    (match s.cfg.cls with
      | .robot => motionCode s.motion.state
      | .depot => motionCode .idle)
    s.cfg.group

/-- LISTEN_DONE: the listen timer reaches 2,000 ms; the station is ACTIVE and queues its first PRESENCE (R29, R38).
The timer does not run while the channel is JAMMED. -/
def execListenDone (s : State) : Result :=
  if s.station.state = .listening ∧ s.channel.condition ≠ .jammed then
    finish (queueFrame .station s.presencePayload
      (post (.stationState .listenDone .listening .active)
        (s.onStation fun t => { t with state := .active, listenTimer := Config.listenLimit, presenceMs := 0 })))
  else .next s

/-- PRESENCE_INTERVAL: the presence interval reaches 10,000 ms; a queued PRESENCE takes the new values, or a new one
is queued (R38). -/
def execPresenceInterval (s : State) : Result :=
  if s.presenceRuns then
    finish (offerFrame .station Payload.isPresence s.presencePayload (s.onStation fun t => { t with presenceMs := 0 }))
  else .next s

/-! ## The neighbour table (R40 to R42) -/

/-- A delivered PRESENCE frame (R41): an unlisted class or a distance above 15 leaves the table as it was. -/
def hearPresence (sender cls distance motion group : Nat) (s : State) : State :=
  match classOf cls with
  | none => s
  | some c =>
    if distance ≤ 15 then
      hearNeighbour ⟨sender, c, distance, motionOf motion, if group ≤ 15 then some group else none, s.now⟩ s
    else s

/-- PRESENCE: a good PRESENCE frame of another station ends (R11, R41). -/
def execPresence (sender cls distance motion group : Nat) (s : State) : Result :=
  finish (receive sender (hearPresence sender cls distance motion group) s)

/-- NEIGHBOUR_LOST: the work clock has reached the entry's last-heard time + 30 s (R42). -/
def execNeighbourLost (station : Nat) (s : State) : Result :=
  if s.station.neighbours.any (fun n => n.station == station && decide (n.lastHeard + Config.neighbourLife ≤ s.now)) then
    .next (recomputeDistance (post (.neighbourLost station)
      (s.onStation fun t => { t with neighbours := t.neighbours.filter fun n => !(n.station == station) })))
  else .next s

end Sys2Proof.Machine
end

