-- ==== Sys2Proof/Machine/Dispatch.lean ====
section
/-! DEFINITION. What each command does: one arm for each constructor of Instr, each one call of its meaning. -/

namespace Sys2Proof.Machine

/-- The effect of a command on everything but the queue. -/
def exec (i : Instr) (s : State) : Host.Outcome State Fault Refusal :=
  match i with
  | .powerOn => Sys2Proof.Machine.execPowerOn s
  | .resetN => Sys2Proof.Machine.execResetN s
  | .transactionAborted => Sys2Proof.Machine.execTransactionAborted s
  | .unknownRequest code => Sys2Proof.Machine.execUnknownRequest code s
  | .readStatus => Sys2Proof.Machine.execReadStatus s
  | .takeEvent => Sys2Proof.Machine.execTakeEvent s
  | .configure f => Sys2Proof.Machine.execConfigure f s
  | .loadSegment f => Sys2Proof.Machine.execLoadSegment f s
  | .clearSegments => Sys2Proof.Machine.execClearSegments s
  | .join => Sys2Proof.Machine.execJoin s
  | .leave => Sys2Proof.Machine.execLeave s
  | .restart => Sys2Proof.Machine.execRestart s
  | .readSegment segment => Sys2Proof.Machine.execReadSegment segment s
  | .readCells segment first last => Sys2Proof.Machine.execReadCells segment first last s
  | .reportTemperature segment temperature => Sys2Proof.Machine.execReportTemperature segment temperature s
  | .markSnowfall first last clearSalt broadcast => Sys2Proof.Machine.execMarkSnowfall first last clearSalt broadcast s
  | .requestClaim segment intent urgency => Sys2Proof.Machine.execRequestClaim segment intent urgency s
  | .releaseClaim segment => Sys2Proof.Machine.execReleaseClaim segment s
  | .readClaims => Sys2Proof.Machine.execReadClaims s
  | .enterSegment segment direction => Sys2Proof.Machine.execEnterSegment segment direction s
  | .start => Sys2Proof.Machine.execStart s
  | .armStart => Sys2Proof.Machine.execArmStart s
  | .stopRoute => Sys2Proof.Machine.execStopRoute s
  | .sendGo => Sys2Proof.Machine.execSendGo s
  | .sendHold holdType reason => Sys2Proof.Machine.execSendHold holdType reason s
  | .sendResume => Sys2Proof.Machine.execSendResume s
  | .setBeacon intensity => Sys2Proof.Machine.execSetBeacon intensity s
  | .loadStock grams => Sys2Proof.Machine.execLoadStock grams s
  | .raiseCallout urgency segment cell detail => Sys2Proof.Machine.execRaiseCallout urgency segment cell detail s
  | .workClockTick => Sys2Proof.Machine.execWorkClockTick s
  | .channelIdle => Sys2Proof.Machine.execChannelIdle s
  | .noise => Sys2Proof.Machine.execNoise s
  | .frameDiscarded cause => Sys2Proof.Machine.execFrameDiscarded cause s
  | .seize => Sys2Proof.Machine.execSeize s
  | .jammed => Sys2Proof.Machine.execJammed s
  | .jamCleared => Sys2Proof.Machine.execJamCleared s
  | .duplicateStation => Sys2Proof.Machine.execDuplicateStation s
  | .frameStart => Sys2Proof.Machine.execFrameStart s
  | .arbitrationWon => Sys2Proof.Machine.execArbitrationWon s
  | .arbitrationLost => Sys2Proof.Machine.execArbitrationLost s
  | .collided => Sys2Proof.Machine.execCollided s
  | .responseFieldSpoiled cause => Sys2Proof.Machine.execResponseFieldSpoiled cause s
  | .txUnheard => Sys2Proof.Machine.execTxUnheard s
  | .sent => Sys2Proof.Machine.execSent s
  | .sentResponded value => Sys2Proof.Machine.execSentResponded value s
  | .stale entry => Sys2Proof.Machine.execStale entry s
  | .objection sender segment intent rank mode => Sys2Proof.Machine.execObjection sender segment intent rank mode s
  | .acknowledgement sender origin seq code segment cell hop distance detail => Sys2Proof.Machine.execAcknowledgement sender origin seq code segment cell hop distance detail s
  | .presence sender cls distance motion group => Sys2Proof.Machine.execPresence sender cls distance motion group s
  | .claim sender segment intent rank mode sensed => Sys2Proof.Machine.execClaim sender segment intent rank mode sensed s
  | .release sender segment => Sys2Proof.Machine.execRelease sender segment s
  | .progress sender segment first last work dose distance => Sys2Proof.Machine.execProgress sender segment first last work dose distance s
  | .guest sender segment cell zone => Sys2Proof.Machine.execGuest sender segment cell zone s
  | .hold sender group holdType reason => Sys2Proof.Machine.execHold sender group holdType reason s
  | .resume sender group => Sys2Proof.Machine.execResume sender group s
  | .go sender group => Sys2Proof.Machine.execGo sender group s
  | .callout sender origin seq code segment cell hop distance detail sensed => Sys2Proof.Machine.execCallout sender origin seq code segment cell hop distance detail sensed s
  | .snowfall sender first last clearSalt => Sys2Proof.Machine.execSnowfall sender first last clearSalt s
  | .listenDone => Sys2Proof.Machine.execListenDone s
  | .presenceInterval => Sys2Proof.Machine.execPresenceInterval s
  | .neighbourLost station => Sys2Proof.Machine.execNeighbourLost station s
  | .leaveComplete => Sys2Proof.Machine.execLeaveComplete s
  | .refresh segment => Sys2Proof.Machine.execRefresh segment s
  | .lapse segment => Sys2Proof.Machine.execLapse segment s
  | .claimViewExpiry segment holder => Sys2Proof.Machine.execClaimViewExpiry segment holder s
  | .guestStateExpiry segment => Sys2Proof.Machine.execGuestStateExpiry segment s
  | .wheelCount edge blade => Sys2Proof.Machine.execWheelCount edge blade s
  | .decodeError => Sys2Proof.Machine.execDecodeError s
  | .speedSample => Sys2Proof.Machine.execSpeedSample s
  | .rampStep => Sys2Proof.Machine.execRampStep s
  | .scannerSample warn prot => Sys2Proof.Machine.execScannerSample warn prot s
  | .guestCleared => Sys2Proof.Machine.execGuestCleared s
  | .guestBlocked => Sys2Proof.Machine.execGuestBlocked s
  | .noticeInterval => Sys2Proof.Machine.execNoticeInterval s
  | .seizeCautionPeriod => Sys2Proof.Machine.execSeizeCautionPeriod s
  | .holdRepeatInterval => Sys2Proof.Machine.execHoldRepeatInterval s
  | .holdExpiry originator => Sys2Proof.Machine.execHoldExpiry originator s
  | .feedPulse => Sys2Proof.Machine.execFeedPulse s
  | .calloutBackoff seq => Sys2Proof.Machine.execCalloutBackoff seq s
  | .relayBackoff origin seq => Sys2Proof.Machine.execRelayBackoff origin seq s
  | .recentRelayExpiry origin seq => Sys2Proof.Machine.execRecentRelayExpiry origin seq s
  | .startMark => Sys2Proof.Machine.execStartMark s
  | .breakInIdleCount => Sys2Proof.Machine.execBreakInIdleCount s
  | .seizeEnds => Sys2Proof.Machine.execSeizeEnds s

end Sys2Proof.Machine
end

