-- ==== Sys2Proof/Machine/Idle.lean ====
section
/-! DEFINITION. What passes while no command waits: one millisecond, or the 500 µs up to a second FEED pulse (DESIGN
CHOICE, log 1). Every timer that the rules
state in milliseconds and that runs advances by one, and each moment that then comes puts its command into the
queue. -/

namespace Sys2Proof.Machine

/-- A counter of milliseconds that starts again at `period`. -/
def wrapMs (period n : Nat) : Nat := if period ≤ n + 1 then 0 else n + 1

/-- The station controller after a millisecond (R29, R32, R37, R38). -/
def tickStation (s : State) (t : Station) : Station :=
  { t with
    secondMs := wrapMs 1000 t.secondMs
    listenTimer :=
      if t.state = .listening ∧ s.channel.condition ≠ .jammed then min Config.listenLimit (t.listenTimer + 1)
      else t.listenTimer
    presenceMs := if s.presenceRuns then t.presenceMs + 1 else t.presenceMs
    leaveMs := if t.leavePending then t.leaveMs + 1 else t.leaveMs }

/-- A start mark is on the channel: the assembler hunts, and the condition is no longer IDLE (R3, R10). -/
def Channel.inMark (c : Channel) : Bool := c.assembler == .hunt && c.condition == .busy

/-- The assembler after four more symbols of a frame (R10): an own frame enters HEADER after its start mark, the
header is complete at its end, an own CLAIM or CALLOUT is in its gap after its check byte, and the fourth gap symbol
begins the response value. How a frame of another station leaves BODY, and how any frame ends, a command says (log
28). A start mark whose frame was withdrawn ends as START_MARK, NOISE or BREAK_IN_IDLE_COUNT says; where none has
come, what was sensed of it is free, and at least what this station keyed (log 38). -/
def Channel.advance (c : Channel) : Channel :=
  let n := c.symbol + 4
  match c.assembler with
  | .hunt =>
    if c.flight.isSome then { (if Config.markSymbols ≤ n then c.marked else c) with symbol := n }
    else if !c.inMark then c
    else if c.run = 0 ∧ n < Config.markSymbols then { c with symbol := n }
    else { c.markEnds (max c.run (Config.keyedUntil c.cuts)) with cuts := c.cuts + 1 }
  | .header => { c with symbol := n, assembler := if Config.headerSymbols ≤ n then .body else .header }
  | .body =>
    match c.flight with
    | some f =>
      if f.hasField ∧ f.length ≤ n then { c with symbol := n - f.length, assembler := .gap } else { c with symbol := n }
    | none => { c with symbol := n }
  | .gap => { c with symbol := n, assembler := if Config.gapSymbols ≤ n then .response else .gap }
  | .response => { c with symbol := n }
  | _ => c

/-- The dominant run after four more symbols (R4, R5): it grows with the symbols of an own seize, the four dominant
symbols of an own start mark are one, and a seize heard is taken to last as long as an own one (log 32). -/
def Channel.runAfter (c : Channel) : Nat :=
  if c.seizeLeft ≠ 0 then c.run + min 4 c.seizeLeft
  else if c.flight.isSome ∧ c.assembler = .hunt ∧ c.symbol = 0 then Config.markDominants
  else if Config.seizeRun ≤ c.run ∧ c.run + 4 < Config.seizeSymbols then c.run + 4
  else 0

/-- What the receiver holds after the symbols of an own seize have made the dominant run `n` symbols long (R3, R4,
R10): the condition is not IDLE, a frame in assembly is discarded, and in HUNT a run of four may still turn out a
start mark. -/
def Channel.seizedTo (n : Nat) (c : Channel) : Channel :=
  if c.assembler = .hunt ∧ n ≤ Config.markDominants then c.broken else c.frameOver

/-- The channel controller after a millisecond, four symbols: ages (R22), the frame in assembly, the idle count in
silence (R3), the run that is going on, and the symbols of an own seize still to key, of which the last four wait for
SEIZE_ENDS (R18). -/
def tickChannel (on : Bool) (c : Channel) : Channel :=
  { (if c.seizeLeft = 0 then c.advance else c.seizedTo c.runAfter) with
    idleCount := if on && c.atRest && !c.inMark && c.run == 0 then min Config.idleSymbols (c.idleCount + 4) else c.idleCount
    queue := c.queue.map fun q => { q with age := q.age + 1 }
    seizeLeft := if c.seizeLeft ≤ 4 then c.seizeLeft else c.seizeLeft - 4
    run := c.runAfter }

/-- The motion supervisor after a millisecond (R114, R121, R124 to R126, R128). -/
def tickMotion (s : State) (m : Motion) : Motion :=
  { m with
    restartMs := if s.restartRuns then min Config.restartLimit (m.restartMs + 1) else m.restartMs
    guestBlockedMs := if m.state = .guestStop then m.guestBlockedMs + 1 else m.guestBlockedMs
    noticeMs := if s.zone = .clear then m.noticeMs else m.noticeMs + 1
    seizePeriod := m.seizePeriod.map (· + 1)
    rampMs := wrapMs 50 m.rampMs
    scanMs := wrapMs 10 m.scanMs }

/-- A backoff timer after a millisecond (R171, R178). -/
def Retry.tick : Retry → Retry
  | .queued => .queued
  | .awaiting ms => .awaiting (ms + 1)

/-- The backoff that follows a number of attempts, ms (R172). -/
def backoffLimit (attempts : Nat) : Nat := 1000 * 2 ^ attempts

/-- A backoff timer has reached its backoff (R173). -/
def Retry.over (attempts : Nat) : Retry → Bool
  | .queued => false
  | .awaiting ms => decide (backoffLimit attempts ≤ ms)

/-- The state after a millisecond, its commands apart. -/
def tickMs (s : State) : State where
  pending := s.pending
  station := tickStation s s.station
  channel := tickChannel s.receiverOn s.channel
  segs := s.segs
  claims := s.claims
  odo := { s.odo with windowMs := wrapMs 250 s.odo.windowMs }
  motion := tickMotion s s.motion
  group := { s.group with repeatMs := if s.ownHold?.isSome then s.group.repeatMs + 1 else s.group.repeatMs }
  dosing :=
    { s.dosing with
      acc := if s.dosing.active && decide (s.dosing.acc < 16000) then s.dosing.acc + s.dosing.rate else s.dosing.acc
      pulsesNow := 0 }
  callout :=
    { s.callout with
      own := s.callout.own.map fun c => { c with retry := c.retry.tick }
      relay := s.callout.relay.map fun e => { e with retry := e.retry.tick } }
  host := s.host

/-- A command that is due. -/
def whenDue (b : Bool) (i : Instr) : List Instr := if b then [i] else []

/-- The work-clock moments that have come when the clock reads `now` (R42, R66, R85, R88, R90, R142, R181). -/
def dueAtClock (now : Nat) (t : State) : List Instr :=
  (t.station.neighbours.filter fun n => decide (n.lastHeard + Config.neighbourLife ≤ now)).map (fun n => .neighbourLost n.station)
    ++ (t.claims.view.filter fun v => decide (v.expiry ≤ now)).map (fun v => .claimViewExpiry v.segment v.holder)
    ++ (t.segs.records.filter fun r => (r.guest.map fun g => decide (g.expiry ≤ now)).getD false).map (fun r => .guestStateExpiry r.number)
    ++ (t.group.holds.filter fun h => (h.expiry.map fun e => decide (e ≤ now)).getD false).map (fun h => .holdExpiry h.originator)
    ++ (t.callout.recent.filter fun p => decide (p.expiry ≤ now)).map (fun p => .recentRelayExpiry p.origin p.seq)

/-- The claim moments that have come: a lapse, and, where the work clock has just ticked, an offer (R85, R88). -/
def dueClaims (ticked : Bool) (t : State) : List Instr :=
  (t.claims.own.filter t.lapseDue).map (fun r => .lapse r.segment)
    ++ (t.claims.own.filter fun r => ticked && (t.refreshDue r).isSome).map (fun r => .refresh r.segment)

/-- The timers that another command due in the same millisecond may start again, and the first FEED pulse of the step:
they are taken before it (R125, R126, R128, R144, R158). -/
def dueFirst (t : State) : List Instr :=
  let m := t.motion
  whenDue ((m.seizePeriod.map fun n => decide (Config.seizePeriodLimit ≤ n)).getD false) .seizeCautionPeriod
    ++ whenDue (decide (Config.noticeLimit ≤ m.noticeMs) && !(t.zone == .clear)) .noticeInterval
    ++ whenDue (m.state == .guestStop && m.guestBlockedMs == Config.guestBlockedLimit) .guestBlocked
    ++ whenDue (t.ownHold?.isSome && decide (Config.holdRepeatLimit ≤ t.group.repeatMs)) .holdRepeatInterval
    ++ whenDue (t.dosing.active && decide (16000 ≤ t.dosing.acc)) .feedPulse

/-- The run that is going on has reached its `n`-th symbol in this millisecond (R4). -/
def reached (n before after : Nat) : Bool := decide (before < n) && decide (n ≤ after)

/-- The idle count has reached 16 in a condition that is not IDLE (R3, R6). -/
def State.becomesIdle (t : State) : Bool :=
  t.receiverOn && !(t.channel.condition == .idle) && t.channel.atRest && t.channel.idleCount == Config.idleSymbols

/-- The boundary of this millisecond is one at which the head frame starts, if a frame is queued by then (R13). -/
def State.startsFrame (t : State) : Bool :=
  t.station.state == .active && (t.channel.condition == .idle || t.becomesIdle) && t.channel.atRest

/-- The moments of the channel that have come after a millisecond that began with the channel controller at `before`
(R3, R5, R6, R18, R24). -/
def dueOnChannel (before : Channel) (t : State) : List Instr :=
  let c := t.channel
  whenDue (reached Config.seizeRun before.run c.run) .seize
    ++ whenDue (reached Config.jamRun before.run c.run) .jammed
    ++ whenDue (decide (0 < before.seizeLeft) && decide (before.seizeLeft ≤ 4)) .seizeEnds
    ++ (c.queue.filter fun q => decide (q.payload.staleLimit ≤ q.age) && !(c.flightEntry == some q.entry)).map
      (fun q => .stale q.entry)
    ++ whenDue (t.becomesIdle && c.condition == .busy) .channelIdle
    ++ whenDue (t.becomesIdle && c.condition == .jammed) .jamCleared

/-- The other moments of the motion supervisor and the odometry unit that have come (R107, R114, R121, R124). -/
def dueInMotion (t : State) : List Instr :=
  let m := t.motion
  whenDue (t.restartRuns && decide (Config.restartLimit ≤ m.restartMs)) .guestCleared
    ++ whenDue (t.isRobot && m.scanMs == 0) (.scannerSample m.warnLine m.protLine)
    ++ whenDue (m.rampMs == 0) .rampStep
    ++ whenDue (t.odo.windowMs == 0) .speedSample

/-- The other millisecond moments that have come (R29, R32, R38, R173, R179). -/
def dueElsewhere (t : State) : List Instr :=
  whenDue (t.station.state == .listening && decide (Config.listenLimit ≤ t.station.listenTimer)
      && !(t.channel.condition == .jammed)) .listenDone
    ++ whenDue (t.presenceRuns && decide (Config.presenceLimit ≤ t.station.presenceMs)) .presenceInterval
    ++ whenDue (t.station.leavePending && decide (Config.leaveLimit ≤ t.station.leaveMs)) .leaveComplete
    ++ (t.callout.own.filter fun c => c.retry.over c.attempts).map (fun c => .calloutBackoff c.seq)
    ++ (t.callout.relay.filter fun e => e.retry.over e.attempts).map (fun e => .relayBackoff e.origin e.seq)

/-- The commands that a millisecond has made due, but for the start of a frame. At a whole second the work clock ticks
first, and what its new value makes due follows. An expiry stands before every command that may start its timer again
(log 1). -/
def dueBeforeStart (s t : State) : List Instr :=
  let second := t.station.secondMs == 0
  let now := if second then min Config.maxWord32 (t.now + 1) else t.now
  whenDue second .workClockTick ++ dueAtClock now t ++ dueClaims second (t.onStation fun x => { x with clock := now })
    ++ dueFirst t ++ dueOnChannel s.channel t ++ dueInMotion t ++ dueElsewhere t

/-- The commands that a millisecond has made due, the start of a frame last: what is queued at this moment is queued by
then (R13). -/
def dueCommands (s t : State) : List Instr :=
  let due := dueBeforeStart s t
  due ++ whenDue (t.startsFrame && !(t.channel.queue.isEmpty && due.isEmpty)) .frameStart

/-- What passes with no command waiting (log 1): where a second FEED pulse of the present step of 1 ms stands out, the
500 µs up to it, after everything of the boundary and judged by what that left of the feed (R158); else a
millisecond. -/
def idle (s : State) : State :=
  if s.secondPulseDue then s.setPending [.feedPulse] else (tickMs s).setPending (dueCommands s (tickMs s))

end Sys2Proof.Machine
end

