-- ==== Sys2Proof/Machine/Port.lean ====
section
/-! DEFINITION. The lines of the host port, bit by bit (R184, R185): what an edge of SEL or SCK does, and the level of
MISO. The table has no row for an edge: edges come from outside, and hand a command to the queue (log 29). -/

namespace Sys2Proof.Machine

/-- An edge on the lines of the host port: SEL, active low, and SCK, at whose rising edge MOSI is sampled (R184). -/
inductive PortEdge where
  | selFalls
  | selRises
  | sckRises (mosi : Bool)
  | sckFalls
deriving DecidableEq, Repr

/-- How many bytes a request of this code byte has, the code included; a code that is not defined is the whole request
(R184, R185). -/
def requestLength (code : Byte) : Nat := 1 + totalWidth ((requestWidths code.toNat).getD [])

/-- The last byte of the request has come: what follows is ignored (R184). -/
def Transaction.full (t : Transaction) : Bool :=
  match t.bytes with
  | [] => false
  | code :: _ => decide (requestLength code ≤ t.bytes.length)

/-- A rising edge of SCK: one bit more is counted and enters the byte under way behind the others, and every eighth edge
since SEL fell completes a byte (R184). -/
def Transaction.shiftIn (mosi : Bool) (t : Transaction) : Transaction :=
  let n := t.count + 1
  let b := (t.shift <<< 1) ||| (if mosi then 1 else 0)
  { t with count := n, shift := b, bytes := if n % 8 = 0 ∧ !t.full then t.bytes ++ [b] else t.bytes }

/-- The port has taken in this much of a transaction. -/
def State.withTransaction (s : State) (t : Transaction) : State := s.onHost fun h => { h with transaction := t }

/-- The port hands on a command at this moment: it joins the queue of commands. -/
def State.handOn (s : State) (c : Instr) : State := s.setPending (s.pending ++ [c])

/-- SEL falls: a transaction begins, its bits counted from 0, and no reply exists yet (R184). -/
def State.selFalls (s : State) : State :=
  if s.host.transaction.selected then s
  else s.onHost fun h => { h with reply := none, transaction := { Transaction.reset with selected := true } }

/-- SEL rises: the transaction ends, and the next one starts afresh. Without its last byte nothing is handed to any block
(R184, R185). -/
def State.selRises (s : State) : State :=
  let t := s.host.transaction
  let s1 := s.withTransaction Transaction.reset
  if t.selected ∧ !t.full then s1.handOn .transactionAborted else s1

/-- A rising edge of SCK in a transaction. The one that completes the last byte of the request takes it: the port hands its
command on (R184). -/
def State.sckRises (mosi : Bool) (s : State) : State :=
  let t := s.host.transaction.shiftIn mosi
  let s1 := s.withTransaction t
  if !s.host.transaction.full ∧ t.full then s1.handOn (decodeRequest t.bytes) else s1

/-- A falling edge of SCK in a transaction: MISO goes on to its next bit (R184). -/
def State.sckFalls (s : State) : State :=
  s.withTransaction { s.host.transaction with shown := s.host.transaction.shown + 1 }

/-- An edge on the lines of the port (R184, R185). A port that came out of a reset with SEL low takes nothing until SEL
rises, and sends the filler value all the same (R195); with SEL high SCK moves nothing. -/
def State.portEdge (e : PortEdge) (s : State) : State :=
  if s.portWaits then
    match e with
    | .selRises => (nothingTaken s).withTransaction Transaction.reset
    | .selFalls => s
    | .sckRises _ => s
    | .sckFalls => s.sckFalls
  else
    match e with
    | .selFalls => s.selFalls
    | .selRises => s.selRises
    | .sckRises mosi => if s.host.transaction.selected then s.sckRises mosi else s
    | .sckFalls => if s.host.transaction.selected then s.sckFalls else s

/-- The host clocks in these bits, in this order: for each SCK rises and falls (mode 0, R184). -/
def State.clockIn (bits : List Bool) (s : State) : State :=
  bits.foldl (fun s b => (s.portEdge (.sckRises b)).portEdge .sckFalls) s

/-- The byte that MISO carries as byte `n` since SEL fell, byte 0 the first: filler until the request is taken and for one
byte after its last, then the reply, then filler (R184, R185), and nothing but filler while the port waits for SEL to rise
(R195). -/
def State.misoByte (n : Nat) (s : State) : Byte :=
  if s.host.transaction.full ∧ !s.portWaits then ((s.miso s.host.transaction.bytes.length (n + 1))[n]?).getD fillerByte 
  else fillerByte

/-- The bits that MISO has gone on by: the falling edges of SCK since SEL fell, or, while the port waits for SEL to rise,
since its reset (log 29); none with SEL high. -/
def State.bitsShown (s : State) : Nat :=
  if s.host.transaction.selected ∨ s.portWaits then s.host.transaction.shown else 0

/-- The level of MISO: it changes at the falling edges of SCK, every byte most significant bit first (R184). With SEL high
it is the first bit of the filler value, as SEL will find it (R195; DEDUCED, log 29). -/
def State.misoLevel (s : State) : Bool := (s.misoByte (s.bitsShown / 8)).getMsbD (s.bitsShown % 8)

end Sys2Proof.Machine
end

