-- ==== Sys2Proof/Safety.lean ====
section
/-! DEFINITION. The terms in which statements about the block are made: the availability table of requests, how
records join the event queue and frames the transmit queue, and the laws that every step keeps. -/

namespace Sys2Proof.Machine

/-! ## Requests -/

/-- The command is a request of the host port (section 11.3). -/
def isRequest : Instr → Bool
  | .readStatus => true
  | .takeEvent => true
  | .configure _ => true
  | .loadSegment _ => true
  | .clearSegments => true
  | .join => true
  | .leave => true
  | .restart => true
  | .readSegment _ => true
  | .readCells .. => true
  | .reportTemperature .. => true
  | .markSnowfall .. => true
  | .requestClaim .. => true
  | .releaseClaim _ => true
  | .readClaims => true
  | .enterSegment .. => true
  | .start => true
  | .armStart => true
  | .stopRoute => true
  | .sendGo => true
  | .sendHold .. => true
  | .sendResume => true
  | .setBeacon _ => true
  | .loadStock _ => true
  | .raiseCallout .. => true
  | _ => false

/-- A row of the availability table: OFFLINE, LISTENING, ACTIVE, ACTIVE with a Leave pending, SILENT, from a DEPOT. -/
structure Row where
  offline : Bool
  listening : Bool
  active : Bool
  leaving : Bool
  silent : Bool
  depot : Bool
deriving DecidableEq, Repr

/-- The availability table (R187). -/
def availability : Instr → Row
  | .configure _ => ⟨true, false, false, false, false, true⟩
  | .loadSegment _ => ⟨true, false, false, false, false, true⟩
  | .clearSegments => ⟨true, false, false, false, false, true⟩
  | .join => ⟨true, false, false, false, false, true⟩
  | .leave => ⟨false, true, true, true, true, true⟩
  | .requestClaim .. => ⟨false, false, true, false, false, true⟩
  | .releaseClaim _ => ⟨false, false, true, true, true, true⟩
  | .enterSegment .. => ⟨false, false, true, false, false, false⟩
  | .start => ⟨false, false, true, false, false, false⟩
  | .armStart => ⟨false, false, true, false, false, false⟩
  | .stopRoute => ⟨false, false, true, true, true, false⟩
  | .sendGo => ⟨false, false, true, false, false, true⟩
  | .sendHold .. => ⟨false, false, true, false, false, true⟩
  | .sendResume => ⟨false, false, true, false, false, true⟩
  | .raiseCallout .. => ⟨false, false, true, false, false, true⟩
  | .markSnowfall _ _ _ broadcast =>
    if broadcast = 1 then ⟨false, false, true, true, false, true⟩ else ⟨true, true, true, true, true, true⟩
  | _ => ⟨true, true, true, true, true, true⟩

/-- The table admits a request in a station state, with or without a Leave pending, from a class (R187). -/
def admits (c : Instr) (state : StationState) (leaving : Bool) (cls : StationClass) : Bool :=
  let row := availability c
  (match state, leaving with
    | .offline, _ => row.offline
    | .listening, _ => row.listening
    | .active, false => row.active
    | .active, true => row.leaving
    | .silent, _ => row.silent) && (cls == .robot || row.depot)

/-- The command is a reset: POWER_ON, RESET_N or RESTART. -/
def isReset : Instr → Bool
  | .powerOn => true
  | .resetN => true
  | .restart => true
  | _ => false

/-! ## Values after a reset -/

/-- Odometry unit, motion supervisor and group control stand at the values that every reset gives them, and so does the
dosing unit but for stock and low flag, which a Restart keeps (the table of section 5.6, R122, R136, R149, R166). -/
def State.RouteReset (t : State) : Prop :=
  (t.odo.position = 0 ∧ t.odo.entry = none ∧ t.odo.net = 0 ∧ t.odo.errors = 0 ∧ t.odo.speed = 0 ∧ t.odo.sense = .none
      ∧ t.odo.fault = false)
    ∧ t.motion = { t.motion with
        state := .idle, ceiling := 0, history := [0, 0, 0, 0], warnCounter := 0, warning := false, latch := false,
        lastProt := false, restartMs := 0, guestBlockedMs := 0, noticeMs := 0, seizePeriod := none, stuck := 0,
        overspeedRun := 0, faults := FaultSet.empty, holdSent := false }
    ∧ (t.target = 0 ∧ t.permit = false ∧ t.zone = .clear ∧ t.beacon = 0)
    ∧ t.group = { t.group with retained := false, holds := [], guestMark := false, hostMark := none, repeatMs := 0 }
    ∧ t.dosing = { t.dosing with
        active := false, need := 0, dose := 0, vSalt := none, rate := 0, capped := false, acc := 0 }

/-! ## Queues -/

/-- A record joins the event queue at time `now` (R190). -/
def joinRecords (now : Nat) (q : List EventRecord) (e : Event) : List EventRecord :=
  if q.length < 32 then q ++ [⟨e, now, false⟩] else q.drop 1 ++ [⟨e, now, true⟩]

/-- The event queue after records of these events have joined it now, in this order (R190). -/
def State.withEvents (s : State) (es : List Event) : List EventRecord :=
  es.foldl (joinRecords s.station.clock) s.host.events

/-- A frame has joined a transmit queue in its place: behind every frame of its own or a lower priority value, ahead of
the rest (R22). -/
def JoinsQueue (f : Queued) (q q' : List Queued) : Prop :=
  ∃ l r, q = l ++ r ∧ q' = l ++ f :: r ∧ (∀ x ∈ l, x.priority ≤ f.priority) ∧ ∀ x, r.head? = some x → f.priority < x.priority

/-- A frame of the block and payload has been queued now, and nothing else of the channel controller changed. -/
def Queues (b : Block) (p : Payload) (s t : State) : Prop :=
  JoinsQueue ⟨p, p.priority, b, 0, s.channel.nextEntry⟩ s.channel.queue t.channel.queue
    ∧ t.channel = { s.channel with queue := t.channel.queue, nextEntry := s.channel.nextEntry + 1 }

/-- The frame with entry number `entry` has gone and one of the block and payload has been queued as a new entry, the
channel controller being otherwise as in `c`, its flight over and one unheard outcome counted; nothing but channel and
claims may differ from `s` (R16, R79, R87, R172, R179). -/
def State.Requeues (s : State) (b : Block) (p : Payload) (entry : Nat) (c : Channel) (t : State) : Prop :=
  JoinsQueue ⟨p, p.priority, b, 0, s.channel.nextEntry⟩ (s.channel.queue.filter fun x => !(x.entry == entry)) t.channel.queue
    ∧ t = { s with
        claims := t.claims
        channel := { c with
          queue := t.channel.queue, nextEntry := s.channel.nextEntry + 1, flight := none,
          unheardCount := s.channel.unheardCount + 1 } }

/-- The transmit queue has room for a frame now: the station is not OFFLINE and fewer than 8 frames are queued (R23). -/
def State.hasRoom (s : State) : Prop := s.station.state ≠ .offline ∧ s.channel.queue.length < 8

/-- A callout handed to the callout unit now finds its place: at a ROBOT in ACTIVE or LISTENING, with a record and two
queue places free (R23, R168). -/
def State.mayRaise (s : State) : Prop :=
  s.isDepot = false ∧ (s.station.state = .active ∨ s.station.state = .listening) ∧ s.callout.own.length < 4
    ∧ s.channel.queue.length < 7

/-- Segment and cell of the present entry, or 0 and 0 with none (R126, R132, R163). -/
def State.herePair (s : State) : Nat × Nat := (s.odo.entry.map fun e => (e.segment, e.cell)).getD (0, 0)

/-- A callout of the code and detail has been raised here, and no other record of the list has changed (R168, R171). -/
def State.Raises (s : State) (code detail : Nat) (t : State) : Prop :=
  ∃ c, t.callout.own = s.callout.own ++ [c] ∧ c.code = code ∧ c.detail = detail ∧ (c.segment, c.cell) = s.herePair
    ∧ c.attempts = 0 ∧ c.retry = .queued

/-- The MOTION event of a fault stop is in the queue: FAULT_STOP entered with its one cause and the ceiling at 0, or,
where it stood already, the cause added to the others (R111, R129). -/
def State.FaultShown (s : State) (cause : MotionCause) (alone added : FaultSet) (t : State) : Prop :=
  ∃ x ∈ t.host.events, x.event =
    if s.motion.state = .faultStop then .motion .faultStop .faultStop cause s.motion.ceiling s.currentSegment added
    else .motion s.motion.state .faultStop cause 0 s.currentSegment alone

/-! ## Replies (11.3) -/

/-- Numbers in one byte each. -/
def byteList (l : List Nat) : List (BitVec 8) := l.map (BitVec.ofNat 8)

/-- The groups of a Read Status reply between identity and host port, as bytes (section 11.3). -/
structure StatusGroups where
  station : List (BitVec 8)
  channel : List (BitVec 8)
  odometry : List (BitVec 8)
  motion : List (BitVec 8)
  group : List (BitVec 8)
  dosing : List (BitVec 8)
  callout : List (BitVec 8)

/-- The groups of Read Status are those of the table of section 11.3, field by field in its order (R110, R135, R149, R165,
R183, R193). Bytes without a stated value are some byte (logs 23, 24). -/
def State.StatusIs (s : State) (g : StatusGroups) : Prop :=
  g.station = byteList [stationCode s.station.state, s.station.leavePending.toNat, resetCode s.station.resetCause,
      s.station.configValid.toNat, s.station.config.station, classCode s.station.config.cls, s.station.distance]
      ++ be32 s.station.clock
    ∧ g.channel = byteList [conditionCode s.channel.condition, s.channel.noiseCount, s.channel.unheardCount,
        s.channel.queue.length]
    ∧ (∃ a, g.odometry = be32 (s.odo.position % 4294967296).toNat
      ++ (match s.odo.entry with
          | none => byteList [0, 0, a, 0, 255, 0, 0, 0, 0, 0]
          | some e => be16 e.segment ++ byteList [directionCode e.direction, e.done.toNat, e.cell, 1]
              ++ be32 (positionMm s.station.config (accounting e.length s.odo.position)))
      ++ be16 s.odo.speed ++ byteList [senseCode s.odo.sense, s.odo.fault.toNat, s.odo.lastErrors])
    ∧ (∃ e f secs, (s.motion.state = .stopping →
          e = motionCode (if s.motion.stopEnd = .idle then .idle else .groupHold) ∧
          f = motionCode (if s.motion.stopFrom = .run then .run else .caution)) ∧
        (s.motion.guestBlockedMs / 1000 ≤ 65535 → secs = s.motion.guestBlockedMs / 1000) ∧
        g.motion = byteList [motionCode s.motion.state, e, f] ++ be16 s.motion.ceiling ++ be16 s.target
          ++ byteList [s.permit.toNat,
            s.causeWarning.toNat + 2 * s.causePeer.toNat + 4 * s.causeSeize.toNat]
          ++ be16 ((s.motion.seizePeriod.map (10000 - ·)).getD 0)
          ++ byteList [s.motion.warnCounter, s.motion.warning.toNat, s.motion.latch.toNat] ++ be16 s.motion.restartMs
          ++ byteList [zoneCode s.zone] ++ be16 secs
          ++ byteList [s.motion.stuck, s.motion.overspeedRun,
            s.motion.faults.overspeed.toNat + 2 * s.motion.faults.stuck.toNat + 4 * s.motion.faults.odometer.toNat
              + 8 * s.motion.faults.claimLost.toNat,
            s.motion.holdSent.toNat, s.beacon, s.station.config.workBeacon])
    ∧ g.group = byteList ([s.station.config.group, s.group.retained.toNat, s.group.guestMark.toNat]
        ++ match s.group.hostMark with
          | none => [0, 0, 0]
          | some (ty, re) => [1, holdTypeCode ty, holdReasonCode re])
      ++ be16 s.group.repeatMs ++ byteList [s.group.holds.length]
      ++ s.group.holds.flatMap (fun h =>
        byteList [h.originator, holdTypeCode h.holdType, holdReasonCode h.reason] ++ optional32 h.expiry)
    ∧ g.dosing = be32 s.dosing.stock
      ++ byteList [s.dosing.low.toNat, s.dosing.active.toNat, s.dosing.need, s.dosing.dose]
      ++ be16 (s.dosing.vSalt.getD 0) ++ be16 s.dosing.rate ++ byteList [s.dosing.capped.toNat]
    ∧ g.callout = byteList [s.callout.seq, s.callout.own.length]
      ++ s.callout.own.flatMap (fun c =>
        byteList [c.code, c.seq, c.attempts, if c.retry = .queued then 0 else 1] ++ be16 c.segment ++ byteList [c.cell]
          ++ be16 c.detail)
      ++ byteList [s.callout.relay.length]
      ++ s.callout.relay.flatMap (fun e =>
        byteList [e.origin, e.seq, e.code] ++ be16 e.segment
          ++ byteList [e.cell, e.hop, e.attempts, if e.retry = .queued then 0 else 1] ++ be16 e.detail)

/-- The reply of Read Segment after OK: the loaded fields, the cell count, the reported temperature and its time, the
guest state, and cell and pass where the segment is current, each absent value 0 (R48, R197, section 11.3; log 25). -/
def State.SegmentIs (s : State) (r : Segment) (b : List (BitVec 8)) : Prop :=
  ∃ temp guest pass,
    (r.reported = none → temp = byteList [0, 0, 0, 0, 0, 0, 0])
    ∧ (∀ t a, r.reported = some (t, a) → temp = byteList [1] ++ be16 (t % 65536).toNat ++ be32 a)
    ∧ (r.guest = none → guest = byteList [0, 0, 0, 0, 0, 0, 0])
    ∧ (∀ g, r.guest = some g → guest = byteList [zoneCode g.zone, g.source, 1] ++ be32 g.expiry)
    ∧ ((s.odo.entry.map (·.segment) ≠ some r.number ∨ s.segs.pass = none) → pass = List.replicate 16 0)
    ∧ (∀ e p, s.odo.entry = some e → e.segment = r.number → s.segs.pass = some p →
      pass = byteList [1, e.cell] ++ be32 p.travel ++ be32 p.blade ++ be32 p.pulses ++ byteList [p.target, p.residual])
    ∧ b = be16 r.number ++ be16 r.length ++ be16 r.speedLimit ++ byteList [surfaceCode r.surface, r.saltPermitted.toNat]
      ++ be16 (r.defaultTemp % 65536).toNat ++ byteList [r.adjacent.length]
      ++ ((r.adjacent ++ [0, 0, 0, 0]).take 4).flatMap be16 ++ byteList [(r.length + 49) / 50] ++ temp ++ guest ++ pass

/-! ## Requests and frames in range -/

/-- The block as it was but for a reply of these bytes (R184, R186). -/
def State.answered (bs : List (BitVec 8)) (s : State) : State := { s with host := { s.host with reply := some bs } }

/-- Every field of a Configure request is in its range (section 2.3, R35). -/
def ConfigureInRange (f : ConfigureFields) : Prop :=
  (1 ≤ f.station ∧ f.station ≤ 254) ∧ f.cls ≤ 1 ∧ f.group ≤ 15 ∧ (50 ≤ f.width ∧ f.width ≤ 400)
    ∧ (100 ≤ f.feedCal ∧ f.feedCal ≤ 5000) ∧ (10 ≤ f.feedMax ∧ f.feedMax ≤ 2000) ∧ (100 ≤ f.crawl ∧ f.crawl ≤ 800)
    ∧ (10 ≤ f.accel ∧ f.accel ≤ 500) ∧ (10 ≤ f.decel ∧ f.decel ≤ 500)
    ∧ (100 ≤ f.countsPerMetre ∧ f.countsPerMetre ≤ 20000) ∧ (f.decodeMode = 1 ∨ f.decodeMode = 2 ∨ f.decodeMode = 4)
    ∧ (1 ≤ f.warnThreshold ∧ f.warnThreshold ≤ 15)
    ∧ (f.warnDecrement = 0 ∨ f.warnDecrement = 1 ∨ f.warnDecrement = 2 ∨ f.warnDecrement = 4)
    ∧ (4 ≤ f.stuckThreshold ∧ f.stuckThreshold ≤ 40)
    ∧ (f.stuckDecrement = 0 ∨ f.stuckDecrement = 1 ∨ f.stuckDecrement = 2 ∨ f.stuckDecrement = 4)
    ∧ f.holdResponse ≤ 1 ∧ f.holdStop ≤ 1 ∧ f.sendHold ≤ 1 ∧ f.manualRestart ≤ 1 ∧ (1 ≤ f.stride ∧ f.stride ≤ 8)
    ∧ (10 ≤ f.residualWindow ∧ f.residualWindow ≤ 240) ∧ f.lowStock ≤ 500000 ∧ f.workBeacon ≤ 255
    ∧ f.doses.length = 24 ∧ ∀ d ∈ f.doses, d ≤ 60

/-- The configuration record that a Configure request in range makes: every field as sent, its choices by their codes
(R35, section 11.3). -/
def RecordOf (f : ConfigureFields) (c : Configuration) : Prop :=
  c.station = f.station ∧ classOf f.cls = some c.cls ∧ c.group = f.group ∧ c.width = f.width ∧ c.feedCal = f.feedCal
    ∧ c.feedMax = f.feedMax ∧ c.crawl = f.crawl ∧ c.accel = f.accel ∧ c.decel = f.decel
    ∧ c.countsPerMetre = f.countsPerMetre ∧ decodeModeOf f.decodeMode = some c.decodeMode
    ∧ c.warnThreshold = f.warnThreshold ∧ decrementOf f.warnDecrement = some c.warnDecrement
    ∧ c.stuckThreshold = f.stuckThreshold ∧ decrementOf f.stuckDecrement = some c.stuckDecrement
    ∧ flagOf f.holdResponse = some c.holdResponse ∧ flagOf f.holdStop = some c.alwaysImmediate
    ∧ flagOf f.sendHold = some c.sendHold ∧ flagOf f.manualRestart = some c.manualRestart ∧ c.stride = f.stride
    ∧ c.residualWindow = f.residualWindow ∧ c.lowStock = f.lowStock ∧ c.workBeacon = f.workBeacon ∧ c.doses = f.doses

/-- Field `n` of a Configure request is in its range, by the numbers of the table of section 2.3: 1 to 23, then the 24
doses from 24 on (R35, section 11.3). -/
def configureField (f : ConfigureFields) : Nat → Prop
  | 1 => 1 ≤ f.station ∧ f.station ≤ 254
  | 2 => f.cls ≤ 1
  | 3 => f.group ≤ 15
  | 4 => 50 ≤ f.width ∧ f.width ≤ 400
  | 5 => 100 ≤ f.feedCal ∧ f.feedCal ≤ 5000
  | 6 => 10 ≤ f.feedMax ∧ f.feedMax ≤ 2000
  | 7 => 100 ≤ f.crawl ∧ f.crawl ≤ 800
  | 8 => 10 ≤ f.accel ∧ f.accel ≤ 500
  | 9 => 10 ≤ f.decel ∧ f.decel ≤ 500
  | 10 => 100 ≤ f.countsPerMetre ∧ f.countsPerMetre ≤ 20000
  | 11 => f.decodeMode = 1 ∨ f.decodeMode = 2 ∨ f.decodeMode = 4
  | 12 => 1 ≤ f.warnThreshold ∧ f.warnThreshold ≤ 15
  | 13 => f.warnDecrement = 0 ∨ f.warnDecrement = 1 ∨ f.warnDecrement = 2 ∨ f.warnDecrement = 4
  | 14 => 4 ≤ f.stuckThreshold ∧ f.stuckThreshold ≤ 40
  | 15 => f.stuckDecrement = 0 ∨ f.stuckDecrement = 1 ∨ f.stuckDecrement = 2 ∨ f.stuckDecrement = 4
  | 16 => f.holdResponse ≤ 1
  | 17 => f.holdStop ≤ 1
  | 18 => f.sendHold ≤ 1
  | 19 => f.manualRestart ≤ 1
  | 20 => 1 ≤ f.stride ∧ f.stride ≤ 8
  | 21 => 10 ≤ f.residualWindow ∧ f.residualWindow ≤ 240
  | 22 => f.lowStock ≤ 500000
  | 23 => f.workBeacon ≤ 255
  | n => ∃ d, f.doses[n - 24]? = some d ∧ d ≤ 60

/-- Field `n` is the first of the fields 1 to `top` that is outside its range. -/
def FirstOut (inRange : Nat → Prop) (top n : Nat) : Prop :=
  1 ≤ n ∧ n ≤ top ∧ ¬ inRange n ∧ ∀ m, 1 ≤ m → m < n → inRange m

/-- Every field of a Load Segment request is in its range (R45). -/
def LoadInRange (f : LoadFields) : Prop :=
  (1 ≤ f.segment ∧ f.segment ≤ 4000) ∧ (100 ≤ f.length ∧ f.length ≤ 3200) ∧ (100 ≤ f.speedLimit ∧ f.speedLimit ≤ 4000)
    ∧ f.surface ≤ 3 ∧ f.saltPermitted ≤ 1 ∧ (-400 ≤ f.defaultTemp ∧ f.defaultTemp ≤ 200) ∧ f.adjacentCount ≤ 4
    ∧ f.adjacentCount ≤ f.adjacent.length ∧ (f.adjacent.take f.adjacentCount).Nodup
    ∧ ∀ a ∈ f.adjacent.take f.adjacentCount, 1 ≤ a ∧ a ≤ 4000 ∧ a ≠ f.segment

/-- Field `n` of a Load Segment request is in its range, by the numbers of section 11.3: 1 to 7, then the adjacent
segments from 8 on (R45). -/
def loadField (f : LoadFields) : Nat → Prop
  | 1 => 1 ≤ f.segment ∧ f.segment ≤ 4000
  | 2 => 100 ≤ f.length ∧ f.length ≤ 3200
  | 3 => 100 ≤ f.speedLimit ∧ f.speedLimit ≤ 4000
  | 4 => f.surface ≤ 3
  | 5 => f.saltPermitted ≤ 1
  | 6 => -400 ≤ f.defaultTemp ∧ f.defaultTemp ≤ 200
  | 7 => f.adjacentCount ≤ 4
  | n => ∃ a, f.adjacent[n - 8]? = some a ∧ 1 ≤ a ∧ a ≤ 4000 ∧ a ≠ f.segment ∧ a ∉ f.adjacent.take (n - 8)

/-- The sender of a good frame of another station that has ended (R11). -/
def frameSender : Instr → Option Nat
  | .presence n _ _ _ _ => some n
  | .claim n _ _ _ _ _ => some n
  | .release n _ => some n
  | .progress n _ _ _ _ _ _ => some n
  | .guest n _ _ _ => some n
  | .hold n _ _ _ => some n
  | .resume n _ => some n
  | .go n _ => some n
  | .callout n _ _ _ _ _ _ _ _ _ => some n
  | .snowfall n _ _ _ => some n
  | _ => none

/-- The service distance is that of R43: 0 for a DEPOT with a valid record, and for a ROBOT one more than the nearest
neighbour's, 15 at most. -/
def State.DistanceSettled (t : State) : Prop :=
  t.station.distance = t.serviceDistance
    ∧ (t.station.configValid = true → t.station.config.cls = .depot → t.station.distance = 0)
    ∧ (t.station.configValid = true → t.station.config.cls = .robot → t.station.distance ≤ 15
      ∧ (∀ x ∈ t.station.neighbours, t.station.distance ≤ x.distance + 1)
      ∧ (t.station.distance = 15 ∨ ∃ x ∈ t.station.neighbours, t.station.distance = x.distance + 1))

/-- The neighbour table has taken the entry `n`: it stands last, every other entry stays, but that a full table first
loses the one refreshed longest ago; the events say what is changed, new or lost, in this order (log 14), and, once,
that the service distance has changed with it (R41 to R43; log 47). -/
def State.Learns (s : State) (n : Neighbour) (t : State) : Prop :=
  t.DistanceSettled ∧ ∀ moved : List Event,
    moved = (if t.station.distance = s.station.distance then [] else
      [.distance s.station.distance t.station.distance]) →
    (∀ old, s.station.neighbours.find? (·.station == n.station) = some old →
      t.station.neighbours = s.station.neighbours.filter (fun x => !(x.station == n.station)) ++ [n]
        ∧ t.host.events = s.withEvents
          ((if { old with lastHeard := n.lastHeard } = n then [] else [.neighbourChanged n]) ++ moved))
    ∧ (s.station.neighbours.find? (·.station == n.station) = none →
      (s.station.neighbours.length < 24 →
        t.station.neighbours = s.station.neighbours ++ [n] ∧ t.host.events = s.withEvents ([.neighbourNew n] ++ moved))
      ∧ ∀ h r, 24 ≤ s.station.neighbours.length → s.station.neighbours = h :: r →
        t.station.neighbours = r ++ [n]
          ∧ t.host.events = s.withEvents ([.neighbourLost h.station, .neighbourNew n] ++ moved))

/-- The frame is delivered: the receiver is on and the sender is another station (R10, R11). -/
def State.delivers (s : State) (sender : Nat) : Prop :=
  s.station.state ≠ .offline ∧ 1 ≤ sender ∧ sender ≤ 254 ∧ sender ≠ s.station.config.station

/-- The payload is not one whose outcome changes the block that queued it: every kind but CLAIM and CALLOUT (R39, R59,
R62, R92, R126, R137). -/
def Payload.plain : Payload → Bool
  | .claim .. => false
  | .callout .. => false
  | _ => true

/-- The queue entry of the frame in flight. -/
def State.Flying (s : State) (f : Flight) (q : Queued) : Prop :=
  s.channel.flight = some f ∧ s.channel.queue.find? (·.entry == f.entry) = some q

/-- The frame in flight `f` has been withdrawn, or, where `gone` does not hold, goes on as it was. A withdrawn one
that had been keyed whole, in its gap or field, is still to be heard to its end (R11, R25, R88; log 38). -/
def State.FlightWithdrawn (s : State) (f : Flight) (gone : Prop) (t : State) : Prop :=
  (gone → t.channel.flight = none
      ∧ t.channel.echo = (s.channel.echo || s.channel.assembler == .gap || s.channel.assembler == .response))
    ∧ (¬ gone → t.channel.flight = some f ∧ t.channel.echo = s.channel.echo)

/-- The unheard count after an outcome other than TX_UNHEARD (R16; log 10). -/
def quietCount (n : Nat) : Nat := if n < 3 then 0 else n

/-- A view entry tells against a claim of this station: same segment, conflicting intent, unexpired, and a lower claim
value (R69, R74, R91). -/
def State.TellsAgainst (s : State) (segment : Nat) (i : Intent) (rank : Nat) (v : ViewEntry) : Prop :=
  v ∈ s.claims.view ∧ v.segment = segment ∧ conflicts v.intent i = true ∧ s.station.clock < v.expiry
    ∧ v.rank * 256 + v.holder < rank * 256 + s.station.config.station

/-- The claim record `r` of the segment has ended in `t` with its frame: the record is gone, no CLAIM frame of it is
queued, and its CLAIM event is in the queue (R24, R72, R78, R93). -/
def State.EndsUnsent (s : State) (segment : Nat) (r : OwnClaim) (change : ClaimChange) (t : State) : Prop :=
  t.claims = { s.claims with own := s.claims.own.filter fun x => !(x.segment == segment) }
    ∧ (∀ q ∈ t.channel.queue, ∀ i k m, q.payload ≠ .claim segment i k m)
    ∧ ∃ x ∈ t.host.events, x.event = .claim segment r.intent r.rank change
        (decide (r.state = .holding ∧ s.odo.entry.map (·.segment) = some r.segment ∧ s.motion.state ≠ .idle)) none

/-- The number of symbols of the dominant run in which an own seize ends: what has been sensed, once that is a seize;
short of the 24th symbol the end is free (R4, R18; log 9). -/
def State.seizeRunLength (s : State) : Nat :=
  if 24 ≤ s.channel.run then s.channel.run
  else s.channel.run + Config.keyedUntil s.channel.cuts % (24 - s.channel.run)

/-- The run in which an own seize ends is noise: 2 to 23 symbols, no start mark, and not counted yet (R4, R12). -/
def State.seizeRunIsNoise (s : State) : Bool :=
  decide (2 ≤ s.seizeRunLength) && decide (s.seizeRunLength < 24)
    && !(s.seizeRunLength == 4 && s.channel.assembler == .hunt) && !s.channel.runCounted

/-- A peer's guest is held for the segment: it has a record, and the record a guest state (R44, R127). -/
def State.GuestHeld (s : State) (n : Nat) : Prop :=
  ∃ r, s.segs.records.find? (·.number == n) = some r ∧ r.guest ≠ none

/-! ## A finalised pass (R53 to R58, R160) -/

/-- The work of a pass over a cell of `lc` dm: PLOWED where the blade was down for 80 % of it, SALTED with feed pulses,
BOTH, or none (R54, R57). -/
def passWorkIs (cfg : Configuration) (lc : Nat) (x : Pass) : Option Work → Prop
  | none => x.blade * 10 < lc * cfg.countsPerMetre / 10 * 8 ∧ x.pulses = 0
  | some .plowed => lc * cfg.countsPerMetre / 10 * 8 ≤ x.blade * 10 ∧ x.pulses = 0
  | some .salted => x.blade * 10 < lc * cfg.countsPerMetre / 10 * 8 ∧ 0 < x.pulses
  | some .both => lc * cfg.countsPerMetre / 10 * 8 ≤ x.blade * 10 ∧ 0 < x.pulses

/-- The cell after the pass `x` over it, of `lc` dm, by the work it did (R54, R55, R160). -/
def cellAfterPass (cfg : Configuration) (now lc : Nat) (x : Pass) (w : Option Work) (c : Cell) : Cell :=
  let plowed := w = some .plowed ∨ w = some .both
  let dose := min 63 ((2 * min x.pulses 65535 * cfg.feedCal + cfg.width * lc) / (2 * cfg.width * lc))
  if 0 < x.pulses then
    ⟨c.plowed || decide plowed, if plowed then some now else c.plowedAt, min 63 (x.residual + dose), some now,
      decide (dose + 2 < x.target)⟩
  else
    ⟨c.plowed || decide plowed, if plowed then some now else c.plowedAt, c.dose, c.saltedAt,
      c.shortfall || decide (0 < x.target)⟩

/-- The pending report after a worked cell has joined it, before a flush (R57). -/
def reportWith (cell : Nat) (w : Work) (dose : Nat) : Option Report → Report
  | none => ⟨cell, cell, w, dose, 1⟩
  | some o =>
    if o.work = w ∧ o.first ≤ cell + 1 ∧ cell ≤ o.last + 1 then
      ⟨min o.first cell, max o.last cell, w, min o.dose dose, o.count + 1⟩
    else ⟨cell, cell, w, dose, 1⟩

/-- A PROGRESS frame with this report of the segment stands in the queue as a new frame (R58). -/
def State.reports (s : State) (n : Nat) (o : Report) : Prop :=
  ∃ q ∈ s.channel.queue, q.age = 0 ∧ q.owner = .segments ∧
    q.payload = .progress n o.first o.last (workCode o.work) o.dose s.station.distance

/-- A queued frame that a flush of this report of the segment may widen: PROGRESS, not in flight, of the same segment and
work, its range contiguous with the report's (R58). -/
def State.mayWiden (s : State) (n : Nat) (o : Report) (q : Queued) : Prop :=
  q ∈ s.channel.queue ∧ s.channel.flight.map (·.entry) ≠ some q.entry ∧
    ∃ f l d x, q.payload = .progress n f l (workCode o.work) d x ∧ f ≤ o.last + 1 ∧ o.first ≤ l + 1

/-- The channel controller after a flush of this report into the waiting frame `q`: its range is widened, its dose the
lesser of the two, its distance the present one; place, entry number and age stay (R25, R58). -/
def State.widened (s : State) (n : Nat) (o : Report) (q : Queued) : Channel :=
  { s.channel with queue := s.channel.queue.map fun y =>
      if y.entry = q.entry then
        { y with payload := match q.payload with
          | .progress _ f l w d _ => .progress n (min f o.first) (max l o.last) w (min d o.dose) s.station.distance
          | p => p }
      else y }

/-- The pass `x` on the segment of record `r`, open in `s`, has left its result in its cell in `t`, and every other
cell and record stays (R53 to R55). -/
def PassRecorded (s t : State) (r : Segment) (x : Pass) : Prop :=
  ∀ (lc : Nat) (w : Option Work) (c : Cell), lc = cellLength r.length x.cell → passWorkIs s.station.config lc x w →
    r.cells[x.cell]? = some c →
    t.segs.records = s.segs.records.map fun y => if y.number = r.number then
      { y with cells := y.cells.set x.cell (cellAfterPass s.station.config s.station.clock lc x w c) } else y

/-- The pass `x` on the segment of record `r`, open in `s`, is finalised in `t`: its cell has the result, every other cell
and record stays, and a worked cell has joined the pending report, which is flushed at the stride, and first where the
cell does not belong to it; a flush queues a frame where none of the segment waits and the queue has room, and widens the
youngest that it belongs to else (R53 to R58). -/
def PassFinalised (s t : State) (r : Segment) (x : Pass) : Prop :=
  PassRecorded s t r x ∧
  ∀ (lc : Nat) (w : Option Work) (c : Cell), lc = cellLength r.length x.cell → passWorkIs s.station.config lc x w →
    r.cells[x.cell]? = some c →
    (w = none → t.segs.report = s.segs.report ∧ t.channel = s.channel) ∧
    ∀ (v : Work) (o : Report), w = some v →
      o = reportWith x.cell v
        (if v = .plowed then 0 else (cellAfterPass s.station.config s.station.clock lc x w c).dose) s.segs.report →
      t.segs.report = (if s.station.config.stride ≤ o.count then none else some o) ∧
      (s.station.config.stride ≤ o.count → (s.segs.report = none ∨ o.count ≠ 1) → s.hasRoom →
        (∀ q ∈ s.channel.queue, ∀ f l k d z, q.payload ≠ .progress r.number f l k d z) → t.reports r.number o) ∧
      (∀ old, s.segs.report = some old → o.count = 1 → old.count ≠ 0 → o.count < s.station.config.stride → s.hasRoom →
        (∀ q ∈ s.channel.queue, ∀ f l k d z, q.payload ≠ .progress r.number f l k d z) → t.reports r.number old) ∧
      ∀ q, s.station.config.stride ≤ o.count → (s.segs.report = none ∨ o.count ≠ 1) → s.mayWiden r.number o q →
        (∀ y, s.mayWiden r.number o y → y = q ∨ y.entry < q.entry) → t.channel = s.widened r.number o q

/-- The pass `x` on the segment of record `r`, open in `s`, is finalised in `t` by the completion of the segment or by
leaving it: its cell has the result, and the pending report, a worked cell having joined it, is flushed: a frame is
queued where none of the segment waits and the queue has room, the youngest that it belongs to is widened else (R53 to
R58, R105). -/
def PassCompleted (s t : State) (r : Segment) (x : Pass) : Prop :=
  PassRecorded s t r x ∧
  ∀ (lc : Nat) (w : Option Work) (c : Cell), lc = cellLength r.length x.cell → passWorkIs s.station.config lc x w →
    r.cells[x.cell]? = some c → ∀ o : Report,
    ((w = none ∧ s.segs.report = some o) ∨ ∃ v, w = some v ∧ (s.segs.report = none ∨ o.count ≠ 1) ∧
      o = reportWith x.cell v
        (if v = .plowed then 0 else (cellAfterPass s.station.config s.station.clock lc x w c).dose) s.segs.report) →
    (s.hasRoom → (∀ q ∈ s.channel.queue, ∀ f l k d z, q.payload ≠ .progress r.number f l k d z) →
      t.reports r.number o) ∧
    ∀ q, s.mayWiden r.number o q → (∀ y, s.mayWiden r.number o y → y = q ∨ y.entry < q.entry) →
      t.channel = s.widened r.number o q

/-! ## Laws that every step keeps -/

/-- Every collection is within its capacity, and the segment records stand in order of their numbers (R22, R40, R44,
R71, R89, R140, R171, R178, R181, R190). -/
def State.Bounded (s : State) : Prop :=
  s.channel.queue.length ≤ 8 ∧ s.station.neighbours.length ≤ 24 ∧ s.segs.records.length ≤ 96
    ∧ s.segs.records.Pairwise (fun a b => a.number < b.number) ∧ s.claims.own.length ≤ 4 ∧ s.claims.view.length ≤ 32
    ∧ s.group.holds.length ≤ 8 ∧ s.callout.own.length ≤ 4 ∧ s.callout.relay.length ≤ 8 ∧ s.callout.recent.length ≤ 16
    ∧ s.host.events.length ≤ 32

/-- No table or list holds two entries under one key, no pair is in the relay queue and the recent-relay list at once,
and only a ROBOT that is not OFFLINE has a relay queue (R40, R71, R89, R140, R168, R178, R180, R181). -/
def State.Keyed (s : State) : Prop :=
  (s.station.neighbours.map (·.station)).Nodup ∧ (s.claims.own.map (·.segment)).Nodup
    ∧ (s.claims.view.map fun v => (v.segment, v.holder)).Nodup ∧ (s.group.holds.map (·.originator)).Nodup
    ∧ (s.callout.relay.map fun e => (e.origin, e.seq)).Nodup ∧ (s.callout.own.map (·.seq)).Nodup
    ∧ (s.callout.recent.map fun p => (p.origin, p.seq)).Nodup
    ∧ (∀ e ∈ s.callout.relay, ∀ p ∈ s.callout.recent, ¬ (e.origin = p.origin ∧ e.seq = p.seq))
    ∧ ((s.isDepot = true ∨ s.station.state = .offline) → s.callout.relay = [])

/-- The transmit queue is in order of priority value, then entry number, with every entry number already given out, and
the frame in flight is one of its frames (R13, R22). -/
def State.QueueInOrder (s : State) : Prop :=
  s.channel.queue.Pairwise (fun a b => a.priority < b.priority ∨ (a.priority = b.priority ∧ a.entry < b.entry))
    ∧ (s.channel.queue.map (·.entry)).Nodup
    ∧ (∀ q ∈ s.channel.queue, q.entry < s.channel.nextEntry)
    ∧ ∀ f, s.channel.flight = some f → ∃ q ∈ s.channel.queue, q.entry = f.entry

/-- The laws of the motion supervisor: a held robot does not move (R147); the ceiling is 0 in every state that stands
(R114); an armed robot is RETAINED, held or stopped for a guest (R138); fault causes are held in FAULT_STOP and nowhere
else (R129); with the latch set the robot is not moving (R117, R122); a station that is OFFLINE is not armed (R149); the
ceiling is at most the crawl speed in CAUTION and at most the speed limit of the current segment (R114); no robot drives
OFFLINE or with a Leave pending (R31), and a station that is no ROBOT is IDLE (R136). -/
def State.MotionLaw (s : State) : Prop :=
  (s.group.holds ≠ [] → s.motion.state ≠ .run ∧ s.motion.state ≠ .caution ∧ s.motion.state ≠ .retained)
    ∧ (s.motion.state ≠ .run → s.motion.state ≠ .caution → s.motion.state ≠ .stopping → s.motion.ceiling = 0)
    ∧ (s.group.retained = true →
        s.motion.state = .retained ∨ s.motion.state = .groupHold ∨ s.motion.state = .guestStop)
    ∧ (s.motion.faults ≠ FaultSet.empty ↔ s.motion.state = .faultStop)
    ∧ (s.motion.latch = true → s.motion.state ≠ .run ∧ s.motion.state ≠ .caution ∧ s.motion.state ≠ .stopping)
    ∧ (s.station.state = .offline → s.group.retained = false)
    ∧ (s.motion.state = .caution → s.motion.ceiling ≤ s.station.config.crawl)
    ∧ (∀ r, s.currentRecord = some r → s.motion.ceiling ≤ r.speedLimit)
    ∧ ((s.station.state = .offline ∨ s.station.leavePending = true) →
        s.motion.state = .idle ∨ s.motion.state = .faultStop)
    ∧ (s.isRobot = false → s.motion.state = .idle)

/-- A station that is not ACTIVE keys nothing: no frame, no response and no seize (R13, R18, R19, R30). One that is
OFFLINE is off the air: its receiver is off, no echo is going on, and it has no frame, neighbour, claim or view entry
(R3, R10, R23, R32, R40, R71, R89). -/
def State.OffTheAir (s : State) : Prop :=
  (s.station.state ≠ .active → s.channel.flight = none ∧ s.channel.response = none ∧ s.channel.seizeLeft = 0)
    ∧ (s.station.state = .offline →
      s.channel.queue = [] ∧ s.channel.condition = .busy ∧ s.channel.idleCount = 0 ∧ s.channel.assembler = .off
        ∧ s.channel.echo = false ∧ s.station.neighbours = [] ∧ s.claims.own = [] ∧ s.claims.view = [])

/-- The feed is active exactly while its conditions hold; active, D is the cell need; inactive, D, the limit, the rate,
the capped flag and the accumulator are at rest; a rate of 0 leaves no fraction of a pulse (R150, R151, R155, R159). -/
def State.FeedLaw (s : State) : Prop :=
  s.dosing.active = s.feedShouldRun
    ∧ (s.dosing.active = true → s.dosing.dose = s.dosing.need)
    ∧ (s.dosing.active = false →
        s.dosing.dose = 0 ∧ s.dosing.vSalt = none ∧ s.dosing.rate = 0 ∧ s.dosing.capped = false)
    ∧ (s.dosing.rate = 0 → s.dosing.acc = 0)

end Sys2Proof.Machine
end

