-- ==== Sys2Proof/Certificates/Slice0/Obligations.lean ====
section
/-! DEFINITION. The statements for the provers. -/

open Sys2Proof Sys2Proof.Machine

/-! ## The machine -/

/-- The step takes the command at the front of the queue and runs it on the state with the queue's rest. -/
def Obligations.StepTakesFrontCommand : Prop :=
  ∀ (c : Instr) (rest : List Instr) (s : State), s.pending = c :: rest → step s = exec c (s.setPending rest)

/-- WORK_CLOCK_TICK adds one second, up to the largest value, and changes nothing else (R37). With no command waiting
time passes, the model's choice of log 1. After the first FEED pulse of a millisecond, with the accumulator still at
16,000 or more, the feed active with a rate and a pulse's salt in stock, it is the 500 µs up to the second pulse:
FEED_PULSE alone joins the queue (R158). Else it is a millisecond: every queued frame is a millisecond older, and the
tables of segments and claims, the event queue and the reply are as they were. -/
def Obligations.TimePasses : Prop :=
  ∀ s : State,
    (∃ t, exec .workClockTick s = .next t ∧
      t = { s with station := { s.station with clock := t.station.clock } } ∧
      (s.station.clock < 4294967295 → t.station.clock = s.station.clock + 1) ∧
      (s.station.clock = 4294967295 → t.station.clock = 4294967295)) ∧
    (s.pending = [] → s.dosing.active = true → s.station.config.feedCal ≤ s.dosing.stock → 0 < s.dosing.rate →
      s.dosing.pulsesNow = 1 → 16000 ≤ s.dosing.acc → step s = .next (s.setPending [.feedPulse])) ∧
    (s.pending = [] → (s.dosing.active = false ∨ s.dosing.stock < s.station.config.feedCal ∨ s.dosing.rate = 0 ∨
      s.dosing.pulsesNow ≠ 1 ∨ s.dosing.acc < 16000) → ∃ t, step s = .next t ∧
      t.channel.queue = s.channel.queue.map (fun q => { q with age := q.age + 1 }) ∧
      t.segs = s.segs ∧ t.claims = s.claims ∧ t.host = s.host ∧ t.station.state = s.station.state ∧
      t.station.clock = s.station.clock ∧ t.motion.state = s.motion.state ∧ t.motion.ceiling = s.motion.ceiling)

/-- Every command answers a next state in every state: no fault and no refusal stops the block. -/
def Obligations.EveryCommandAnswersANextState : Prop :=
  ∀ (c : Instr) (s : State), ∃ t, exec c s = .next t

/-- No command changes the queue of waiting commands. The work clock, the reset cause, the configuration record and
the salt stock change only at the steps that own them: the clock at WORK_CLOCK_TICK and the resets (R37), the reset
cause at the resets (R27), the record at CONFIGURE, SET_BEACON, POWER_ON and RESET_N (R35), the stock at LOAD_STOCK,
FEED_PULSE, POWER_ON and RESET_N (R162). The transaction on the lines of the host port goes on under every command but
POWER_ON and RESET_N, under RESTART too (R184, R194, R195). -/
def Obligations.OwnersAloneChangeClockRecordAndStock : Prop :=
  ∀ (c : Instr) (s t : State), exec c s = .next t → t.pending = s.pending ∧
    (c ≠ .workClockTick → isReset c = false → t.station.clock = s.station.clock) ∧
    (isReset c = false → t.station.resetCause = s.station.resetCause) ∧
    (c ≠ .powerOn → c ≠ .resetN → (∀ f, c ≠ .configure f) →
      t.station.configValid = s.station.configValid ∧
      t.station.config = { s.station.config with workBeacon := t.station.config.workBeacon } ∧
      ((∀ b, c ≠ .setBeacon b) → t.station.config = s.station.config)) ∧
    (c ≠ .powerOn → c ≠ .resetN → c ≠ .feedPulse → (∀ g, c ≠ .loadStock g) → t.dosing.stock = s.dosing.stock) ∧
    (c ≠ .powerOn → c ≠ .resetN → t.host.transaction = s.host.transaction)

/-- Outside the resets and CONFIGURE: the speed, its sense, the last window's errors and the ceiling history change at
SPEED_SAMPLE alone (R107, R130); the net count there and at WHEEL_COUNT; the error count and the odometer fault there
and at DECODE_ERROR (R108, R109); the position counter at WHEEL_COUNT and ENTER_SEGMENT (R99, R100); segment, direction
and length of the entry at ENTER_SEGMENT, STOP_ROUTE and LEAVE (R106); the warning, its counter and the last PROT_FIELD
sample at SCANNER_SAMPLE, where alone the latch is set, which GUEST_CLEARED clears (R121, R122, R124); the loaded fields
of the segment records at LOAD_SEGMENT and CLEAR_SEGMENTS (R44); an own claim keeps its intent, urgency and rank from
its REQUEST_CLAIM on (R71); entry numbers never go back (R22). -/
def Obligations.SamplesLatchesAndRecordsHaveTheirOwners : Prop :=
  ∀ (c : Instr) (s t : State), exec c s = .next t → isReset c = false → (∀ f, c ≠ .configure f) →
    (c ≠ .speedSample → t.odo.speed = s.odo.speed ∧ t.odo.sense = s.odo.sense ∧ t.odo.lastErrors = s.odo.lastErrors ∧
      t.motion.history = s.motion.history) ∧
    (c ≠ .speedSample → (∀ e b, c ≠ .wheelCount e b) → t.odo.net = s.odo.net) ∧
    (c ≠ .speedSample → c ≠ .decodeError → t.odo.errors = s.odo.errors ∧ t.odo.fault = s.odo.fault) ∧
    ((∀ e b, c ≠ .wheelCount e b) → (∀ n d, c ≠ .enterSegment n d) → t.odo.position = s.odo.position) ∧
    ((∀ n d, c ≠ .enterSegment n d) → c ≠ .stopRoute → c ≠ .leave →
      t.odo.entry.map (fun e => (e.segment, e.direction, e.length)) =
        s.odo.entry.map (fun e => (e.segment, e.direction, e.length))) ∧
    ((∀ w p, c ≠ .scannerSample w p) → t.motion.warning = s.motion.warning ∧ t.motion.warnCounter = s.motion.warnCounter ∧
      t.motion.lastProt = s.motion.lastProt ∧ (t.motion.latch = s.motion.latch ∨ c = .guestCleared ∧ t.motion.latch = false)) ∧
    ((∀ f, c ≠ .loadSegment f) → c ≠ .clearSegments →
      t.segs.records.map (fun r =>
          (r.number, r.length, r.speedLimit, r.surface, r.saltPermitted, r.defaultTemp, r.adjacent)) =
        s.segs.records.map (fun r =>
          (r.number, r.length, r.speedLimit, r.surface, r.saltPermitted, r.defaultTemp, r.adjacent))) ∧
    (∀ r ∈ t.claims.own, (∃ x ∈ s.claims.own, x.segment = r.segment ∧ x.intent = r.intent ∧ x.urgency = r.urgency ∧
        x.rank = r.rank) ∨ ∃ i u, c = .requestClaim r.segment i u) ∧
    s.channel.nextEntry ≤ t.channel.nextEntry

/-! ## Laws that every step keeps -/

/-- Every step keeps every collection within its capacity, the segment records in order of their numbers, and every table
and list free of a repeated key: neighbours, own claims, claim view, hold set, own callouts, relay queue and recent-relay
list, the last two sharing no pair. -/
def Obligations.EveryStepKeepsTheTables : Prop :=
  ∀ s t : State, s.Bounded → s.Keyed → step s = .next t → t.Bounded ∧ t.Keyed

/-- Every step keeps the transmit queue in order, with the frame in flight in it. -/
def Obligations.EveryStepKeepsTheQueueInOrder : Prop :=
  ∀ s t : State, s.QueueInOrder → step s = .next t → t.QueueInOrder

/-- Every step keeps the laws of the motion supervisor. -/
def Obligations.EveryStepKeepsTheMotionLaw : Prop :=
  ∀ s t : State, s.MotionLaw → step s = .next t → t.MotionLaw

/-- Every step keeps a station that is not ACTIVE from keying a frame, a response or a seize (R13, R18, R19, R30), and one
that is OFFLINE off the air. -/
def Obligations.EveryStepKeepsOfflineOffTheAir : Prop :=
  ∀ s t : State, s.OffTheAir → step s = .next t → t.OffTheAir

/-- Every step leaves the feed as its conditions have it. -/
def Obligations.EveryStepKeepsTheFeedLaw : Prop :=
  ∀ s t : State, s.FeedLaw → step s = .next t → t.FeedLaw

/-- The state after reset satisfies every law that the steps keep. -/
def Obligations.ResetSatisfiesTheLaws : Prop :=
  State.reset.Bounded ∧ State.reset.Keyed ∧ State.reset.QueueInOrder ∧ State.reset.MotionLaw ∧
    State.reset.OffTheAir ∧ State.reset.FeedLaw

/-! ## Resets -/

/-- POWER_ON and RESET_N set the station controller to the values of R34, the channel controller, the segment table,
the claim controller and the callout unit to those of their chapters, odometry, motion supervisor, group control and
dosing to those of the tables of section 5.6, R136, R149 and R166, low flag clear and stock 0; they post nothing, end
what transaction there was at the host port (R195), and differ in the reset cause alone; TXKEY and FEED are off;
commands that wait go on waiting. -/
def Obligations.PowerOnAndResetLine : Prop :=
  ∀ s : State, ∃ t u, exec .powerOn s = .next t ∧ exec .resetN s = .next u ∧
    t.station.state = .offline ∧ t.station.configValid = false ∧ t.station.neighbours = [] ∧ t.station.distance = 15 ∧
    t.station.clock = 0 ∧ t.station.listenTimer = 0 ∧ t.station.presenceMs = 0 ∧ t.station.leavePending = false ∧
    t.station.resetCause = .powerOn ∧ t.station.config.workBeacon = 64 ∧ t.channel.condition = .busy ∧
    t.channel.idleCount = 0 ∧ t.channel.queue = [] ∧ t.channel.noiseCount = 0 ∧ t.channel.unheardCount = 0 ∧
    t.channel.flight = none ∧ t.channel.response = none ∧ t.channel.seizeLeft = 0 ∧ t.segs = ⟨[], none, none⟩ ∧
    t.claims = ⟨[], [], 0⟩ ∧ t.RouteReset ∧ t.dosing.stock = 0 ∧ t.dosing.low = false ∧
    t.callout = ⟨0, [], [], []⟩ ∧ t.host.events = [] ∧ t.host.reply = none ∧
    t.host.transaction = ⟨false, 0, 0, [], 0⟩ ∧ (∀ sensed, t.txkey sensed = false) ∧
    (∀ us, t.feedLine us = false) ∧ t.pending = s.pending ∧
    u = { t with station := { t.station with resetCause := .resetLine } }

/-- RESTART is accepted in every state and answered OK. The station controller has the values of R33; the event queue
holds one record, STATION RESTART at time 0, unflagged (R194), and no DISTANCE record beside it (log 15); TXKEY and
FEED are off; claims, claim view, transmit queue, route and holds are gone; odometry, motion supervisor, group control
and dosing stand at the values of every reset (R136, R149, R166), records, cells and doses are kept with every
recorded time absent (R49); stock, low flag and the sequence counter are kept (R166, R174). The transaction that
carries it goes on (R185, R194). -/
def Obligations.RestartValues : Prop :=
  ∀ s : State, s.host.heldSel = false → ∃ t, exec .restart s = .next t ∧
    t.host.reply = some [0x00] ∧ t.host.transaction = s.host.transaction ∧ t.host.events = [⟨.stationState .restart s.station.state .offline, 0, false⟩] ∧
    t.station.state = .offline ∧ t.station.config = s.station.config ∧ t.station.configValid = s.station.configValid ∧
    t.station.neighbours = [] ∧ t.station.clock = 0 ∧ t.station.listenTimer = 0 ∧ t.station.presenceMs = 0 ∧
    t.station.leavePending = false ∧ t.station.resetCause = .restart ∧
    (s.station.configValid = true → s.station.config.cls = .depot → t.station.distance = 0) ∧
    (s.station.config.cls = .robot → t.station.distance = 15) ∧
    t.channel.queue = [] ∧ t.channel.flight = none ∧ t.channel.response = none ∧ t.channel.seizeLeft = 0 ∧
    t.claims = ⟨[], [], 0⟩ ∧ t.RouteReset ∧ t.dosing.stock = s.dosing.stock ∧ t.dosing.low = s.dosing.low ∧
    t.callout = ⟨s.callout.seq, [], [], []⟩ ∧
    t.segs.pass = none ∧ t.segs.report = none ∧ (∀ sensed, t.txkey sensed = false) ∧ (∀ us, t.feedLine us = false) ∧
    t.segs.records = s.segs.records.map (fun r =>
      { r with reported := none, guest := none,
               cells := r.cells.map fun c => { c with plowedAt := none, saltedAt := none } }) ∧
    t.pending = s.pending

/-! ## The host port -/

/-- A request that the availability table does not admit in the station state, with or without a Leave pending, or
from the class, is answered REFUSED_STATE, and nothing else changes (R186, R187). That a START so turned away in
FAULT_STOP has the status byte alone, without the fault-cause byte of R133, is the model's reading (log 48). -/
def Obligations.RequestsOutsideTheTableAreRefused : Prop :=
  ∀ (c : Instr) (s : State), s.host.heldSel = false → isRequest c = true →
    admits c s.station.state s.station.leavePending s.station.config.cls = false →
    exec c s = .next { s with host := { s.host with reply := some [0x01] } }

/-- A request answered with a refusal leaves the state as it was and posts no event: the reply alone is new (R186). -/
def Obligations.RefusalsLeaveTheState : Prop :=
  ∀ (c : Instr) (s t : State) (b : BitVec 8) (r : List (BitVec 8)), isRequest c = true → exec c s = .next t →
    t.host.reply = some (b :: r) → b ≠ 0x00 → t = { s with host := { s.host with reply := t.host.reply } }

/-- A transaction cut short leaves no reply; a code outside the request table is answered UNKNOWN_REQUEST, without
result fields; nothing else changes, and on the lines it is handed on with the eighth bit, whatever follows (R184,
R185). The transaction that a reset found with SEL low ends with nothing taken and no reply, and a request sent in it,
of any code, is lost with it: that is the model's choice (log 29; R185, R195); on the lines no bit is taken until SEL
rises, and MISO carries the filler value, bit by bit, from its first bit at the reset on (the model's choice, log 29).
TAKE_EVENT removes the oldest record and replies OK, the number of records left and the record: its kind, its time in
four bytes, the dropped flag in bit 7 and 0 in the other bits (the model's choice, log 51), the length of its fields
and the fields; on an empty queue it replies OK, 0 and the kind NONE; nothing else changes (R191, R197). ATTN is
active exactly while the queue holds a record (R192). -/
def Obligations.TransactionsAndEvents : Prop :=
  ∀ s : State,
    exec .transactionAborted s = .next { s with host := { s.host with reply := none, heldSel := false } } ∧
    (s.host.heldSel = true → ∀ c, (isRequest c = true ∨ ∃ code, c = .unknownRequest code) →
      exec c s = .next { s with host := { s.host with reply := none, heldSel := false } }) ∧
    (s.host.heldSel = true → (∀ b, s.portEdge .selFalls = s ∧ s.portEdge (.sckRises b) = s) ∧
      s.portEdge .sckFalls = { s with host := { s.host with transaction :=
        { s.host.transaction with shown := s.host.transaction.shown + 1 } } } ∧
      s.portEdge .selRises = { s with host :=
        { s.host with reply := none, heldSel := false, transaction := ⟨false, 0, 0, [], 0⟩ } } ∧
      s.misoLevel = (0xA5 : BitVec 8).getMsbD (s.host.transaction.shown % 8)) ∧
    (s.attn = true ↔ s.host.events ≠ []) ∧
    (s.host.heldSel = false →
      (s.host.transaction.selected = false → ∀ (code : BitVec 8) (more : List Bool), (code = 0x00 ∨ 0x19 < code) →
        ((s.portEdge .selFalls).clockIn (bitsOf code ++ more)).pending = s.pending ++ [.unknownRequest code.toNat]) ∧
      (∀ code, (code = 0 ∨ 0x19 < code) →
        exec (.unknownRequest code) s = .next { s with host := { s.host with reply := some [0x09] } }) ∧
      (s.host.events = [] →
        exec .takeEvent s = .next { s with host := { s.host with reply := some [0x00, 0x00, 0x00] } }) ∧
      ∀ (r : EventRecord) (rest : List EventRecord), s.host.events = r :: rest →
        exec .takeEvent s = .next { s with host := { s.host with events := rest, reply := some (0x00 ::
          BitVec.ofNat 8 rest.length :: BitVec.ofNat 8 (eventKind r.event) ::
          (be32 r.time ++ [if r.dropped then 0x80 else 0x00, BitVec.ofNat 8 (eventFields r.event).length] ++
            eventFields r.event)) } })

/-- A read changes the reply alone; READ_STATUS sets the noise count to 0 as well. A number stands most significant
byte first, and a value that may be absent behind a presence byte (R197). READ_STATUS: OK, the family code 0x4B and
the revision 3, then the groups of the table of 11.3, field by field: station, channel, odometry, motion, group,
dosing, callout, and the number of records in the event queue (R110, R135, R149, R165, R183, R193). READ_SEGMENT: the
loaded fields, the cell count, the reported temperature, the guest state, and the open pass where the segment is
current. READ_CELLS: the range, a cell number at or above the cell count taken as the last cell, then every cell of it
with its residual now. READ_CLAIMS: the deferral count, every own record, and every unexpired view entry by segment,
then holder. A segment without a record is refused with REFUSED_UNKNOWN (R12, R48, R67, R96). Bytes that no rule
states are free: the direction with no entry, end and origin of STOPPING in other states, a guest-blocked time above
65,535 s (logs 23, 24). Bytes without a value and without a presence byte are 0, which is the model's choice and no
rule's (log 25): pass and cell of a segment that is not current, source and expiry of a guest state that is CLEAR, the
adjacent fields past the count, type and reason of the host mark with no mark, the seize period left with no period;
and so are the bits of a cause byte that 11.3 does not name (log 51). -/
def Obligations.ReadsChangeNothingElse : Prop :=
  ∀ s : State, s.host.heldSel = false →
    (∀ n, be16 n = [BitVec.ofNat 8 (n / 256), BitVec.ofNat 8 n] ∧
      be32 n = be16 (n / 65536) ++ be16 n ∧ optional32 none = [0, 0, 0, 0, 0] ∧ optional32 (some n) = 1 :: be32 n) ∧
    (∃ g : StatusGroups, s.StatusIs g ∧ exec .readStatus s = .next { s with
      channel := { s.channel with noiseCount := 0 },
      host := { s.host with reply := some (0x00 :: 0x4B :: 3 :: (g.station ++ g.channel ++ g.odometry ++ g.motion ++
        g.group ++ g.dosing ++ g.callout ++ [BitVec.ofNat 8 s.host.events.length])) } }) ∧
    (∃ live : List ViewEntry, live.Perm (s.claims.view.filter fun v => decide (s.station.clock < v.expiry)) ∧
      live.Pairwise (fun v w => v.segment < w.segment ∨ (v.segment = w.segment ∧ v.holder ≤ w.holder)) ∧
      exec .readClaims s = .next (s.answered (0x00 ::
        (byteList [s.claims.deferrals, s.claims.own.length] ++ s.claims.own.flatMap (fun r =>
          be16 r.segment ++ byteList [intentCode r.intent, r.urgency, r.rank, claimStateCode r.state,
            claimFrameCode r.frame] ++ optional32 r.lastSend ++ byteList [r.releasePending.toNat,
            if r.state = .holding ∧ s.currentSegment = some r.segment ∧ s.motion.state ≠ .idle then 1 else 0]) ++
          byteList [live.length] ++ live.flatMap (fun v =>
            be16 v.segment ++ byteList [v.holder, intentCode v.intent, v.rank] ++ be32 v.expiry))))) ∧
    (∀ n r, s.segs.records.find? (·.number == n) = some r →
      (∃ b, s.SegmentIs r b ∧ exec (.readSegment n) s = .next (s.answered (0x00 :: b))) ∧
      ∀ first last, exec (.readCells n first last) s = .next (s.answered (0x00 ::
        (byteList [min first ((r.length + 49) / 50 - 1), min last ((r.length + 49) / 50 - 1)] ++
          ((r.cells.take (min last ((r.length + 49) / 50 - 1) + 1)).drop (min first ((r.length + 49) / 50 - 1))).flatMap
            fun c => byteList [c.plowed.toNat] ++ optional32 c.plowedAt ++ byteList [c.dose] ++ optional32 c.saltedAt ++
              byteList [c.shortfall.toNat, match c.saltedAt with
                | none => 0
                | some a =>
                  if s.station.clock - a ≤ 60 * s.station.config.residualWindow then c.dose
                  else if s.station.clock - a ≤ 120 * s.station.config.residualWindow then c.dose / 2 else 0])))) ∧
    (∀ n, s.segs.records.find? (·.number == n) = none →
      exec (.readSegment n) s = .next { s with host := { s.host with reply := some [0x05] } } ∧
      ∀ first last, exec (.readCells n first last) s = .next { s with host := { s.host with reply := some [0x05] } })

/-- The bytes of every well-formed request decode to that request, whatever bytes the host sends after them. On the
lines: SEL falls, and for each bit, every byte most significant bit first, SCK rises, where MOSI is sampled, and
falls. The eighth rising edge completes a byte, and the one that completes the last byte of the request hands it on,
not one before; bits after it are counted and change nothing else. SEL rising before it hands on TRANSACTION_ABORTED,
an incomplete byte counting for nothing, and rising after it nothing; either way the next transaction starts afresh.
With SEL high SCK does nothing and MISO has the filler's first bit (log 29). MISO goes on at each falling edge, most
significant bit first: the filler value during the request, for one byte after it and past the reply, and the reply
between (R184, R185, R197). That an edge hands its command to the queue is the model's choice (log 29). -/
def Obligations.RequestBytesDecodeToTheRequest : Prop :=
  ∀ (i : Instr) (bs more : List (BitVec 8)), i.wellFormed = true → encodeRequest i = some bs →
    decodeRequest (bs ++ more) = i ∧
    (∀ s : State, s.host.heldSel = false → s.host.transaction.selected = false →
      (∀ b, s.portEdge (.sckRises b) = s ∧ s.portEdge .sckFalls = s) ∧
      (∀ t, t = (s.portEdge .selFalls).clockIn ((bs ++ more).flatMap bitsOf) →
        t = { s with
          pending := s.pending ++ [i]
          host := { s.host with reply := none, transaction := t.host.transaction } } ∧
        t.host.transaction.selected = true ∧ t.host.transaction.bytes = bs ∧
        t.host.transaction.count = 8 * (bs ++ more).length ∧ t.host.transaction.shown = t.host.transaction.count ∧
        t.portEdge .selRises = { t with host := { t.host with transaction := ⟨false, 0, 0, [], 0⟩ } }) ∧
      (∀ n, n < 8 * bs.length → ∀ t, t = (s.portEdge .selFalls).clockIn ((bs.flatMap bitsOf).take n) →
        t.pending = s.pending ∧ t.portEdge .selRises = { s with
          pending := s.pending ++ [.transactionAborted]
          host := { s.host with reply := none, transaction := ⟨false, 0, 0, [], 0⟩ } }) ∧
      ∀ l b, bs.flatMap bitsOf = l ++ [b] →
        (((s.portEdge .selFalls).clockIn l).portEdge (.sckRises b)).pending = s.pending ++ [i]) ∧
    (∀ s : State, s.host.heldSel = false → s.host.transaction.selected = false →
      s.misoLevel = (0xA5 : BitVec 8).getMsbD 0) ∧
    ∀ (s : State) (j k : Nat), s.host.heldSel = false → s.host.transaction.selected = true → k < 8 →
      s.host.transaction.shown = 8 * j + k →
      (∀ n, n < bs.length → s.host.transaction.bytes = bs.take n → s.misoLevel = (0xA5 : BitVec 8).getMsbD k) ∧
      (s.host.transaction.bytes = bs → s.misoLevel =
        (if j ≤ bs.length then 0xA5 else (s.host.reply.getD []).getD (j - bs.length - 1) 0xA5 : BitVec 8).getMsbD k)

/-- The bytes that a sender keys for a frame, heard by another station, deliver that frame's payload field by field
(R7, R8, R11, R196). -/
def Obligations.FrameBytesDeliverThePayload : Prop :=
  ∀ (own sender priority sensed : Nat) (p : Payload), 1 ≤ sender → sender ≤ 254 → sender ≠ own → priority < 8 →
    payloadFits p = true → hearFrame own sensed (frameImage sender priority p) = delivery sender p sensed

/-- What the end of a step does with no Leave to complete: the feed alone follows its conditions, which R150 lists: a
ROBOT with a valid record, on a segment whose record permits salt, its claim there HOLDING for PLOW or SALT, the
warning cleared, the stock at a pulse or more, in RUN, CAUTION or STOPPING. Where it is already as they have it
nothing changes; where they fail it is inactive with everything at rest; where they have come to hold, or the cell
need has changed, D is the need, with the limit and rate that D gives (R150, R151, R155, R156, R157). The stock, the
low flag and the need are never changed. That the feed is looked at once, at the end, is the model's reading (log 18).
-/
def Obligations.EndOfStepSettlesTheFeed : Prop :=
  ∀ s : State, s.station.leavePending = false → ∃ d, endOfStep s = { s with dosing := d } ∧
    (s.feedShouldRun = true ↔ s.station.configValid = true ∧ s.station.config.cls = .robot ∧
      s.motion.warning = false ∧ s.station.config.feedCal ≤ s.dosing.stock ∧
      (s.motion.state = .run ∨ s.motion.state = .caution ∨ s.motion.state = .stopping) ∧
      ∃ n r c, s.odo.entry.map (·.segment) = some n ∧ s.segs.records.find? (·.number == n) = some r ∧
        r.saltPermitted = true ∧ s.claims.own.find? (·.segment == n) = some c ∧ c.state = .holding ∧
        (c.intent = .plow ∨ c.intent = .salt)) ∧
    d.stock = s.dosing.stock ∧ d.low = s.dosing.low ∧ d.need = s.dosing.need ∧
    (s.dosing.active = s.feedShouldRun → (s.dosing.active = true → s.dosing.dose = s.dosing.need) → d = s.dosing) ∧
    (s.dosing.active = true → s.feedShouldRun = false →
      d.active = false ∧ d.dose = 0 ∧ d.vSalt = none ∧ d.rate = 0 ∧ d.capped = false ∧ d.acc = 0) ∧
    (s.feedShouldRun = true → (s.dosing.active = false ∨ s.dosing.dose ≠ s.dosing.need) →
      d.active = true ∧ d.dose = s.dosing.need ∧
      d.vSalt = (if s.dosing.need = 0 then none else
        some (max 100 (min 4000 (s.station.config.feedMax * 16 * 25 * s.station.config.feedCal
          / (4 * s.dosing.need * s.station.config.width))))) ∧
      d.rate = min (s.dosing.need * s.station.config.width * s.odo.speed * 4 / (25 * s.station.config.feedCal))
        (s.station.config.feedMax * 16) ∧
      d.acc = if d.rate = 0 then 0 else s.dosing.acc)

/-! ## Station -/

/-- CONFIGURE in OFFLINE. Of a request that is not in range the first field outside its range, in the order of the
table of section 2.3, is named in the refusal by its number, 1 to 23 and 24 on for the doses, and everything stays as
it was. With every field in range the whole record is taken and valid, the service distance is computed anew, the
scanner and stuck counters start again, FEED is low, and a DEPOT stands IDLE with no odometer fault (R35, R36, R121,
R122, R131, R136, R108). Its own zone, if it was not CLEAR, is CLEAR from then on, with the event that says so (log
16). That the restart timer is 0 then is the model's choice (log 52). -/
def Obligations.ConfigureTakesTheRecordOrNamesTheFault : Prop :=
  ∀ (f : ConfigureFields) (s : State), s.station.state = .offline → s.host.heldSel = false →
    (∀ n, FirstOut (configureField f) 47 n →
      exec (.configure f) s = .next (s.answered [0x02, BitVec.ofNat 8 n])) ∧
    (¬ ConfigureInRange f → f.doses.length ≤ 24 → ∃ n, FirstOut (configureField f) 47 n ∧
      exec (.configure f) s = .next (s.answered [0x02, BitVec.ofNat 8 n])) ∧
    (ConfigureInRange f → s.OffTheAir → ∃ t, exec (.configure f) s = .next (endOfStep t) ∧
      t = { s with
        station := { s.station with
          config := t.station.config, configValid := true, distance := if f.cls = 1 then 0 else 15 }
        odo := { s.odo with
          fault := s.odo.fault && decide (f.cls = 0), faultFresh := s.odo.faultFresh && decide (f.cls = 0),
          faultWindows := if f.cls = 0 then s.odo.faultWindows else 0 }
        channel := { s.channel with unheardCount := t.channel.unheardCount }
        motion := t.motion
        dosing := { s.dosing with pulsesNow := 0 }
        host := t.host } ∧
      RecordOf f t.station.config ∧ t.host.reply = some [0x00] ∧
      (f.cls = 0 → t.motion = { s.motion with
        warnCounter := 0, warning := false, latch := false, lastProt := false, restartMs := 0, stuck := 0,
        noticeMs := if s.zone = .clear then s.motion.noticeMs else 0 }) ∧
      (f.cls = 1 → t.motion = { s.motion with
        state := .idle, ceiling := 0, faults := FaultSet.empty, overspeedRun := 0, warnCounter := 0, warning := false,
        latch := false, lastProt := false, restartMs := 0, stuck := 0, noticeMs := if s.zone = .clear then s.motion.noticeMs else 0 }) ∧
      t.host.events = s.withEvents
        ((if (if f.cls = 1 then 0 else 15) = s.station.distance then [] else
          [.distance s.station.distance (if f.cls = 1 then 0 else 15)]) ++
        (if s.zone = .clear then [] else [.guestZone .clear s.zone s.place])))

/-- JOIN: an OFFLINE station with a valid record enters LISTENING, the listen timer and the idle count start from 0,
and the reply is OK; every other JOIN is refused and changes nothing but the reply (R28, R3, R10, R27). -/
def Obligations.JoinEntersListening : Prop :=
  ∀ s : State, s.host.heldSel = false →
    (s.station.state = .offline → s.station.configValid = true →
      exec .join s = .next { s with
        station := { s.station with state := .listening, listenTimer := 0 }
        channel := { s.channel with condition := .busy, idleCount := 0, assembler := .waitIdle }
        host := { s.host with
          events := s.withEvents [.stationState .join .offline .listening], reply := some [0x00] } }) ∧
    ((s.station.state ≠ .offline ∨ s.station.configValid = false) → exec .join s = .next (s.answered [0x01]))

/-- LEAVE in ACTIVE, the transmit queue having room: every own record is gone. With a RELEASE frame queued for each
record that was HOLDING the station stays ACTIVE, the Leave pending; with none HOLDING it is OFFLINE at once. A route is
ended at once: no current segment, IDLE, ceiling 0, PERMIT off; its records go the same way, but that the record of the
current segment may yield to a stronger view entry in place of its RELEASE. A second LEAVE does nothing but reply OK
(R31, R91, R95). -/
def Obligations.LeaveInActive : Prop :=
  ∀ s : State, s.station.state = .active → s.host.heldSel = false →
    (s.station.leavePending = true → exec .leave s = .next (s.answered [0x00])) ∧
    (s.station.leavePending = false → s.isRobot = true →
      (s.odo.entry ≠ none ∨ s.motion.state ≠ .idle) → ∃ t, exec .leave s = .next t ∧ t.host.reply = some [0x00] ∧
        t.odo = { s.odo with entry := none } ∧ t.motion.state = .idle ∧ t.motion.ceiling = 0 ∧
        t.permit = false ∧
        (s.Keyed → s.channel.queue.length + s.claims.own.length + 3 ≤ 8 → t.claims.own = [] ∧
          ∀ r ∈ s.claims.own, r.state = .holding →
            (s.currentSegment = some r.segment → ∀ v, ¬ s.TellsAgainst r.segment r.intent r.rank v) →
            t.station.state = .active ∧ t.station.leavePending = true ∧
              ∃ q ∈ t.channel.queue, q.payload = .release r.segment)) ∧
    (s.station.leavePending = false → s.odo.entry = none → s.motion.state = .idle →
      s.channel.queue.length + s.claims.own.length < 8 → ∃ t, exec .leave s = .next t ∧
        t.host.reply = some [0x00] ∧ t.claims.own = [] ∧ t.odo = s.odo ∧
        t.motion = { s.motion with seizePeriod := if t.station.state = .offline then none else s.motion.seizePeriod } ∧
        ((∃ r ∈ s.claims.own, r.state = .holding) →
          t.station.state = .active ∧ t.station.leavePending = true ∧
          ∀ r ∈ s.claims.own, r.state = .holding → ∃ q ∈ t.channel.queue, q.payload = .release r.segment) ∧
        ((∀ r ∈ s.claims.own, r.state ≠ .holding) → t.station.state = .offline ∧ t.station.leavePending = false))

/-- A Leave completes: at LEAVE_COMPLETE with one pending, at once for a LEAVE in LISTENING or SILENT, and at the end
of the step in which the last RELEASE frame that a pending Leave waits for has left the queue, as at its SENT;
while one of them is queued the Leave stays pending (that this is looked at once, at the end of a step, is the
model's reading, log 21). The station is OFFLINE and off the air, its claims, callouts and holds are gone, no
guest state is held, and its record, its validity, the work clock, the counters and the stock are kept (R31, R32,
R49, R95, R149, R174, R180, R181). -/
def Obligations.LeaveCompletes : Prop :=
  ∀ s : State,
    (s.station.state = .active → s.station.leavePending = true →
      ((∀ q ∈ s.channel.queue, q.entry ∉ s.station.leaveFrames) →
        (endOfStep s).station.state = .offline ∧ (endOfStep s).station.leavePending = false ∧ (endOfStep s).OffTheAir) ∧
      ((∃ q ∈ s.channel.queue, q.entry ∈ s.station.leaveFrames) → (endOfStep s).station = s.station) ∧
      ∀ f q n, s.QueueInOrder → s.Flying f q → q.payload = .release n → ∃ t, exec .sent s = .next t ∧
        ((∀ x ∈ s.channel.queue, x.entry ≠ f.entry → x.entry ∉ s.station.leaveFrames) →
          t.station.state = .offline ∧ t.station.leavePending = false ∧ t.OffTheAir) ∧
        ((∃ x ∈ s.channel.queue, x.entry ≠ f.entry ∧ x.entry ∈ s.station.leaveFrames) → t.station = s.station ∧
          t.channel.queue = s.channel.queue.filter fun x => !(x.entry == f.entry))) ∧
    ∀ c : Instr,
    (c = .leave ∧ s.host.heldSel = false ∧ (s.station.state = .listening ∨ s.station.state = .silent)) ∨
      (c = .leaveComplete ∧ s.station.leavePending = true) →
    ∃ t, exec c s = .next t ∧ t.station.state = .offline ∧ t.OffTheAir ∧ t.station.leavePending = false ∧
      t.station.config = s.station.config ∧ t.station.configValid = s.station.configValid ∧
      t.station.clock = s.station.clock ∧ t.station.distance = t.serviceDistance ∧ t.channel.unheardCount = 0 ∧
      t.channel.noiseCount = s.channel.noiseCount ∧ t.callout.own = [] ∧ t.callout.relay = [] ∧ t.callout.recent = [] ∧
      t.callout.seq = s.callout.seq ∧ t.group.holds = [] ∧ t.group.retained = false ∧ t.group.guestMark = false ∧
      t.group.hostMark = none ∧ t.motion.seizePeriod = none ∧ t.claims.deferrals = s.claims.deferrals ∧
      (∀ r ∈ t.segs.records, r.guest = none) ∧ t.dosing.stock = s.dosing.stock ∧
      t.segs.records.map (·.number) = s.segs.records.map (·.number) ∧
      (c = .leave → t.host.reply = some [0x00]) ∧
      (c = .leaveComplete → t.odo = s.odo ∧ t.motion = { s.motion with seizePeriod := none } ∧
        t.host.reply = s.host.reply)

/-- LISTEN_DONE: a LISTENING station whose channel is not JAMMED becomes ACTIVE and queues its first PRESENCE frame.
PRESENCE_INTERVAL in ACTIVE without a pending Leave: a queued PRESENCE frame that is not in flight takes the new
values and keeps its place, entry number and age, of several the one that stands first (the model's choice, log
45); otherwise a new one is queued. The frame carries the class, the distance, the motion state, IDLE for a DEPOT,
and the group (R25, R29, R38). -/
def Obligations.PresenceIsQueued : Prop :=
  ∀ (p : Payload) (s : State), s.channel.queue.length < 8 →
    p = .presence (classCode s.station.config.cls) s.station.distance
      (if s.station.config.cls = .depot then 0 else motionCode s.motion.state) s.station.config.group →
    (s.station.state = .listening → s.channel.condition ≠ .jammed →
      ∃ t, exec .listenDone s = .next (endOfStep t) ∧
        t = { s with
          station := { s.station with state := .active, listenTimer := 2000, presenceMs := 0 }
          channel := t.channel
          host := { s.host with events := s.withEvents [.stationState .listenDone .listening .active] } } ∧
        Queues .station p s t) ∧
    (s.station.state = .active → s.station.leavePending = false →
      ∃ t, exec .presenceInterval s = .next (endOfStep t) ∧
        t = { s with station := { s.station with presenceMs := 0 }, channel := t.channel } ∧
        ((∀ q ∈ s.channel.queue, q.payload.isPresence = true → s.channel.flight.map (·.entry) = some q.entry) →
          Queues .station p s t) ∧
        ∀ q, s.channel.queue.find? (fun x => x.payload.isPresence && !(s.channel.flight.map (·.entry) == some x.entry))
            = some q →
          t.channel = { s.channel with queue := s.channel.queue.map fun x =>
            if x.entry = q.entry then { x with payload := p } else x })

/-- PRESENCE heard. With a class of ROBOT or DEPOT and a distance up to 15 the sender's entry is created or refreshed and
stands last; unknown codes are stored as unknown; a full table first loses the entry refreshed longest ago; the events
say what is new, changed or lost, and a new service distance follows. Any other PRESENCE only ends its frame (R41, R42,
R43). That the replacement in a full table is one change of the table, with at most one DISTANCE record after its two
others, is the model's reading (log 47), and so is the order of the records (log 14). -/
def Obligations.PresenceTeachesANeighbour : Prop :=
  ∀ (sender cls distance motion group : Nat) (s : State), s.delivers sender →
    ((1 < cls ∨ 15 < distance) →
      exec (.presence sender cls distance motion group) s = .next (endOfStep { s with channel := s.channel.frameOver })) ∧
    (∀ k, classOf cls = some k → distance ≤ 15 → ∃ t,
      exec (.presence sender cls distance motion group) s = .next (endOfStep t) ∧
      t = { s with
        station := { s.station with neighbours := t.station.neighbours, distance := t.station.distance }
        channel := s.channel.frameOver
        host := { s.host with events := t.host.events } } ∧
      s.Learns ⟨sender, k, distance, motionOf motion, if group ≤ 15 then some group else none, s.station.clock⟩ t)

/-- NEIGHBOUR_LOST: at its last-heard time + 30 s an entry is removed, with its event, and the service distance is
computed anew; before that the command changes nothing (R42, R43; log 3), and the order of the two records is the model's
choice (log 14). The service distance is 0 for a DEPOT with a valid record, and for a ROBOT one more than the nearest
neighbour's, 15 at most. -/
def Obligations.NeighbourLostAndDistance : Prop :=
  ∀ (n : Nat) (s : State),
    ((∀ x ∈ s.station.neighbours, x.station = n → s.station.clock < x.lastHeard + 30) →
      exec (.neighbourLost n) s = .next s) ∧
    ((∃ x ∈ s.station.neighbours, x.station = n ∧ x.lastHeard + 30 ≤ s.station.clock) → ∃ t,
      exec (.neighbourLost n) s = .next t ∧
      t = { s with
        station := { s.station with
          neighbours := s.station.neighbours.filter (fun x => !(x.station == n)), distance := t.station.distance }
        host := { s.host with events := s.withEvents ([.neighbourLost n] ++
          if t.station.distance = s.station.distance then [] else
            [.distance s.station.distance t.station.distance]) } } ∧
      t.DistanceSettled)

/-! ## The route channel -/

/-- What the receiver senses, in a station that is not OFFLINE: 16 recessive symbols make a BUSY condition IDLE, and
end a JAM with its event; a single dominant symbol breaks the count; a start mark in HUNT opens a frame, that of an own
frame in flight or withdrawn in it too, one sensed already changes nothing, and any other is noise (log 31); a noise run
and a discarded frame, whoever sent it (log 8), add to the noise count; a jam has its event, in a condition that is JAMMED
already as well (log 11); a frame with this station's own number has its event. The run of a seize that this station keys
goes on (log 32). An own frame that was withdrawn in its gap or field ends at SENT or SENT_RESPONDED as any frame does;
with nothing of its own on the channel either changes nothing (log 38). While OFFLINE nothing is sensed (R3, R4, R6, R10,
R11, R12, R25). -/
def Obligations.ReceiverSenses : Prop :=
  ∀ s : State,
    (s.station.state = .offline → ∀ d, exec .channelIdle s = .next s ∧ exec .noise s = .next s ∧
      exec (.frameDiscarded d) s = .next s ∧ exec .jammed s = .next s ∧ exec .jamCleared s = .next s ∧
      exec .duplicateStation s = .next s ∧ exec .startMark s = .next s ∧ exec .breakInIdleCount s = .next s) ∧
    (s.station.state ≠ .offline →
      (s.channel.condition = .busy → s.channel.atRest = true → exec .channelIdle s = .next { s with
        channel := { s.channel with
          condition := .idle, idleCount := 16, assembler := .hunt, run := 0, runCounted := false } }) ∧
      (s.channel.condition = .jammed → exec .jamCleared s = .next { s with
        channel := { s.channel with
          condition := .idle, idleCount := 16, assembler := .hunt, run := 0, runCounted := false }
        host := { s.host with events := s.withEvents [.channel .jamCleared false] } }) ∧
      ∀ (k : Condition) (run : Nat) (counted : Bool),
        k = (if s.channel.condition = .jammed then Condition.jammed else .busy) →
        run = (if s.channel.seizeLeft = 0 then 0 else s.channel.run) →
        counted = (s.channel.seizeLeft != 0 && s.channel.runCounted) →
        exec .jammed s = .next { s with
          channel := { s.channel with
            condition := .jammed, idleCount := 0, assembler := .waitIdle, response := none, echo := false, abandoned := none,
            symbol := 0, run := max 400 s.channel.run, runCounted := counted }
          host := { s.host with events := s.withEvents [.channel .jammed false] } } ∧
        exec .duplicateStation s = .next { s with
          channel := { s.channel with
            condition := k, idleCount := 0, assembler := .waitIdle, response := none, echo := false, abandoned := none, symbol := 0,
            run := run, runCounted := counted }
          host := { s.host with events := s.withEvents [.channel .duplicateStation false] } } ∧
        exec .noise s = .next { s with channel := { s.channel with
          condition := k, idleCount := 0, assembler := .waitIdle, response := none, echo := false, abandoned := none,
          symbol := 0, run := run, runCounted := s.channel.seizeLeft != 0, noiseCount := min 255 (s.channel.noiseCount + 1) } } ∧
        (∀ d, exec (.frameDiscarded d) s = exec .noise s) ∧
        (s.channel.assembler = .hunt →
          exec .startMark s = .next { s with channel := { s.channel with
            condition := k, idleCount := 0, assembler := .header, symbol := 5, run := run, runCounted := counted } }) ∧
        (s.channel.assembler ≠ .hunt → s.channel.flight ≠ none → exec .startMark s = .next s) ∧
        (s.channel.assembler ≠ .hunt → s.channel.flight = none → exec .startMark s = exec .noise s) ∧
        (s.channel.flight = none → ∀ v c, c = (if s.channel.echo then
            { s.channel with
              condition := k, idleCount := 0, assembler := .waitIdle, response := none, echo := false, abandoned := none, symbol := 0,
              run := run, runCounted := counted }
            else s.channel) →
          exec .sent s = .next (endOfStep { s with channel := c }) ∧
          exec (.sentResponded v) s = .next { s with channel := c }) ∧
        (s.channel.assembler.inFrame = false → exec .breakInIdleCount s = .next { s with channel := { s.channel with
          condition := k, idleCount := 0, run := run, runCounted := counted,
          assembler := if s.channel.assembler = .hunt then .waitIdle else s.channel.assembler } }))

/-- A good frame of another sender ends. OFFLINE: nothing is heard. A sender outside 1..254: the header was malformed,
and it counts as noise. This station's own number: the event says so and nothing is delivered. That such a command is the
malformed or the doubled frame of R10 to R12 is the model's reading (log 34). -/
def Obligations.FramesNotDelivered : Prop :=
  ∀ (c : Instr) (n : Nat) (s : State), frameSender c = some n →
    (s.station.state = .offline → exec c s = .next (endOfStep s)) ∧
    (s.station.state ≠ .offline → (n = 0 ∨ 254 < n) → exec c s = .next (endOfStep { s with
      channel := { s.channel.frameOver with
        noiseCount := min 255 (s.channel.noiseCount + 1), runCounted := s.channel.seizeLeft != 0 } })) ∧
    (s.station.state ≠ .offline → 1 ≤ n → n ≤ 254 → n = s.station.config.station → exec c s = .next (endOfStep { s with
      channel := s.channel.frameOver
      host := { s.host with events := s.withEvents [.channel .duplicateStation false] } }))

/-- A seize is heard with no frame of this station in flight: the frame in assembly is abandoned, the event says
whether the seize is this station's own, and at a ROBOT the caution period starts, so that RUN becomes CAUTION at the
crawl speed at most (R5, R127, R128, R114); that the record of the seize stands before that of the caution is the
model's choice (log 14). At its end an own seize keys nothing more, and the dominant run it was part of is taken by
its length: 24 and more were a seize, four in HUNT are a start mark, 1 breaks the count outside a frame, and 2 to 23
discard the frame in assembly and count once as noise; where nothing of the frame in assembly ends, an abandoned
response stays so (R3, R4, R10, R12, R18). Short of 24 the length is free, at least what has passed (log 9). -/
def Obligations.SeizeStartsCaution : Prop :=
  ∀ s : State, s.station.state ≠ .offline → s.channel.flight = none →
    (s.isRobot = false → exec .seize s = .next (endOfStep { s with
      channel := { s.channel.frameOver with run := max 24 s.channel.run }
      host := { s.host with events := s.withEvents [.channel .seize (s.channel.seizeLeft != 0)] } })) ∧
    (s.isRobot = true → s.motion.state ≠ .run → exec .seize s = .next (endOfStep { s with
      channel := { s.channel.frameOver with run := max 24 s.channel.run }
      motion := { s.motion with seizePeriod := some 0 }
      host := { s.host with events := s.withEvents [.channel .seize (s.channel.seizeLeft != 0)] } })) ∧
    (s.isRobot = true → s.motion.state = .run → exec .seize s = .next (endOfStep { s with
      channel := { s.channel.frameOver with run := max 24 s.channel.run }
      motion := { s.motion with
        state := .caution, ceiling := min s.motion.ceiling s.station.config.crawl, seizePeriod := some 0,
        faults := FaultSet.empty }
      group := { s.group with retained := false }
      host := { s.host with
        events := s.withEvents [.channel .seize (s.channel.seizeLeft != 0),
          .motion .run .caution .cautionOn (min s.motion.ceiling s.station.config.crawl) s.currentSegment
            FaultSet.empty] } })) ∧
    (s.channel.seizeLeft ≠ 0 → ∀ n, n = s.seizeRunLength → ∃ t, exec .seizeEnds s = .next (endOfStep t) ∧
      t = { s with channel := t.channel } ∧ t.channel.seizeLeft = 0 ∧ t.channel.run = 0 ∧
      t.channel.runCounted = false ∧ t.channel.cuts = s.channel.cuts + 1 ∧ t.channel.queue = s.channel.queue ∧
      t.channel.unheardCount = s.channel.unheardCount ∧ t.channel.flight = none ∧
      t.channel.noiseCount = (if s.seizeRunIsNoise then min 255 (s.channel.noiseCount + 1) else s.channel.noiseCount) ∧
      t.channel.assembler = (if n = 0 then s.channel.assembler
        else if n = 1 then (if s.channel.assembler = .hunt then .waitIdle else s.channel.assembler)
        else if n = 4 ∧ s.channel.assembler = .hunt then .header else .waitIdle) ∧
      ((n = 0 ∨ (n = 1 ∧ s.channel.assembler.inFrame = true)) →
        t.channel.condition = s.channel.condition ∧ t.channel.idleCount = s.channel.idleCount ∧
        t.channel.response = s.channel.response ∧ t.channel.abandoned = s.channel.abandoned) ∧
      (1 ≤ n → (n = 1 → s.channel.assembler.inFrame = false) →
        t.channel.condition ≠ .idle ∧ t.channel.idleCount = 0)) ∧
    (s.channel.seizeLeft = 0 → exec .seizeEnds s = .next s)

/-- FRAME_START makes the head of the queue the frame in flight, its bytes as they stand: in ACTIVE, on an IDLE channel,
with no frame in flight and no seize being keyed; otherwise no frame starts (R13, R7, R8). TXKEY then follows the
symbols of the start mark and of these bytes as long as each is sensed as keyed, and is off after the last, after a
mismatch, and through the frame's own gap and field (R1, R2, R14, R17). The assembler hunts until the start mark has been
sensed (R10). ARBITRATION_WON tells the block: a QUEUED claim whose NEW frame won is CONTESTING (R14,
R76). -/
def Obligations.FrameStartsAndWins : Prop :=
  ∀ (q : Queued) (s : State),
    (∀ r, s.channel.queue = q :: r →
      (s.station.state = .active → s.channel.condition = .idle → s.channel.flight = none → s.channel.seizeLeft = 0 →
        exec .frameStart s = .next { s with channel := { s.channel with
          condition := .busy, idleCount := 0, assembler := .hunt, symbol := 0, run := 0, runCounted := false,
          flight := some ⟨q.entry, false,
            (BitVec.ofNat 8 (q.priority * 32 + q.payload.kind) :: BitVec.ofNat 8 s.station.config.station ::
              BitVec.ofNat 8 q.payload.bytes.length :: q.payload.bytes) ++
            [checkByte (BitVec.ofNat 8 (q.priority * 32 + q.payload.kind) :: BitVec.ofNat 8 s.station.config.station ::
              BitVec.ofNat 8 q.payload.bytes.length :: q.payload.bytes)]⟩ } }) ∧
      ((s.station.state ≠ .active ∨ s.channel.condition ≠ .idle ∨ s.channel.flight ≠ none ∨ s.channel.seizeLeft ≠ 0) →
        exec .frameStart s = .next s)) ∧
    (∀ f sensed, s.channel.flight = some f → s.channel.seizeLeft = 0 →
      (s.channel.assembler = .gap ∨ s.channel.assembler = .response ∨ s.channel.assembler = .waitIdle) →
      s.txkey sensed = false) ∧
    (∀ f plan sensed, s.channel.flight = some f → s.channel.seizeLeft = 0 →
      (s.channel.assembler = .hunt ∨ s.channel.assembler = .header ∨ s.channel.assembler = .body) →
      plan = [true, true, true, true, false] ++ f.image.flatMap (fun b =>
        [7, 6, 5, 4, 3, 2, 1, 0].flatMap fun n => [!b.getLsbD n, false]) →
      (sensed <+: plan → s.txkey sensed = plan.getD sensed.length false) ∧
      (¬ sensed <+: plan → s.txkey sensed = false)) ∧
    (∀ (f : Flight) (m : Channel), s.Flying f q → f.won = false →
      m = (if s.channel.assembler = .hunt then { s.channel.broken with assembler := .header } else s.channel) →
      (q.payload.plain = true →
        exec .arbitrationWon s = .next (endOfStep { s with
          channel := { m with flight := some { f with won := true }, symbol := max 37 s.channel.symbol } })) ∧
      ∀ n i r, q.payload = .claim n i r 0 →
        exec .arbitrationWon s = .next (endOfStep { s with
          channel := { m with flight := some { f with won := true }, symbol := max 37 s.channel.symbol }
          claims := { s.claims with own := s.claims.own.map fun x =>
            if x.segment = n ∧ x.state = .queued then { x with state := .contesting } else x } }))

/-- A frame in flight that is stopped without being removed keeps its place in the queue: it lost arbitration, collided,
its response field was spoiled, or a seize stopped it. Nothing of it is in flight any more. Every one of these is an
outcome but the lost arbitration, so that it alone leaves the unheard count; the others set it back to 0, but where it
stands at 3, in SILENT, it stays (log 10; R14, R15, R16, R18, R21, R26). The frame that this station's own assembler
held, or the start mark it was hearing, is noise where it collided, where its field was spoiled by anything but a seize,
and where the run of a seize that cut it ends at 2 to 23 symbols; else the noise count stays (R12; logs 8, 9, 33). A NEW
claim so returned is QUEUED again, and with a release pending it ends RELEASED, its frame withdrawn (R78, R93). Past its
stale limit the frame is removed STALE instead, and a NEW claim with it (R24). At a hearer with no frame in flight a
spoiled field ends the frame, as noise but for a seize (R21). -/
def Obligations.StoppedFrameKeepsItsPlace : Prop :=
  ∀ s : State, s.station.state ≠ .offline →
    (s.channel.flight = none → ∀ x,
      (x ≠ .seize → exec (.responseFieldSpoiled x) s = exec .noise s) ∧
      (x = .seize → exec (.responseFieldSpoiled x) s = .next { s with channel := s.channel.frameOver })) ∧
    ∀ (c : Instr) (f : Flight) (q : Queued), s.Flying f q →
    ((c = .arbitrationLost ∧ f.won = false) ∨ c = .collided ∨ (∃ x, c = .responseFieldSpoiled x) ∨ c = .seize ∨
      (c = .seizeEnds ∧ s.channel.seizeLeft ≠ 0)) →
    ∃ t, exec c s = .next (endOfStep t) ∧ t.channel.flight = none ∧
      t.channel.nextEntry = s.channel.nextEntry ∧ t.station = s.station ∧ t.segs = s.segs ∧ t.odo = s.odo ∧
      t.dosing = s.dosing ∧
      t.channel.noiseCount = (if ((s.channel.assembler.inFrame = true ∨ s.channel.assembler = .hunt) ∧
            (c = .collided ∨ c = .responseFieldSpoiled .codingViolation ∨ c = .responseFieldSpoiled .dominantRun)) ∨
          (c = .seizeEnds ∧ s.seizeRunIsNoise = true) then min 255 (s.channel.noiseCount + 1)
        else s.channel.noiseCount) ∧
      (c ≠ .seize → t.motion = s.motion ∧ t.group = s.group) ∧
      (c = .seize → s.motion.state ≠ .run →
        t.motion = { s.motion with seizePeriod := if s.isRobot then some 0 else s.motion.seizePeriod } ∧
        t.group = s.group) ∧
      (q.age < q.payload.staleLimit →
        t.callout = s.callout ∧
        t.channel.unheardCount = (if c = .arbitrationLost then s.channel.unheardCount
          else quietCount s.channel.unheardCount) ∧
        ((∀ n i r x, q.payload = .claim n i r 0 → s.claims.own.find? (·.segment == n) = some x →
            x.releasePending = false) →
          t.channel.queue = s.channel.queue ∧
          (∀ n i r, q.payload = .claim n i r 0 → t.claims = { s.claims with
            own := s.claims.own.map fun x => if x.segment = n then { x with state := .queued } else x }) ∧
          ((∀ n i r, q.payload ≠ .claim n i r 0) → t.claims = s.claims) ∧
          (c ≠ .seize → t.host = s.host) ∧
          (c = .seize → s.motion.state ≠ .run →
            t.host = { s.host with events := s.withEvents [.channel .seize (s.channel.seizeLeft != 0)] })) ∧
        ∀ n i r x, q.payload = .claim n i r 0 → s.claims.own.find? (·.segment == n) = some x →
          x.releasePending = true → s.EndsUnsent n x .released t) ∧
      (q.payload.staleLimit ≤ q.age →
        t.channel.unheardCount = quietCount s.channel.unheardCount ∧
        (∀ y ∈ t.channel.queue, y ∈ s.channel.queue ∧ y.entry ≠ f.entry) ∧
        (q.payload.plain = true →
          t.channel.queue = s.channel.queue.filter (fun y => !(y.entry == f.entry)) ∧ t.claims = s.claims ∧
          t.callout = s.callout) ∧
        (∀ n i r, q.payload = .claim n i r 1 → t.claims = { s.claims with
          own := s.claims.own.map fun x => if x.segment = n then { x with frame := .none } else x }) ∧
        ∀ n i r x, q.payload = .claim n i r 0 → s.claims.own.find? (·.segment == n) = some x →
          s.EndsUnsent n x .stale t)

/-- SENT and TX_UNHEARD remove the frame in flight from the queue. SENT: the unheard count goes back to 0, but stays
where it is 3, in SILENT (log 10), and for a plain kind nothing else follows; SENT_RESPONDED needs a response field,
and at any other kind it changes nothing (log 5). TX_UNHEARD adds one to the unheard count. In the start mark, where
the symbol is free, the channel is as idle as before at the first symbol, and after it the run that was sensed is
taken as R4 says; later condition and assembler stay (log 9). Below the third in a row a frame of a plain kind is
simply gone, and a CLAIM or CALLOUT is queued anew, a NEW claim QUEUED, or RELEASED with a release pending. At the
third an ACTIVE station is SILENT: it keys nothing, no seize either, no claim waits for its first frame, a
refresh is dropped, own callouts end UNROUTED and no relay waits; with a Leave pending it is OFFLINE instead (R16,
R17, R26, R30, R32, R39, R79, R87, R93, R95, R172, R174, R179, R180). -/
def Obligations.SentOrUnheardFrameIsRemoved : Prop :=
  ∀ (f : Flight) (q : Queued) (s : State), s.Flying f q →
    (q.payload.plain = true → s.QueueInOrder →
      exec .sent s = .next (endOfStep { s with
        channel := { s.channel.frameOver with
          queue := s.channel.queue.filter (fun x => !(x.entry == f.entry)), flight := none,
          unheardCount := quietCount s.channel.unheardCount } }) ∧
      ∀ v, exec (.sentResponded v) s = .next s) ∧
    (∀ (n : Nat) (c : Channel), n = max s.channel.symbol (Config.keyedUntil s.channel.cuts) →
      c = { (if s.channel.assembler ≠ .hunt then
            { s.channel with echo := s.channel.echo || s.channel.assembler == .gap || s.channel.assembler == .response }
          else if n = 0 then
            { s.channel with condition := .idle, idleCount := 16, assembler := .hunt, run := 0, runCounted := false }
          else if n = 1 then { s.channel.broken with assembler := .waitIdle }
          else if n < 4 then (if s.channel.runCounted then s.channel.frameOver else s.channel.frameOver.addNoise)
          else { s.channel.broken with assembler := .header, symbol := 5 }) with cuts := s.channel.cuts + 1 } →
      s.channel.unheardCount < 2 →
      (q.payload.plain = true → exec .txUnheard s = .next (endOfStep { s with
        channel := { c with
          queue := s.channel.queue.filter (fun x => !(x.entry == f.entry)), flight := none,
          unheardCount := s.channel.unheardCount + 1 } })) ∧
      (s.station.state ≠ .offline → s.channel.queue.length ≤ 8 → ∃ t, exec .txUnheard s = .next (endOfStep t) ∧
        (∀ p b own, (∃ n i k r, q.payload = .claim n i k 0 ∧ s.claims.own.find? (·.segment == n) = some r ∧
              r.releasePending = false ∧ p = q.payload ∧ b = .claims ∧
              own = s.claims.own.map fun x => if x.segment = n then { x with state := .queued } else x) ∨
            (∃ n i k r, q.payload = .claim n i k 1 ∧ s.claims.own.find? (·.segment == n) = some r ∧ p = q.payload ∧
              b = .claims ∧ own = s.claims.own) ∨
            (∃ r cd sg ce h d x, q.payload = .callout s.station.config.station r.seq cd sg ce h d x ∧
              s.callout.own.find? (·.seq == r.seq) = some r ∧ b = .callout ∧ own = s.claims.own ∧
              p = .callout s.station.config.station r.seq r.code r.segment r.cell 0 s.station.distance r.detail) ∨
            (∃ e cd sg ce h d x, q.payload = .callout e.origin e.seq cd sg ce h d x ∧
              e.origin ≠ s.station.config.station ∧
              s.callout.relay.find? (fun y => y.origin == e.origin && y.seq == e.seq) = some e ∧ b = .callout ∧
              own = s.claims.own ∧
              p = .callout e.origin e.seq e.code e.segment e.cell e.hop s.station.distance e.detail) →
          s.Requeues b p f.entry c t ∧ t.claims = { s.claims with own := own }) ∧
        ∀ n i k r, q.payload = .claim n i k 0 → s.claims.own.find? (·.segment == n) = some r → r.releasePending = true →
          s.QueueInOrder →
          t.claims = { s.claims with own := s.claims.own.filter fun x => !(x.segment == n) } ∧
          (∀ y ∈ t.channel.queue, ∀ i k m, y.payload ≠ .claim n i k m) ∧
          t.host = { s.host with events := s.withEvents [.claim n r.intent r.rank .released
            (decide (r.state = .holding ∧ s.currentSegment = some r.segment ∧ s.motion.state ≠ .idle)) none] })) ∧
    (s.station.state = .active → 2 ≤ s.channel.unheardCount → ∃ t, exec .txUnheard s = .next t ∧
      t.odo = s.odo ∧ t.station.config = s.station.config ∧
      (s.station.leavePending = true → t.station.state = .offline) ∧
      (s.station.leavePending = false → t.station.state = .silent ∧ t.station.presenceMs = 0 ∧
        t.channel.unheardCount = 3 ∧ t.channel.flight = none ∧ t.channel.seizeLeft = 0 ∧ t.channel.response = none ∧
        (∀ r ∈ t.claims.own, r.state ≠ .queued) ∧
        t.callout.own = [] ∧ t.callout.relay = [] ∧ t.motion.state = s.motion.state ∧
        (∀ n i k, q.payload = .claim n i k 0 → ∀ x ∈ t.claims.own, x.segment ≠ n) ∧
        (∀ n i k r, q.payload = .claim n i k 1 → s.Keyed → s.claims.own.find? (·.segment == n) = some r →
          r.state = .holding → ∃ x ∈ t.claims.own, x.segment = n ∧ x.state = .holding ∧ x.frame = .none) ∧
        (∀ r ∈ s.callout.own, s.Bounded → s.Keyed → ∃ x ∈ t.host.events,
          x.event = .callout r.code (some r.seq) r.segment r.cell r.detail .unrouted r.attempts none)))

/-- The end of the response field of this station's CLAIM frame. A NEW claim, CONTESTING: a sensed value above its own
claim value leaves it HOLDING from now on, with no deferrals and no unexpired conflicting view entry, or, with a
release pending, HOLDING and at once RELEASED with a RELEASE frame; any other value names the stronger station and
the claim ends DENIED, one deferral more (R17, R69, R70, R72, R77, R93). A REFRESH: above its value the record has
been sent successfully now and the view is cleared, with no event; else the record ends YIELDED where it is not
occupied, and, where it is, stays HOLDING, unless the objector is occupied too and has the lower number: then it
ends LAPSED, which stops the robot, with the MOTION event of the fault stop and the callout CLAIM_LOST, detail 256 (R86,
R111, R129, R132; the order of records is the model's choice, log 14). -/
def Obligations.ContestEnds : Prop :=
  ∀ (c : Instr) (v : Nat) (f : Flight) (q : Queued) (r : OwnClaim) (i k : Nat) (s : State),
    (c = .sentResponded v ∨ (c = .sent ∧ v = 65535)) → s.QueueInOrder → s.Keyed → s.Bounded → s.Flying f q →
    s.claims.own.find? (·.segment == r.segment) = some r →
    ∀ (sent : Channel) (view : List ViewEntry),
    sent = { s.channel.frameOver with
      queue := s.channel.queue.filter (fun x => !(x.entry == f.entry)), flight := none,
      unheardCount := quietCount s.channel.unheardCount } →
    view = s.claims.view.filter (fun w =>
      !(w.segment == r.segment && conflicts w.intent r.intent && decide (s.station.clock < w.expiry))) →
    (q.payload = .claim r.segment i k 0 → r.state = .contesting → ∃ t, exec c s = .next (endOfStep t) ∧
      t = { s with channel := t.channel, claims := t.claims, host := { s.host with events := t.host.events } } ∧
      (r.rank * 256 + s.station.config.station < v → r.releasePending = false →
        t.channel = sent ∧
        t.claims = ⟨s.claims.own.map fun x => if x.segment = r.segment then
            { x with state := .holding, frame := .none, lastSend := some s.station.clock, refreshesOffered := 0 } else x,
          view, 0⟩ ∧
        t.host.events = s.withEvents [.claim r.segment r.intent r.rank .holding
          (decide (s.currentSegment = some r.segment ∧ s.motion.state ≠ .idle)) none]) ∧
      (r.rank * 256 + s.station.config.station < v → r.releasePending = true → s.station.state ≠ .offline →
        t.claims = ⟨s.claims.own.filter (fun x => !(x.segment == r.segment)), view, 0⟩ ∧
        (∃ x ∈ t.channel.queue, x.payload = .release r.segment ∧ x.age = 0 ∧ x.owner = .claims) ∧
        t.host.events = s.withEvents [.claim r.segment r.intent r.rank .holding
            (decide (s.currentSegment = some r.segment ∧ s.motion.state ≠ .idle)) none,
          .claim r.segment r.intent r.rank .released
            (decide (s.currentSegment = some r.segment ∧ s.motion.state ≠ .idle)) none]) ∧
      (v ≤ r.rank * 256 + s.station.config.station →
        t.claims = { s.claims with
          own := s.claims.own.filter (fun x => !(x.segment == r.segment)), deferrals := min 255 (s.claims.deferrals + 1) } ∧
        t.host.events = s.withEvents [.claim r.segment r.intent r.rank .denied false (some (v % 256, v / 256))])) ∧
    (q.payload = .claim r.segment i k 1 → r.state = .holding → ∃ t, exec c s = .next (endOfStep t) ∧
      (r.rank * 256 + s.station.config.station < v → t = { s with
        channel := sent
        claims := { s.claims with
          own := s.claims.own.map fun x => if x.segment = r.segment then
            { x with frame := .none, lastSend := some s.station.clock, refreshesOffered := 0 } else x
          view := view } }) ∧
      (v ≤ r.rank * 256 + s.station.config.station →
        ((s.currentSegment ≠ some r.segment ∨ s.motion.state = .idle) → t = { s with
          channel := t.channel
          claims := { s.claims with own := s.claims.own.filter fun x => !(x.segment == r.segment) }
          host := { s.host with
            events := s.withEvents [.claim r.segment r.intent r.rank .yielded false (some (v % 256, v / 256))] } }) ∧
        (s.currentSegment = some r.segment → s.motion.state ≠ .idle →
          ((v / 256 ≠ 0 ∨ s.station.config.station ≤ v % 256) → t = { s with
            channel := sent
            claims := { s.claims with own := s.claims.own.map fun x =>
              if x.segment = r.segment then { x with frame := .none } else x } }) ∧
          (v / 256 = 0 → v % 256 < s.station.config.station →
            t.claims.own = s.claims.own.filter (fun x => !(x.segment == r.segment)) ∧ t.motion.state = .faultStop ∧
            t.motion.faults.claimLost = true ∧ t.permit = false ∧
            (∃ x ∈ t.host.events, x.event = .claim r.segment r.intent r.rank .lapsed true none) ∧
            s.FaultShown .claimLost ⟨false, false, false, true⟩ { s.motion.faults with claimLost := true } t ∧
            (s.mayRaise → s.Raises 3 256 t)))))

/-- The end of an own callout's frame: with an acknowledgement the record ends ACKED, naming the station and its
distance; unanswered it waits for its backoff, one attempt more, and at the fifth attempt ends UNROUTED (R17,
R172). The end of a forward frame: acknowledged, the entry leaves the relay queue and its pair is remembered for
120 s; unanswered it waits for its backoff, one attempt more, and at the third attempt it leaves in the same way;
no event is posted (R179, R181). -/
def Obligations.OwnCalloutOutcome : Prop :=
  ∀ (f : Flight) (q : Queued) (cd sg ce h d x : Nat) (s : State), s.QueueInOrder → s.Flying f q →
  (∀ c : OwnCallout, q.payload = .callout s.station.config.station c.seq cd sg ce h d x →
    s.callout.own.find? (·.seq == c.seq) = some c →
    (∀ v, v ≠ 65535 → ∃ t, exec (.sentResponded v) s = .next (endOfStep t) ∧
      t = { s with
        channel := { s.channel.frameOver with
          queue := s.channel.queue.filter (fun x => !(x.entry == f.entry)), flight := none,
          unheardCount := quietCount s.channel.unheardCount }
        callout := { s.callout with own := s.callout.own.filter fun x => !(x.seq == c.seq) }
        host := { s.host with
          events := s.withEvents [.callout c.code (some c.seq) c.segment c.cell c.detail .acked c.attempts
            (some (v % 256, v / 256))] } }) ∧
    (c.attempts < 4 → exec .sent s = .next (endOfStep { s with
        channel := { s.channel.frameOver with
          queue := s.channel.queue.filter (fun x => !(x.entry == f.entry)), flight := none,
          unheardCount := quietCount s.channel.unheardCount }
        callout := { s.callout with own := s.callout.own.map fun x =>
          if x.seq = c.seq then { x with attempts := x.attempts + 1, retry := .awaiting 0 } else x } })) ∧
    (c.attempts = 4 → ∃ t, exec .sent s = .next (endOfStep t) ∧
      t.callout = { s.callout with own := s.callout.own.filter fun x => !(x.seq == c.seq) } ∧
      t.station = s.station ∧ t.segs = s.segs ∧ t.claims = s.claims ∧ t.odo = s.odo ∧ t.motion = s.motion ∧
      t.group = s.group ∧ t.dosing = s.dosing ∧
      t.host.events = s.withEvents [.callout c.code (some c.seq) c.segment c.cell c.detail .unrouted 5 none])) ∧
  ∀ e : RelayEntry, q.payload = .callout e.origin e.seq cd sg ce h d x → e.origin ≠ s.station.config.station →
    s.callout.relay.find? (fun y => y.origin == e.origin && y.seq == e.seq) = some e → ∀ sent : Channel,
    sent = { s.channel.frameOver with
      queue := s.channel.queue.filter (fun x => !(x.entry == f.entry)), flight := none,
      unheardCount := quietCount s.channel.unheardCount } →
    (e.attempts < 2 → exec .sent s = .next (endOfStep { s with
      channel := sent
      callout := { s.callout with relay := s.callout.relay.map fun y =>
        if y.origin = e.origin ∧ y.seq = e.seq then { y with attempts := y.attempts + 1, retry := .awaiting 0 } else y } })) ∧
    ∀ (i : Instr) (v : Nat), (i = .sentResponded v ∧ v ≠ 65535) ∨ (i = .sent ∧ 2 ≤ e.attempts) →
      s.callout.recent.length < 16 → exec i s = .next (endOfStep { s with
        channel := sent
        callout := { s.callout with
          relay := s.callout.relay.filter fun y => !(y.origin == e.origin && y.seq == e.seq)
          recent := s.callout.recent ++ [⟨e.origin, e.seq, s.station.clock + 120⟩] } })

/-- STALE: a queued frame that is not in flight is removed. A plain one is gone, with the unheard count back at 0,
unless it stands at 3, in SILENT, where it stays (the model's reading, log 10); a NEW claim ends with it, and a REFRESH
leaves its record without a frame. A CALLOUT has made one attempt more: an own one waits for its backoff, and at the
fifth attempt ends UNROUTED, with its event; a forwarded one waits, and at the third leaves the relay queue for the
recent-relay list. The frame in flight goes on; its age has reached the limit, so that it cannot come back to the queue
(R16, R24, R26, R78, R87, R172, R179, R181). -/
def Obligations.StaleFrameIsRemoved : Prop :=
  ∀ (q : Queued) (s : State) (left : Channel), s.QueueInOrder → q ∈ s.channel.queue →
    left = { s.channel with
      queue := s.channel.queue.filter (fun x => !(x.entry == q.entry)),
      unheardCount := quietCount s.channel.unheardCount } →
    (s.channel.flight.map (·.entry) ≠ some q.entry → q.payload.plain = true →
      exec (.stale q.entry) s = .next (endOfStep { s with channel := left })) ∧
    (∀ n i k, s.channel.flight.map (·.entry) ≠ some q.entry → q.payload = .claim n i k 1 →
      exec (.stale q.entry) s = .next (endOfStep { s with
        channel := left
        claims := { s.claims with own := s.claims.own.map fun x =>
          if x.segment = n then { x with frame := .none } else x } })) ∧
    (∀ (c : OwnCallout) (cd sg ce h d x : Nat), s.channel.flight.map (·.entry) ≠ some q.entry →
      q.payload = .callout s.station.config.station c.seq cd sg ce h d x →
      s.callout.own.find? (·.seq == c.seq) = some c →
      (c.attempts < 4 → exec (.stale q.entry) s = .next (endOfStep { s with
        channel := left
        callout := { s.callout with own := s.callout.own.map fun y =>
          if y.seq = c.seq then { y with attempts := y.attempts + 1, retry := .awaiting 0 } else y } })) ∧
      (4 ≤ c.attempts → exec (.stale q.entry) s = .next (endOfStep { s with
        channel := left
        callout := { s.callout with own := s.callout.own.filter fun y => !(y.seq == c.seq) }
        host := { s.host with
          events := s.withEvents
            [.callout c.code (some c.seq) c.segment c.cell c.detail .unrouted (c.attempts + 1) none] } }))) ∧
    (∀ (e : RelayEntry) (cd sg ce h d x : Nat), s.channel.flight.map (·.entry) ≠ some q.entry →
      q.payload = .callout e.origin e.seq cd sg ce h d x → e.origin ≠ s.station.config.station →
      s.callout.relay.find? (fun y => y.origin == e.origin && y.seq == e.seq) = some e →
      (e.attempts < 2 → exec (.stale q.entry) s = .next (endOfStep { s with
        channel := left
        callout := { s.callout with relay := s.callout.relay.map fun y =>
          if y.origin = e.origin ∧ y.seq = e.seq then { y with attempts := y.attempts + 1, retry := .awaiting 0 }
          else y } })) ∧
      (2 ≤ e.attempts → s.callout.recent.length < 16 → exec (.stale q.entry) s = .next (endOfStep { s with
        channel := left
        callout := { s.callout with
          relay := s.callout.relay.filter fun y => !(y.origin == e.origin && y.seq == e.seq)
          recent := s.callout.recent ++ [⟨e.origin, e.seq, s.station.clock + 120⟩] } }))) ∧
    (∀ n i k r, s.channel.flight.map (·.entry) ≠ some q.entry → q.payload = .claim n i k 0 →
      s.claims.own.find? (·.segment == n) = some r → r.state = .queued → ∃ t,
      exec (.stale q.entry) s = .next (endOfStep t) ∧
      t.claims = { s.claims with own := s.claims.own.filter fun x => !(x.segment == n) } ∧
      t.station = s.station ∧ t.segs = s.segs ∧ t.odo = s.odo ∧ t.motion = s.motion ∧ t.group = s.group ∧
      t.dosing = s.dosing ∧ t.callout = s.callout ∧ q ∉ t.channel.queue ∧
      t.host.events = s.withEvents [.claim n r.intent r.rank .stale false none]) ∧
    (s.channel.flight.map (·.entry) = some q.entry → ∃ t, exec (.stale q.entry) s = .next t ∧
      t = { s with channel := { s.channel with queue := t.channel.queue } } ∧
      t.channel.queue = s.channel.queue.map (fun x =>
        if x.entry = q.entry then { x with age := max x.age x.payload.staleLimit } else x))

/-- A frame joins the queue behind every frame of its own or a lower priority value. A full queue gives up, for a frame
of a lower priority value, the frame with the greatest value that is not in flight, of several the youngest; without one
the new frame is not queued. An OFFLINE station queues nothing. The frame given up, or turned away, has the outcome
DISPLACED or STALE, so the unheard count goes back to 0, unless it stands at 3, in SILENT, where it stays (the model's
reading, log 10; R16, R22, R23, R26). -/
def Obligations.QueueingAFrame : Prop :=
  ∀ (b : Block) (p : Payload) (s : State),
    (s.hasRoom → Queues b p s (queueFrame b p s) ∧
      queueFrame b p s = { s with channel := (queueFrame b p s).channel }) ∧
    (s.station.state = .offline → p.plain = true → queueFrame b p s =
      { s with channel := { s.channel with unheardCount := quietCount s.channel.unheardCount } }) ∧
    (s.station.state ≠ .offline → 8 ≤ s.channel.queue.length → p.plain = true →
      (∀ q ∈ s.channel.queue, q.priority ≤ p.priority ∨ s.channel.flight.map (·.entry) = some q.entry) →
      queueFrame b p s = { s with channel := { s.channel with unheardCount := quietCount s.channel.unheardCount } }) ∧
    (∀ v, s.station.state ≠ .offline → 8 ≤ s.channel.queue.length → s.QueueInOrder → v ∈ s.channel.queue →
      v.payload.plain = true → p.priority < v.priority → s.channel.flight.map (·.entry) ≠ some v.entry →
      (∀ q ∈ s.channel.queue, s.channel.flight.map (·.entry) ≠ some q.entry →
        q.priority < v.priority ∨ (q.priority = v.priority ∧ q.entry ≤ v.entry)) →
      ∃ t, queueFrame b p s = t ∧
        JoinsQueue ⟨p, p.priority, b, 0, s.channel.nextEntry⟩
          (s.channel.queue.filter fun x => !(x.entry == v.entry)) t.channel.queue ∧
        t = { s with channel := { s.channel with
          queue := t.channel.queue, nextEntry := s.channel.nextEntry + 1,
          unheardCount := quietCount s.channel.unheardCount } })

/-! ## Segments -/

/-- LOAD_SEGMENT in OFFLINE. Of a request that is not in range the first field outside its range, in the order of the
table of R45, is named by its number, 1 to 7 and 8 on for the adjacent segments, nothing else changing. With every
field in range the record of that number is as sent, its runtime parts as after load, in place of an older one or
where the table has room; every other record stays; a full table refuses (R45, R47). REPORT_TEMPERATURE stores the
clamped value with the time now; where a pass is open on that segment the cell need follows it; a segment without a
record is refused (R50, R152, R153). -/
def Obligations.LoadAndReportTemperature : Prop :=
  ∀ s : State, s.host.heldSel = false →
    (∀ f, s.station.state = .offline →
      (∀ n, FirstOut (loadField f) (7 + f.adjacentCount) n →
        exec (.loadSegment f) s = .next (s.answered [0x02, BitVec.ofNat 8 n])) ∧
      (¬ LoadInRange f → ∃ n, FirstOut (loadField f) (7 + f.adjacentCount) n ∧
        exec (.loadSegment f) s = .next (s.answered [0x02, BitVec.ofNat 8 n])) ∧
      (LoadInRange f → s.segs.records.find? (·.number == f.segment) = none → 96 ≤ s.segs.records.length →
        exec (.loadSegment f) s = .next (s.answered [0x03])) ∧
      (LoadInRange f → (s.segs.records.find? (·.number == f.segment) ≠ none ∨ s.segs.records.length < 96) → ∃ t,
        exec (.loadSegment f) s = .next (endOfStep t) ∧
        t = { s with
          segs := { s.segs with records := t.segs.records }, host := { s.host with reply := some [0x00] } } ∧
        (∀ n, n ≠ f.segment →
          t.segs.records.find? (·.number == n) = s.segs.records.find? (·.number == n)) ∧
        ∃ r, t.segs.records.find? (·.number == f.segment) = some r ∧ r.number = f.segment ∧ r.length = f.length ∧
          r.speedLimit = f.speedLimit ∧ surfaceOf f.surface = some r.surface ∧
          flagOf f.saltPermitted = some r.saltPermitted ∧ r.defaultTemp = f.defaultTemp ∧
          r.adjacent = f.adjacent.take f.adjacentCount ∧ r.reported = none ∧ r.guest = none ∧
          r.cells = List.replicate ((f.length + 49) / 50) ⟨false, none, 0, none, false⟩)) ∧
    ∀ (n : Nat) (temp T : Int), T = max (-400) (min 200 temp) →
      (s.segs.records.find? (·.number == n) = none →
        exec (.reportTemperature n temp) s = .next (s.answered [0x05])) ∧
      (∀ r, s.segs.records.find? (·.number == n) = some r → ∃ t,
        exec (.reportTemperature n temp) s = .next (endOfStep t) ∧
        t = { s with
          segs := { s.segs with records := s.segs.records.map fun x =>
            if x.number = n then { x with reported := some (T, s.station.clock) } else x }
          dosing := { s.dosing with need := t.dosing.need }
          host := { s.host with reply := some (0x00 :: be16 (twos16 T)) } } ∧
        ((s.odo.entry.map (·.segment) ≠ some n ∨ s.segs.pass = none) → t.dosing.need = s.dosing.need) ∧
        ∀ p, s.odo.entry.map (·.segment) = some n → s.segs.pass = some p →
          t.dosing.need = s.station.config.doses.getD (surfaceCode r.surface * 6 + tempBand T) 0 - p.residual)

/-- CLEAR_SEGMENTS: in OFFLINE every record is removed and the reply is OK with the number of records removed; in every
other station state it is refused with REFUSED_STATE and nothing changes (R46). -/
def Obligations.ClearSegmentsRemovesEveryRecord : Prop :=
  ∀ s : State, s.host.heldSel = false →
    (s.station.state = .offline → exec .clearSegments s = .next (endOfStep { s with
      segs := { s.segs with records := [] }
      host := { s.host with reply := some [0x00, BitVec.ofNat 8 s.segs.records.length] } })) ∧
    (s.station.state ≠ .offline → exec .clearSegments s = .next (s.answered [0x01]))

/-- A fill, by MARK_SNOWFALL or by the SNOWFALL frame of another station: every cell of every record in the range
loses its plow state, and with the clear-salt flag its dose and salt time; where the current segment is in the
range the open pass starts its travel and blade counts again and the pending report is dropped; queued PROGRESS
frames for the range that are not in flight are withdrawn; the event carries the number of records. A range out of
order or out of 1..4000 is refused, or changes nothing when heard. With the broadcast flag, in ACTIVE, a SNOWFALL
frame is queued as well (R62, R63, R64). -/
def Obligations.SnowfallFillsTheRange : Prop :=
  ∀ (source first last flag : Nat) (k : Bool) (s : State), flagOf flag = some k → s.host.heldSel = false →
    (∀ c, ((c = .markSnowfall first last flag 0 ∧ source = 0) ∨ (c = .snowfall source first last flag ∧ s.delivers source)) →
      ((first = 0 ∨ 4000 < last ∨ last < first) →
        (c = .markSnowfall first last flag 0 → exec c s = .next (s.answered [0x02])) ∧
        (c = .snowfall source first last flag → exec c s = .next (endOfStep { s with channel := s.channel.frameOver }))) ∧
      (1 ≤ first → first ≤ last → last ≤ 4000 → s.QueueInOrder → ∃ t, exec c s = .next (endOfStep t) ∧
        t = { s with segs := t.segs, channel := t.channel, host := t.host } ∧
        t.segs.records = s.segs.records.map (fun r => if first ≤ r.number ∧ r.number ≤ last then
          { r with cells := r.cells.map (fun x => if k then ⟨false, none, 0, none, false⟩
            else { x with plowed := false, plowedAt := none }) } else r) ∧
        (∀ n, s.odo.entry.map (·.segment) = some n → first ≤ n → n ≤ last →
          t.segs.report = none ∧ t.segs.pass = s.segs.pass.map (fun p =>
            { p with travel := 0, blade := 0, residual := if k then 0 else p.residual })) ∧
        ((∀ n, s.odo.entry.map (·.segment) = some n → ¬ (first ≤ n ∧ n ≤ last)) →
          t.segs.report = s.segs.report ∧ t.segs.pass = s.segs.pass) ∧
        (∀ q, q ∈ t.channel.queue ↔ q ∈ s.channel.queue ∧
          ¬ ((∃ n f l w d x, q.payload = .progress n f l w d x ∧ first ≤ n ∧ n ≤ last) ∧
            s.channel.flight.map (·.entry) ≠ some q.entry)) ∧
        t.channel = { (if c = .markSnowfall first last flag 0 then s.channel else s.channel.frameOver) with
          queue := t.channel.queue } ∧
        t.host.events = s.withEvents [.snowfall source first last k
          (s.segs.records.filter fun r => decide (first ≤ r.number) && decide (r.number ≤ last)).length] ∧
        t.host.reply = (if c = .markSnowfall first last flag 0 then some [0x00, BitVec.ofNat 8
          (s.segs.records.filter fun r => decide (first ≤ r.number) && decide (r.number ≤ last)).length]
          else s.host.reply))) ∧
    (s.station.state = .active → s.channel.queue.length < 8 → 1 ≤ first → first ≤ last → last ≤ 4000 → ∃ t,
      exec (.markSnowfall first last flag 1) s = .next (endOfStep t) ∧
      t.segs.records = s.segs.records.map (fun r => if first ≤ r.number ∧ r.number ≤ last then
        { r with cells := r.cells.map (fun x => if k then ⟨false, none, 0, none, false⟩
          else { x with plowed := false, plowedAt := none }) } else r) ∧
      ∃ q ∈ t.channel.queue, q.payload = .snowfall first last flag ∧ q.age = 0 ∧ q.owner = .segments)

/-- PROGRESS heard: the cells of the range, clamped to the last cell, take its work, dose and time. The sender's distance
and time of hearing enter the neighbour table: its entry keeps class, motion state and group and stands last, a new entry
is a ROBOT's of unknown motion state and group, every other entry stays, but that a full table first loses the one
refreshed longest ago, with the events and the service distance that follow (R41 to R43; logs 14, 47). A distance above
15 leaves the table. A frame for a segment without a record, with an unlisted work code or a range out of order changes
no cell (R60, R61). -/
def Obligations.ProgressIsApplied : Prop :=
  ∀ (sender n first last work dose distance : Nat) (s : State), s.delivers sender → ∃ t,
    exec (.progress sender n first last work dose distance) s = .next (endOfStep t) ∧
    t = { s with
      station := { s.station with neighbours := t.station.neighbours, distance := t.station.distance }
      segs := { s.segs with records := t.segs.records }
      channel := s.channel.frameOver
      host := { s.host with events := t.host.events } } ∧
    (15 < distance → t.station = s.station ∧ t.host = s.host) ∧
    (distance ≤ 15 →
      (∀ old, s.station.neighbours.find? (·.station == sender) = some old →
        s.Learns { old with distance := distance, lastHeard := s.station.clock } t) ∧
      (s.station.neighbours.find? (·.station == sender) = none →
        s.Learns ⟨sender, .robot, distance, none, none, s.station.clock⟩ t)) ∧
    ((s.segs.records.find? (·.number == n) = none ∨ workOf work = none ∨ last < first) →
      t.segs.records = s.segs.records) ∧
    (∀ r, s.segs.records.find? (·.number == n) = some r → 1 ≤ work → work ≤ 3 → first ≤ last →
      t.segs.records = s.segs.records.map fun x => if x.number = n then
        { x with cells := x.cells.mapIdx (fun j y =>
          if min first ((r.length + 49) / 50 - 1) ≤ j ∧ j ≤ min last ((r.length + 49) / 50 - 1) then
            ⟨y.plowed || decide (work ≠ 2), if work = 2 then y.plowedAt else some s.station.clock,
              if work = 1 then y.dose else min 63 dose, if work = 1 then y.saltedAt else some s.station.clock,
              y.shortfall && decide (work = 1)⟩
          else y) } else x)

/-- GUEST heard, and GUEST_STATE_EXPIRY. A notice of CLEAR clears the state its own source set; a notice of another zone
is taken where no state is held, from the same source, or where its zone is as high, for 15 s; a frame for a segment
without a record or with an unlisted zone changes nothing. At its expiry a state is CLEAR. A change of zone posts
PEER_GUEST, at an expiry with source and cell 0 (log 25), and caution follows with its event: RUN to CAUTION where a
cause has come, CAUTION to RUN where none is left. A guest held for the current segment, or for one that its record lists
as adjacent, is such a cause (R65, R66, R127). That the record of the segment table stands before that of the motion
supervisor (log 14), and that an expiry before its time changes nothing (log 3), are the model's choices. -/
def Obligations.PeerGuestStates : Prop :=
  ∀ (n : Nat) (s : State),
    (s.causePeer = true ↔ ∃ m, s.odo.entry.map (·.segment) = some m ∧ (s.GuestHeld m ∨
      ∃ x, s.segs.records.find? (·.number == m) = some x ∧ ∃ a ∈ x.adjacent, s.GuestHeld a)) ∧
    (∀ sender cell zone, s.delivers sender →
      (s.segs.records.find? (·.number == n) = none ∨ zoneOf zone = none) →
      exec (.guest sender n cell zone) s = .next (endOfStep { s with channel := s.channel.frameOver })) ∧
    ∀ r, s.segs.records.find? (·.number == n) = some r →
      (∀ g, r.guest = some g → s.station.clock < g.expiry → exec (.guestStateExpiry n) s = .next s) ∧
      (r.guest = none → exec (.guestStateExpiry n) s = .next s) ∧
      ∀ (c : Instr) (z : Zone) (new : Option PeerGuest) (source cell : Nat) (expired : Bool),
        (∃ g, c = .guestStateExpiry n ∧ r.guest = some g ∧ g.expiry ≤ s.station.clock ∧ new = none ∧ source = 0 ∧
          cell = 0 ∧ expired = true) ∨
        (c = .guest source n cell (zoneCode z) ∧ s.delivers source ∧ expired = false ∧
          new = (match r.guest with
            | none => if z = .clear then none else some ⟨z, source, s.station.clock + 15⟩
            | some g =>
              if z = .clear then (if g.source = source then none else some g)
              else if g.source = source ∨ zoneCode g.zone ≤ zoneCode z then some ⟨z, source, s.station.clock + 15⟩
              else some g)) →
        ∃ t, exec c s = .next (endOfStep t) ∧
          t = { s with
            segs := { s.segs with records := s.segs.records.map fun x =>
              if x.number = n then { x with guest := new } else x }
            channel := if expired then s.channel else s.channel.frameOver
            motion := t.motion, group := t.group
            host := { s.host with events := t.host.events } } ∧
          (guestZoneOf new = guestZoneOf r.guest → t.motion = s.motion ∧ t.group = s.group ∧ t.host = s.host) ∧
          (guestZoneOf new ≠ guestZoneOf r.guest →
            (s.motion.state ≠ .run → s.motion.state ≠ .caution → t.motion = s.motion ∧ t.group = s.group ∧
              t.host.events = s.withEvents [.peerGuest n (guestZoneOf new) source cell expired]) ∧
            (s.motion.state = .run ∨ s.motion.state = .caution →
              t.host.events = s.withEvents (.peerGuest n (guestZoneOf new) source cell expired ::
                if t.motion.state = s.motion.state then [] else
                  [.motion s.motion.state t.motion.state (if t.cautionCause then .cautionOn else .cautionOff)
                    t.motion.ceiling s.currentSegment FaultSet.empty]) ∧
              t.motion.state = (if t.cautionCause then .caution else .run) ∧
              t.motion.ceiling = (if t.cautionCause ∧ s.motion.state = .run then
                min s.motion.ceiling s.station.config.crawl else s.motion.ceiling)))

/-! ## Claims -/

/-- REQUEST_CLAIM in ACTIVE without a pending Leave. A segment outside 1..4000 or an unlisted intent is refused first. A
segment that has an own record is refused with its values, a full table is refused; with a stronger view entry the claim
is DENIED at once, naming the strongest, one deferral more; otherwise the record is QUEUED and its NEW CLAIM frame
queued, at priority value 3. Where the queue takes no frame of that priority value the claim ends STALE at once: the
record is gone, its event is posted, and the reply says so; the outcome sets the unheard count back (R16; log 10). The
rank is that of R69, from the urgency, the intent and the deferrals (R23, R68 to R71, R74, R75, R78, R188). -/
def Obligations.RequestClaimRanksAndQueues : Prop :=
  ∀ (n code urgency : Nat) (s : State), s.station.state = .active → s.host.heldSel = false →
    s.station.leavePending = false →
    ((n = 0 ∨ 4000 < n ∨ 2 < code) → exec (.requestClaim n code urgency) s = .next (s.answered [0x02])) ∧
    ∀ (i : Intent) (rank : Nat), 1 ≤ n → n ≤ 4000 → intentOf code = some i →
    rank = 1 + (3 - min 3 urgency) * 64 + intentCode i * 16 + (15 - min 15 s.claims.deferrals) →
    (∀ r, s.claims.own.find? (·.segment == n) = some r →
      exec (.requestClaim n code urgency) s = .next (s.answered [0x04, BitVec.ofNat 8 (intentCode r.intent),
        BitVec.ofNat 8 r.rank, BitVec.ofNat 8 (claimStateCode r.state)])) ∧
    (s.claims.own.find? (·.segment == n) = none →
      (4 ≤ s.claims.own.length → exec (.requestClaim n code urgency) s = .next (s.answered [0x03])) ∧
      (s.claims.own.length < 4 → (∃ v, s.TellsAgainst n i rank v) → ∃ v, s.TellsAgainst n i rank v ∧
        (∀ w, s.TellsAgainst n i rank w → v.rank * 256 + v.holder ≤ w.rank * 256 + w.holder) ∧
        exec (.requestClaim n code urgency) s = .next { s with
          claims := { s.claims with deferrals := min 255 (s.claims.deferrals + 1) }
          host := { s.host with
            events := s.withEvents [.claim n i rank .denied false (some (v.holder, v.rank))]
            reply := some [0x00, 3, BitVec.ofNat 8 rank, BitVec.ofNat 8 v.holder] } }) ∧
      (s.claims.own.length < 4 → (∀ v, ¬ s.TellsAgainst n i rank v) →
        (s.channel.queue.length < 8 → ∃ t, exec (.requestClaim n code urgency) s = .next (endOfStep t) ∧
          t = { s with
            channel := t.channel
            claims := { s.claims with
              own := s.claims.own ++ [⟨n, i, min 3 urgency, rank, .queued, .new, none, false, 0⟩] }
            host := { s.host with reply := some [0x00, 0, BitVec.ofNat 8 rank, 0] } } ∧
          Queues .claims (.claim n (intentCode i) rank 0) s t ∧
          ∃ q ∈ t.channel.queue, q.entry = s.channel.nextEntry ∧ q.priority = 3) ∧
        (8 ≤ s.channel.queue.length → s.QueueInOrder →
          (∀ q ∈ s.channel.queue, q.priority ≤ 3 ∨ s.channel.flight.map (·.entry) = some q.entry) →
          (∀ q ∈ s.channel.queue, ∀ j k m, q.payload ≠ .claim n j k m) →
          exec (.requestClaim n code urgency) s = .next (endOfStep { s with
            channel := { s.channel with unheardCount := quietCount s.channel.unheardCount }
            host := { s.host with
              events := s.withEvents [.claim n i rank .stale false none]
              reply := some [0x00, 4, BitVec.ofNat 8 rank, 0] } }))))

/-- RELEASE_CLAIM in ACTIVE or SILENT. Without a record it is refused; a QUEUED record ends RELEASED and its frame is
withdrawn, in flight too: then nothing is in flight, and condition and assembler go on with what they hear, to the end
of a frame keyed whole (R10, R25; log 38); a CONTESTING one waits for its contest; a HOLDING one that is occupied is
refused, and one that is not sends a RELEASE frame and ends RELEASED (R73, R92, R93). -/
def Obligations.ReleaseClaimByState : Prop :=
  ∀ (n : Nat) (s : State), s.station.state = .active ∨ s.station.state = .silent → s.host.heldSel = false →
    (s.claims.own.find? (·.segment == n) = none → exec (.releaseClaim n) s = .next (s.answered [0x06])) ∧
    ∀ r, s.claims.own.find? (·.segment == n) = some r →
      (r.state = .queued → ∃ t, exec (.releaseClaim n) s = .next (endOfStep t) ∧
        t = { s with
          channel := { s.channel with queue := t.channel.queue, flight := t.channel.flight, echo := t.channel.echo }
          claims := { s.claims with own := s.claims.own.filter fun x => !(x.segment == n) }
          host := { s.host with
            events := s.withEvents [.claim n r.intent r.rank .released false none], reply := some [0x00, 0] } } ∧
        (∀ q, q ∈ t.channel.queue ↔ q ∈ s.channel.queue ∧ ∀ i k m, q.payload ≠ .claim n i k m) ∧
        (s.channel.flight = none → t.channel.flight = none ∧ t.channel.echo = s.channel.echo) ∧
        ∀ f q, s.QueueInOrder → s.Flying f q → s.FlightWithdrawn f (∃ i k m, q.payload = .claim n i k m) t) ∧
      (r.state = .contesting → exec (.releaseClaim n) s = .next (endOfStep { s with
        claims := { s.claims with own := s.claims.own.map fun x =>
          if x.segment = n then { x with releasePending := true } else x }
        host := { s.host with reply := some [0x00, 1] } })) ∧
      (r.state = .holding → s.odo.entry.map (·.segment) = some n → s.motion.state ≠ .idle →
        exec (.releaseClaim n) s = .next (s.answered [0x07])) ∧
      (r.state = .holding → (s.odo.entry.map (·.segment) ≠ some n ∨ s.motion.state = .idle) →
        s.channel.queue.length < 8 → ∃ t, exec (.releaseClaim n) s = .next (endOfStep t) ∧
        t = { s with
          channel := t.channel
          claims := { s.claims with own := s.claims.own.filter fun x => !(x.segment == n) }
          host := { s.host with
            events := s.withEvents [.claim n r.intent r.rank .released false none], reply := some [0x00, 0] } } ∧
        (∃ q ∈ t.channel.queue, q.payload = .release n ∧ q.age = 0 ∧ q.owner = .claims) ∧
        ∀ q ∈ t.channel.queue, ∀ i k m, q.payload ≠ .claim n i k m)

/-- The gap of a frame of another station, which the two commands are (log 27): the channel is BUSY, the idle count 0
and the assembler in GAP, for every hearer (R3, R10). OBJECTION: an own record with a conflicting intent answers with
its rank, 0 where it is occupied, and the station number; an unsound frame, or one without a conflicting own record,
is not answered. ACKNOWLEDGEMENT: a sound CALLOUT whose distance is above this station's own and whose hop count is
below 12 is answered with the distance and the station number by one that may accept it, and by no other. A frame with
this station's own number is not answered. The value is keyed in ACTIVE, on a channel that is not JAMMED, with no
seize being keyed; otherwise none is; that this is looked at once, as the gap begins, is the model's choice (log 49;
R19, R73, R80, R81, R175, R176). -/
def Obligations.ResponsesInTheGap : Prop :=
  ∀ (c : Instr) (sender : Nat) (s : State),
    ((∃ n code rank mode, c = .objection sender n code rank mode) ∨
      ∃ origin seq code n cell hop distance detail,
        c = .acknowledgement sender origin seq code n cell hop distance detail) →
    ((s.station.state = .offline ∨ sender = 0 ∨ 254 < sender) → exec c s = .next s) ∧
    ∀ value : Option Nat, s.station.state ≠ .offline → 1 ≤ sender → sender ≤ 254 →
      ((sender = s.station.config.station ∧ value = none) ∨
      (∃ n code i rank mode r, c = .objection sender n code rank mode ∧ sender ≠ s.station.config.station ∧
        1 ≤ n ∧ n ≤ 4000 ∧ 1 ≤ rank ∧ rank ≤ 240 ∧
        mode ≤ 1 ∧ intentOf code = some i ∧ s.claims.own.find? (·.segment == n) = some r ∧
        conflicts r.intent i = true ∧
        value = some ((if r.state = .holding ∧ s.odo.entry.map (·.segment) = some r.segment ∧ s.motion.state ≠ .idle
          then 0 else r.rank) * 256 + s.station.config.station)) ∨
      (∃ n code rank mode, c = .objection sender n code rank mode ∧ value = none ∧
        (n = 0 ∨ 4000 < n ∨ rank = 0 ∨ 240 < rank ∨ 1 < mode ∨ 2 < code ∨
          ∀ i r, intentOf code = some i → s.claims.own.find? (·.segment == n) = some r → conflicts r.intent i = false)) ∨
      (∃ origin seq code n cell hop distance detail,
        c = .acknowledgement sender origin seq code n cell hop distance detail ∧ sender ≠ s.station.config.station ∧
        1 ≤ origin ∧ origin ≤ 254 ∧
        1 ≤ code ∧ code ≤ 8 ∧ n ≤ 4000 ∧ cell ≤ 63 ∧ hop < 12 ∧ distance ≤ 15 ∧
        s.station.leavePending = false ∧ s.station.distance < distance ∧ origin ≠ s.station.config.station ∧
        (s.isDepot = true ∨ s.callout.relay.length < 8 ∨ (∃ e ∈ s.callout.relay, e.origin = origin ∧ e.seq = seq) ∨
          ∃ p ∈ s.callout.recent, p.origin = origin ∧ p.seq = seq) ∧
        value = some (s.station.distance * 256 + s.station.config.station)) ∨
      (∃ origin seq code n cell hop distance detail,
        c = .acknowledgement sender origin seq code n cell hop distance detail ∧ value = none ∧
        (origin = 0 ∨ 254 < origin ∨ code = 0 ∨ 8 < code ∨ 4000 < n ∨ 63 < cell ∨ 12 ≤ hop ∨ 15 < distance ∨
          s.station.leavePending = true ∨ distance ≤ s.station.distance ∨ 15 ≤ s.station.distance ∨
          origin = s.station.config.station ∨
          (s.isDepot = false ∧ 8 ≤ s.callout.relay.length ∧
            (∀ e ∈ s.callout.relay, ¬ (e.origin = origin ∧ e.seq = seq)) ∧
            ∀ p ∈ s.callout.recent, ¬ (p.origin = origin ∧ p.seq = seq))))) →
      ∀ keyed, ((s.station.state = .active ∧ s.channel.condition ≠ .jammed ∧ s.channel.seizeLeft = 0 ∧ keyed = value) ∨
          ((s.station.state ≠ .active ∨ s.channel.condition = .jammed ∨ s.channel.seizeLeft ≠ 0) ∧ keyed = none)) →
        exec c s = .next { s with channel := { s.channel with
          condition := if s.channel.condition = .jammed then .jammed else .busy, idleCount := 0, assembler := .gap,
          symbol := 0, response := keyed, echo := false, abandoned := none, run := if s.channel.seizeLeft = 0 then 0 else s.channel.run,
          runCounted := s.channel.seizeLeft != 0 && s.channel.runCounted } }

/-- CLAIM and RELEASE heard. A sound claim whose value is below the sensed value stands: it is in the view for 60 s,
every other entry of its segment that conflicts is gone, a full view of 32 having given up the entry with the earliest
expiry, and a conflicting own record ends, its CLAIM frame withdrawn: DENIED before it holds, YIELDED while it holds
and is not occupied, not at all while it is occupied. Any other CLAIM, an unsound one among them, and one in whose
field a seize took this station's response with every symbol up to then sensed as keyed, only ends its frame; where one
was not, the response had lost before the seize, and the claim is acted on. RELEASE removes its sender's entry; an
unsound one only ends its frame (R18, R20, R80, R82, R83, R89, R90). -/
def Obligations.OtherStationsClaims : Prop :=
  ∀ (sender n : Nat) (s : State), s.delivers sender →
    ((n = 0 ∨ 4000 < n) → exec (.release sender n) s = .next (endOfStep { s with channel := s.channel.frameOver })) ∧
    (∀ code rank mode sensed, (n = 0 ∨ 4000 < n ∨ intentOf code = none ∨ rank = 0 ∨ 240 < rank ∨ 1 < mode) →
      exec (.claim sender n code rank mode sensed) s = .next (endOfStep { s with channel := s.channel.frameOver })) ∧
    (1 ≤ n → n ≤ 4000 →
    exec (.release sender n) s = .next (endOfStep { s with
      channel := s.channel.frameOver
      claims := { s.claims with view := s.claims.view.filter fun v => !(v.segment == n && v.holder == sender) } }) ∧
    ∀ (code rank mode sensed : Nat) (i : Intent), intentOf code = some i → 1 ≤ rank → rank ≤ 240 → mode ≤ 1 →
      (sensed ≤ rank * 256 + sender → exec (.claim sender n code rank mode sensed) s =
        .next (endOfStep { s with channel := s.channel.frameOver })) ∧
      (∀ a, s.channel.abandoned = some a →
        (responseSymbols a.value).take (a.symbol - 4) = (responseSymbols sensed).take (a.symbol - 4) →
        exec (.claim sender n code rank mode sensed) s = .next (endOfStep { s with channel := s.channel.frameOver })) ∧
      (rank * 256 + sender < sensed → (∀ a, s.channel.abandoned = some a →
        (responseSymbols a.value).take (a.symbol - 4) ≠ (responseSymbols sensed).take (a.symbol - 4)) → ∀ kept, kept = s.claims.view.filter
          (fun v => !(v.segment == n && (v.holder == sender || conflicts v.intent i))) → ∃ t,
        exec (.claim sender n code rank mode sensed) s = .next (endOfStep t) ∧
        ((kept.length < 32 ∨ ∃ v ∈ s.claims.view, v.segment = n ∧ v.holder = sender) →
          t.claims.view = kept ++ [⟨n, sender, i, rank, s.station.clock + 60⟩]) ∧
        (32 ≤ kept.length → (∀ v ∈ s.claims.view, ¬ (v.segment = n ∧ v.holder = sender)) →
          ∀ l v l', kept = l ++ v :: l' → (∀ x ∈ l, v.expiry < x.expiry) → (∀ x ∈ l', v.expiry ≤ x.expiry) →
            t.claims.view = l ++ l' ++ [⟨n, sender, i, rank, s.station.clock + 60⟩]) ∧
        ((∀ r, s.claims.own.find? (·.segment == n) = some r → conflicts r.intent i = false ∨
            (r.state = .holding ∧ s.odo.entry.map (·.segment) = some n ∧ s.motion.state ≠ .idle)) →
          t = { s with channel := s.channel.frameOver, claims := { s.claims with view := t.claims.view } }) ∧
        ∀ r, s.claims.own.find? (·.segment == n) = some r → conflicts r.intent i = true →
          t.station = s.station ∧ t.segs = s.segs ∧ t.odo = s.odo ∧ t.group = s.group ∧ t.dosing = s.dosing ∧
          t.callout = s.callout ∧
          ((r.state ≠ .holding ∨ s.odo.entry.map (·.segment) ≠ some n ∨ s.motion.state = .idle) →
            ∀ q, q ∈ t.channel.queue ↔ q ∈ s.channel.queue ∧ ∀ i k m, q.payload ≠ .claim n i k m) ∧
          (r.state ≠ .holding →
            t.claims = { t.claims with
              own := s.claims.own.filter (fun x => !(x.segment == n)), deferrals := min 255 (s.claims.deferrals + 1) } ∧
            t.host = { s.host with
              events := s.withEvents [.claim n r.intent r.rank .denied false (some (sender, rank))] } ∧
            t.motion = s.motion) ∧
          (r.state = .holding → (s.odo.entry.map (·.segment) ≠ some n ∨ s.motion.state = .idle) →
            t.claims = { t.claims with
              own := s.claims.own.filter (fun x => !(x.segment == n)), deferrals := s.claims.deferrals } ∧
            t.host = { s.host with
              events := s.withEvents [.claim n r.intent r.rank .yielded false (some (sender, rank))] } ∧
            t.motion = s.motion)))

/-- The times of claims. REFRESH: 20 s and 40 s after its last successful send a HOLDING record offers a REFRESH
frame, in ACTIVE without a pending Leave, each offer once; with a CLAIM frame of it still queued nothing is
offered, and the time has passed (log 22). LAPSE: 50 s after it a HOLDING record ends LAPSED, its REFRESH frame
withdrawn, in flight too, while condition and assembler stay (log 38); on the current segment of a robot that is
not IDLE this is CLAIM_LOST: FAULT_STOP with the ceiling at 0, its MOTION event, and the callout CLAIM_LOST with detail
256, LAPSED and no stronger station (R111, R129). CLAIM_VIEW_EXPIRY removes an entry at its expiry.
Before its time each command changes nothing (R85, R87, R88, R90, R132; log 3). -/
def Obligations.ClaimsInTime : Prop :=
  ∀ s : State,
    (∀ segment holder,
      ((∃ v ∈ s.claims.view, v.segment = segment ∧ v.holder = holder ∧ v.expiry ≤ s.station.clock) →
        exec (.claimViewExpiry segment holder) s = .next { s with claims := { s.claims with
          view := s.claims.view.filter fun w => !(w.segment == segment && w.holder == holder) } }) ∧
      ((∀ v ∈ s.claims.view, v.segment = segment → v.holder = holder → s.station.clock < v.expiry) →
        exec (.claimViewExpiry segment holder) s = .next s)) ∧
    ∀ (n : Nat) (r : OwnClaim) (at_ : Nat), s.claims.own.find? (·.segment == n) = some r →
    r.state = .holding → r.lastSend = some at_ →
    ((s.station.state ≠ .active ∨ s.station.leavePending = true ∨
        (¬ (s.station.clock = at_ + 20 ∧ r.refreshesOffered = 0) ∧
          ¬ (s.station.clock = at_ + 40 ∧ r.refreshesOffered ≤ 1))) → exec (.refresh n) s = .next s) ∧
    (∀ k, s.station.state = .active → s.station.leavePending = false →
      ((k = 1 ∧ s.station.clock = at_ + 20) ∨ (k = 2 ∧ s.station.clock = at_ + 40)) → r.refreshesOffered < k →
      (r.frame ≠ .none → exec (.refresh n) s = .next { s with claims := { s.claims with
        own := s.claims.own.map fun x => if x.segment = n then { x with refreshesOffered := k } else x } }) ∧
      (r.frame = .none → s.channel.queue.length < 8 → ∃ t, exec (.refresh n) s = .next (endOfStep t) ∧
        t = { s with
          channel := t.channel
          claims := { s.claims with own := s.claims.own.map fun x =>
            if x.segment = n then { x with frame := .refresh, refreshesOffered := k } else x } } ∧
        Queues .claims (.claim n (intentCode r.intent) r.rank 1) s t)) ∧
    (s.station.clock < at_ + 50 → exec (.lapse n) s = .next s) ∧
    (at_ + 50 ≤ s.station.clock → ∃ t, exec (.lapse n) s = .next (endOfStep t) ∧
      (∀ q ∈ t.channel.queue, ∀ i k m, q.payload ≠ .claim n i k m) ∧
      ((s.odo.entry.map (·.segment) ≠ some n ∨ s.motion.state = .idle) →
        t = { s with
          channel := { s.channel with queue := t.channel.queue, flight := t.channel.flight, echo := t.channel.echo }
          claims := { s.claims with own := s.claims.own.filter fun x => !(x.segment == n) }
          host := { s.host with events := s.withEvents [.claim n r.intent r.rank .lapsed false none] } } ∧
        (∀ q, q ∈ t.channel.queue ↔ q ∈ s.channel.queue ∧ ∀ i k m, q.payload ≠ .claim n i k m) ∧
        (s.channel.flight = none → t.channel.flight = none ∧ t.channel.echo = s.channel.echo) ∧
        ∀ f q, s.QueueInOrder → s.Flying f q → s.FlightWithdrawn f (∃ i k m, q.payload = .claim n i k m) t) ∧
      (s.odo.entry.map (·.segment) = some n → s.motion.state ≠ .idle →
        t.station = s.station ∧ t.segs = s.segs ∧ t.odo = s.odo ∧ t.motion.state = .faultStop ∧
        t.motion.ceiling = (if s.motion.state = .faultStop then s.motion.ceiling else 0) ∧
        t.motion.faults.claimLost = true ∧ t.permit = false ∧
        (∃ x ∈ t.host.events, x.event = .claim n r.intent r.rank .lapsed true none) ∧
        s.FaultShown .claimLost ⟨false, false, false, true⟩ { s.motion.faults with claimLost := true } t ∧
        (s.mayRaise → s.Raises 3 256 t)))

/-! ## Odometry -/

/-- Positions within a segment of L dm, 100..3200, at 100..20000 counts per metre: the accounting position is the counter
held within the segment's length in counts; its cell index is that position over a full cell's counts, is below the cell
count, is the last cell at the largest position, and is the position in mm over 5000; the position in mm is the exact
quotient rounded down, at most 319,999 (R101, R102). -/
def Obligations.PositionsWithinASegment : Prop :=
  ∀ (cfg : Configuration) (L : Nat) (counter : Int) (p : Nat), 100 ≤ L → L ≤ 3200 → 100 ≤ cfg.countsPerMetre →
    cfg.countsPerMetre ≤ 20000 → p = accounting (inCounts cfg L) counter →
    (counter < 0 → p = 0) ∧
    (0 ≤ counter → counter < (L * cfg.countsPerMetre / 10 : Nat) → (p : Int) = counter) ∧
    ((L * cfg.countsPerMetre / 10 : Nat) ≤ counter →
      p = L * cfg.countsPerMetre / 10 - 1 ∧ cellIndex cfg p = cellCount L - 1) ∧
    cellIndex cfg p = p / (5 * cfg.countsPerMetre) ∧ cellIndex cfg p < cellCount L ∧
    cellIndex cfg p = positionMm cfg p / 5000 ∧
    positionMm cfg p = p / cfg.countsPerMetre * 1000 + p % cfg.countsPerMetre * 1000 / cfg.countsPerMetre ∧
    positionMm cfg p = p * 1000 / cfg.countsPerMetre ∧ positionMm cfg p ≤ 319999

/-- ENTER_SEGMENT, from a ROBOT in ACTIVE without a pending Leave: refused, in order, for a number or direction out of
range, a segment without a record, one without a HOLDING claim, and in a motion state that does not allow it.
Accepted, the pass that was open is finalised, its result in its cell and in the report, which is flushed; the counter
is at the segment's start or end, the entry is new, and a pass opens on the start cell with the residual and the need
of that moment, its target the need where the salting conditions hold and 0 else; that a cell plowed again takes the
time now is the model's reading (log 44). The ceiling is held to the new speed limit. IDLE and RETAINED stay; RUN and
CAUTION change with the caution causes of the new segment; STOPPING with end IDLE drives on, with the cause ENTER, but
into GUEST_STOP with the latch set and GROUP_HOLD with a hold; with end GROUP_HOLD it goes on (R51, R53 to R58, R100,
R111, R114, R117, R118, R127, R150, R153, R154, R160). -/
def Obligations.EnterSegmentOpensAnEntry : Prop :=
  ∀ (n code : Nat) (s : State), s.isRobot = true → s.station.state = .active → s.station.leavePending = false →
    s.host.heldSel = false →
    ((n = 0 ∨ 4000 < n ∨ 1 < code) → exec (.enterSegment n code) s = .next (s.answered [0x02])) ∧
    (1 ≤ n → n ≤ 4000 → code ≤ 1 →
      (s.segs.records.find? (·.number == n) = none → exec (.enterSegment n code) s = .next (s.answered [0x05])) ∧
      ∀ r, s.segs.records.find? (·.number == n) = some r →
        (s.holds n = false → exec (.enterSegment n code) s = .next (s.answered [0x06])) ∧
        (s.holds n = true →
          ((s.motion.state = .guestStop ∨ s.motion.state = .groupHold ∨ s.motion.state = .faultStop ∨
            ((s.motion.state = .run ∨ s.motion.state = .caution ∨ s.motion.state = .stopping) ∧
              s.odo.entry.map (·.done) ≠ some true)) →
            exec (.enterSegment n code) s = .next (s.answered [0x01])) ∧
          ((s.motion.state = .idle ∨ s.motion.state = .retained ∨
            ((s.motion.state = .run ∨ s.motion.state = .caution ∨ s.motion.state = .stopping) ∧
              s.odo.entry.map (·.done) = some true)) → ∃ t, exec (.enterSegment n code) s = .next (endOfStep t) ∧
            t.host.reply = some [0x00] ∧ t.station = s.station ∧ t.dosing.stock = s.dosing.stock ∧
            t.group.holds = s.group.holds ∧ (s.odo.entry ≠ none → t.segs.report = none) ∧
            (∀ en ro x, s.odo.entry = some en → s.segs.records.find? (·.number == en.segment) = some ro →
              s.segs.pass = some x → PassRecorded s t ro x ∧
              ((∀ o v, s.claims.own.find? (·.segment == en.segment) = some o →
                  ¬ s.TellsAgainst en.segment o.intent o.rank v) → PassCompleted s t ro x)) ∧
            (∀ len cell, len = r.length * s.station.config.countsPerMetre / 10 →
              cell = (if code = 0 then 0 else (len - 1) / (5 * s.station.config.countsPerMetre)) →
              t.odo = { s.odo with
                position := if code = 0 then 0 else (len : Int)
                entry := some ⟨n, if code = 0 then .forward else .reverse, len, cell, false⟩ } ∧
              ∃ r' p, t.segs.records.find? (·.number == n) = some r' ∧ t.segs.pass = some p ∧ p.cell = cell ∧
                p.travel = 0 ∧ p.blade = 0 ∧ p.pulses = 0 ∧
                p.residual = residual s.station.config.residualWindow s.station.clock
                  (r'.cells.getD cell ⟨false, none, 0, none, false⟩) ∧
                t.dosing.need = s.station.config.doses.getD
                  (surfaceCode r.surface * 6 + tempBand (surfaceTemp s.station.clock r)) 0 - p.residual ∧
                (p.target = t.dosing.need ∨ p.target = 0) ∧
                ∀ o, s.channel.queue.length < 7 → s.claims.own.find? (·.segment == n) = some o →
                  p.target = if r.saltPermitted = true ∧ s.motion.warning = false ∧
                      s.station.config.feedCal ≤ s.dosing.stock ∧ o.intent ≠ .transit then t.dosing.need else 0) ∧
            ∀ c, c = min s.motion.ceiling r.speedLimit →
              t.motion.ceiling ≤ c ∧
              (s.motion.state = .idle ∨ s.motion.state = .retained ∨
                  (s.motion.state = .stopping ∧ s.motion.stopEnd = .groupHold) →
                t.motion = { s.motion with ceiling := c }) ∧
              (s.motion.state = .run ∨ s.motion.state = .caution →
                t.motion.state = (if t.cautionCause then .caution else .run) ∧
                t.motion.ceiling = (if t.cautionCause ∧ s.motion.state = .run then min c s.station.config.crawl else c) ∧
                (t.motion.state ≠ s.motion.state → ∃ x ∈ t.host.events, x.event = .motion s.motion.state t.motion.state
                  (if t.cautionCause then .cautionOn else .cautionOff) t.motion.ceiling (some n) FaultSet.empty)) ∧
              (s.motion.state = .stopping → s.motion.stopEnd = .idle →
                t.motion.state = (if s.motion.latch then .guestStop else if s.group.holds ≠ [] then .groupHold
                  else if t.cautionCause then .caution else .run) ∧
                t.motion.ceiling = (if s.motion.latch ∨ s.group.holds ≠ [] then 0
                  else if t.cautionCause then min c s.station.config.crawl else c) ∧
                ∃ x ∈ t.host.events, x.event = .motion .stopping t.motion.state
                  (if s.motion.latch then .guest else if s.group.holds ≠ [] then .hold else .enter) t.motion.ceiling
                  (some n) FaultSet.empty))))

/-- WHEEL_COUNT at a station whose decoder runs, for an edge that counts n. Without a current segment the counter
moves by n and nothing but the odometry unit changes. On a segment, in the cell it was in and short of completion,
the counter moves in the sense of the entry and the pass is charged its travel, and its blade count where BLADE is
active; entering another cell finalises the pass, its result in the cell left and in the pending report, and opens
a pass on the cell entered, charged with this count (a cell plowed again takes the time now, log 44); a flush
widens the youngest waiting PROGRESS frame that it belongs to, or queues one; completion sets the done flag,
finalises the pass, flushes the report, opens a fresh pass, charged with this count, posts SEGMENT_DONE and brings
RUN and CAUTION to STOPPING. An edge that does not count sets the lines alone (R52 to R58, R97, R98, R99, R103,
R105, R119, R160). -/
def Obligations.WheelCountsMoveTheRobot : Prop :=
  ∀ (e : Edge) (blade : Bool) (n : Int) (o : Odo) (s : State), n = edgeCount s.station.config.decodeMode e →
    o = { s.odo with
      lineA := if e.line = .a then e.rises else e.otherHigh, lineB := if e.line = .b then e.rises else e.otherHigh,
      blade := blade } →
    ((s.isRobot = false ∨ n = 0) → exec (.wheelCount e blade) s = .next { s with odo := o }) ∧
    (s.isRobot = true → n ≠ 0 →
      (s.odo.entry = none → exec (.wheelCount e blade) s = .next { s with
        odo := { o with net := s.odo.net + n, position := max (-2147483648) (min 2147483647 (s.odo.position + n)) } }) ∧
      ∀ en p cell, s.odo.entry = some en →
        p = max (-2147483648) (min 2147483647 (s.odo.position + (if en.direction = .forward then n else -n))) →
        cell = cellIndex s.station.config (accounting en.length p) →
        ((en.done = true ∨ (en.direction = .forward ∧ p < en.length) ∨ (en.direction = .reverse ∧ 0 < p)) →
          (cell = en.cell → exec (.wheelCount e blade) s = .next (endOfStep { s with
            odo := { o with net := s.odo.net + n, position := p }
            segs := { s.segs with pass := s.segs.pass.map fun x =>
              { x with
                travel := min 4294967295 (x.travel + 1)
                blade := if blade then min 4294967295 (x.blade + 1) else x.blade } } })) ∧
          (cell ≠ en.cell → ∀ r, s.segs.records.find? (·.number == en.segment) = some r → ∃ t,
            exec (.wheelCount e blade) s = .next (endOfStep t) ∧
            t.odo = { o with net := s.odo.net + n, position := p, entry := some { en with cell := cell } } ∧
            t.station = s.station ∧ t.motion = s.motion ∧ t.group = s.group ∧
            (s.channel.queue.length < 4 → t.claims = s.claims ∧ t.callout = s.callout) ∧
            (∃ x, t.segs.pass = some x ∧ x.cell = cell ∧ x.travel = 1 ∧ x.blade = (if blade then 1 else 0) ∧
              x.pulses = 0) ∧
            ∀ x, s.segs.pass = some x → PassFinalised s t r x)) ∧
        (en.done = false → ((en.direction = .forward ∧ (en.length : Int) ≤ p) ∨ (en.direction = .reverse ∧ p ≤ 0)) →
          ∃ t, exec (.wheelCount e blade) s = .next (endOfStep t) ∧
          t.odo = { o with net := s.odo.net + n, position := p, entry := some { en with cell := cell, done := true } } ∧
          t.station = s.station ∧ t.segs.report = none ∧
          (∀ r, s.segs.records.find? (·.number == en.segment) = some r →
            (∃ x, t.segs.pass = some x ∧ x.cell = cell ∧ x.travel = 1 ∧ x.blade = (if blade then 1 else 0) ∧
              x.pulses = 0) ∧
            ∀ x, cell = en.cell → s.segs.pass = some x → PassCompleted s t r x) ∧
          (s.channel.queue.length < 4 → t.claims = s.claims ∧ t.callout = s.callout) ∧
          (∃ x ∈ t.host.events, x.event = .segmentDone en.segment en.direction cell p) ∧
          ((s.motion.state = .run ∨ s.motion.state = .caution) →
            t.motion.state = .stopping ∧ t.motion.stopEnd = .idle ∧ t.motion.ceiling = s.motion.ceiling ∧
            t.motion.stopFrom = (if s.motion.state = .caution then .caution else .run)) ∧
          (s.motion.state ≠ .run → s.motion.state ≠ .caution → t.motion = s.motion)))

/-- DECODE_ERROR and SPEED_SAMPLE at a ROBOT. An error is counted; the eighth of a window raises the odometer fault,
with FAULT_STOP, its cause, and the callout ODOMETER with detail 0. A sample takes the speed from the net count of its
window, shows and clears the error count, and adds the ceiling to the history, and ends a STOPPING whose ceiling is 0
where it is below 20 mm/s; a third sample in a row above the largest of four ceilings and its margin, and a stuck
counter that reaches its threshold, are FAULT_STOP with their causes: overspeed raises no callout, the stuck test
raises STUCK with the ceiling as its detail. Each fault stop has its MOTION event (R107, R108, R111, R119, R129 to
R132). -/
def Obligations.SamplesAndFaults : Prop :=
  ∀ s : State, s.isRobot = true →
    ((s.odo.errors ≠ 7 ∨ s.odo.fault = true) → exec .decodeError s = .next { s with odo := { s.odo with
      lineA := !s.odo.lineA, lineB := !s.odo.lineB, errors := min 255 (s.odo.errors + 1) } }) ∧
    (s.odo.errors = 7 → s.odo.fault = false → ∃ t, exec .decodeError s = .next (endOfStep t) ∧
      t.odo = { s.odo with
        lineA := !s.odo.lineA, lineB := !s.odo.lineB, errors := 8, fault := true, faultFresh := true, faultWindows := 0 } ∧
      t.station = s.station ∧ t.segs = s.segs ∧ t.motion.state = .faultStop ∧ t.motion.faults.odometer = true ∧
      (s.motion.state ≠ .faultStop → t.motion.ceiling = 0 ∧ t.motion.overspeedRun = 0 ∧ t.motion.stuck = 0) ∧
      s.FaultShown .odometer ⟨false, false, true, false⟩ { s.motion.faults with odometer := true } t ∧
      (s.mayRaise → s.Raises 4 0 t)) ∧
    ∀ (v : Nat) (h : List Nat),
      v = (if s.station.config.countsPerMetre ≤ s.odo.net.natAbs then 4000
        else s.odo.net.natAbs * 4000 / s.station.config.countsPerMetre) →
      h = s.motion.history.drop 1 ++ [s.motion.ceiling] → ∃ t, exec .speedSample s = .next (endOfStep t) ∧
      t.odo.speed = v ∧ t.odo.net = 0 ∧ t.odo.errors = 0 ∧ t.odo.lastErrors = s.odo.errors ∧
      t.odo.sense = (if v = 0 then .none else if 0 < s.odo.net then .forward else .backward) ∧
      t.odo.position = s.odo.position ∧ t.odo.entry = s.odo.entry ∧ t.motion.history = h ∧
      t.station = s.station ∧ t.segs = s.segs ∧ t.dosing.stock = s.dosing.stock ∧
      (s.odo.fault = true → s.odo.faultFresh = false → s.odo.errors = 0 → 3 ≤ s.odo.faultWindows → t.odo.fault = false) ∧
      (s.odo.fault = true → (s.odo.faultFresh = true ∨ s.odo.errors ≠ 0 ∨ s.odo.faultWindows < 3) → t.odo.fault = true) ∧
      (s.motion.state ≠ .idle → s.motion.state ≠ .faultStop → s.motion.overspeedRun = 2 →
        h.foldl max 0 + max 100 (h.foldl max 0 / 8) < v →
        t.motion.state = .faultStop ∧ t.motion.faults.overspeed = true ∧ t.motion.ceiling = 0 ∧
        s.FaultShown .overspeed ⟨true, false, false, false⟩ ⟨true, false, false, false⟩ t ∧
        (s.motion.holdSent = false ∨ s.motion.state ≠ .guestStop → t.callout = s.callout)) ∧
      (s.permit = true → v < 20 → 100 ≤ s.motion.ceiling → s.motion.stuck < 40 →
        s.station.config.stuckThreshold ≤ s.motion.stuck + 1 →
        t.motion.state = .faultStop ∧ t.motion.faults.stuck = true ∧ t.motion.ceiling = 0 ∧
        s.FaultShown .stuck ⟨false, true, false, false⟩ ⟨false, true, false, false⟩ t ∧
        (s.mayRaise → s.Raises 2 s.motion.ceiling t)) ∧
      (s.motion.state = .stopping → s.motion.ceiling = 0 → v < 20 → t.motion.ceiling = 0 ∧
        t.motion.state = (match s.motion.stopEnd with
          | .idle => .idle
          | .groupHold => .groupHold)) ∧
      (s.motion.state = .stopping → (s.motion.ceiling ≠ 0 ∨ 20 ≤ v) →
        t.motion.state = .stopping ∨ t.motion.state = .faultStop) ∧
      (s.motion.state = .idle → t.motion = { s.motion with
        history := h
        stuck := match s.station.config.stuckDecrement with
          | .reset => 0
          | .by1 => s.motion.stuck - 1
          | .by2 => s.motion.stuck - 2
          | .by4 => s.motion.stuck - 4 })

/-! ## Motion -/

/-- START, ARM_START and STOP_ROUTE. START from IDLE with an empty hold set and a HOLDING claim on the current segment
leads to GUEST_STOP with the latch set, to CAUTION with a caution cause, and to RUN otherwise; from FAULT_STOP it
leads to IDLE once every cause has cleared, and is refused with the causes while the robot is not below 20 mm/s or the
odometer fault among them is still raised (their byte 0 in its unnamed bits, log 51); in every other motion state it
is refused. ARM_START from IDLE makes a robot of an echelon RETAINED, and is refused in every other motion state.
STOP_ROUTE, in SILENT too, ends the entry and the retained flag; what moved is STOPPING, what waited is IDLE. The
guest-blocked timer starts from 0 at GUEST_STOP alone (R115, R116, R117, R120, R125, R129, R133, R138; log 42). -/
def Obligations.MotionRequests : Prop :=
  ∀ s : State, s.isRobot = true → s.host.heldSel = false →
    (s.station.state = .active → s.station.leavePending = false →
      (s.motion.state ≠ .idle →
        exec .armStart s = .next (s.answered [0x01]) ∧
        (s.motion.state ≠ .faultStop → exec .start s = .next (s.answered [0x01]))) ∧
      (s.motion.state = .idle →
        (s.group.holds ≠ [] → exec .start s = .next (s.answered [0x08]) ∧ exec .armStart s = .next (s.answered [0x08])) ∧
        (s.group.holds = [] → (∀ n, s.odo.entry.map (·.segment) = some n → s.holds n = false) →
          exec .start s = .next (s.answered [0x06]) ∧ exec .armStart s = .next (s.answered [0x06])) ∧
        ∀ n, s.group.holds = [] → s.odo.entry.map (·.segment) = some n → s.holds n = true →
          (∀ (new : MotionState) (k : MotionCause) (v : Nat),
            new = (if s.motion.latch then .guestStop else if s.cautionCause then .caution else .run) →
            k = (if s.motion.latch then .guest else .start) →
            v = (if s.motion.latch then 0 else if s.cautionCause then min s.motion.ceiling s.station.config.crawl
              else s.motion.ceiling) →
            exec .start s = .next (endOfStep { s with
              motion := { s.motion with
                state := new, ceiling := v, faults := FaultSet.empty
                guestBlockedMs := if s.motion.latch then 0 else s.motion.guestBlockedMs
                guestBlockedRaised := s.motion.guestBlockedRaised && !s.motion.latch }
              group := { s.group with retained := s.group.retained && s.motion.latch }
              host := { s.host with
                events := s.withEvents [.motion .idle new k v (some n) FaultSet.empty], reply := some [0x00] } })) ∧
          (s.station.config.group = 0 → exec .armStart s = .next (s.answered [0x01])) ∧
          (s.station.config.group ≠ 0 → exec .armStart s = .next (endOfStep { s with
            motion := { s.motion with state := .retained, ceiling := 0, faults := FaultSet.empty }
            group := { s.group with retained := true }
            host := { s.host with
              events := s.withEvents [.motion .idle .retained .arm 0 (some n) FaultSet.empty]
              reply := some [0x00] } }))) ∧
      (s.motion.state = .faultStop →
        ((20 ≤ s.odo.speed ∧ s.motion.faults ≠ FaultSet.empty) ∨ (s.motion.faults.odometer = true ∧ s.odo.fault = true) →
          exec .start s = .next (s.answered [0x01, BitVec.ofNat 8 (faultByte s.motion.faults)])) ∧
        (s.odo.speed < 20 → (s.motion.faults.odometer = true → s.odo.fault = false) → ∃ t,
          exec .start s = .next (endOfStep t) ∧ t.motion.state = .idle ∧ t.motion.ceiling = 0 ∧
          t.motion.faults = FaultSet.empty ∧ t.motion.overspeedRun = 0 ∧ t.host.reply = some [0x00] ∧
          t.station = s.station ∧ t.segs = s.segs ∧ t.odo = s.odo ∧ t.dosing = s.dosing ∧ t.callout = s.callout))) ∧
    ((s.station.state = .active ∨ s.station.state = .silent) → ∃ t, exec .stopRoute s = .next (endOfStep t) ∧
      t.host.reply = some [0x00] ∧ t.odo = { s.odo with entry := none } ∧
      t.station = s.station ∧ t.dosing.stock = s.dosing.stock ∧
      t.group = { s.group with retained := false } ∧ t.permit = false ∧
      ((s.motion.state = .run ∨ s.motion.state = .caution) →
        t.motion.state = .stopping ∧ t.motion.stopEnd = .idle ∧ t.motion.ceiling = s.motion.ceiling) ∧
      (s.motion.state = .stopping → t.motion = { s.motion with stopEnd := .idle }) ∧
      ((s.motion.state = .retained ∨ s.motion.state = .groupHold) → t.motion.state = .idle ∧ t.motion.ceiling = 0) ∧
      ((s.motion.state = .idle ∨ s.motion.state = .guestStop ∨ s.motion.state = .faultStop) → t.motion = s.motion))

/-- RAMP_STEP: the ceiling moves toward the target by one step of the configured acceleration or deceleration, and not
past it; STOPPING ends where the ceiling is 0 and the measured speed below 20 mm/s. The target is 0 in STOPPING,
the speed limit or the lower salt limit in RUN, and the crawl speed at most in CAUTION (R113, R114, R119). PERMIT
is on in RUN, CAUTION and STOPPING while the own claim on the current segment is HOLDING, and off else (R112). -/
def Obligations.RampStepMovesTheCeiling : Prop :=
  ∀ (s : State) (c : Nat),
    (s.permit = true ↔
      (s.motion.state = .run ∨ s.motion.state = .caution ∨ s.motion.state = .stopping) ∧
      ∃ n r, s.odo.entry.map (·.segment) = some n ∧ s.claims.own.find? (·.segment == n) = some r ∧
        r.state = .holding) ∧
    (c = (if s.motion.ceiling < s.target then min s.target (s.motion.ceiling + s.station.config.accel)
      else max s.target (s.motion.ceiling - s.station.config.decel)) →
    ((s.motion.state ≠ .stopping ∨ c ≠ 0 ∨ 20 ≤ s.odo.speed) →
      exec .rampStep s = .next (endOfStep { s with motion := { s.motion with ceiling := c } })) ∧
    (s.motion.state = .stopping → c = 0 → s.odo.speed < 20 → ∃ t, exec .rampStep s = .next (endOfStep t) ∧
      t.station = s.station ∧ t.segs = s.segs ∧ t.odo = s.odo ∧ t.dosing = s.dosing ∧ t.callout = s.callout ∧
      t.motion.ceiling = 0 ∧
      t.motion.state = (match s.motion.stopEnd with
        | .idle => .idle
        | .groupHold => .groupHold)) ∧
    (s.motion.state = .stopping → s.target = 0) ∧
    ∀ n r, s.odo.entry.map (·.segment) = some n → s.segs.records.find? (·.number == n) = some r →
      (s.motion.state = .run → s.dosing.active = false → s.target = r.speedLimit) ∧
      (∀ v, s.motion.state = .run → s.dosing.active = true → s.dosing.vSalt = some v → s.target = min v r.speedLimit) ∧
      (s.motion.state = .caution → s.target ≤ s.station.config.crawl ∧ s.target ≤ r.speedLimit))

/-- SCANNER_SAMPLE. At a station that is no ROBOT the lines alone take their levels. At a ROBOT the warning counter
goes up by one with WARN_FIELD active, to the threshold at most, where the warning is entered, and down by the
decrement mode without, the warning ending at 0; with no rising PROT_FIELD and no change of the warning nothing else
happens, but that an active PROT_FIELD in GUEST_STOP raises a GUEST_BLOCKED that is due. A change of the warning brings
the zone, with its event, the notice interval from 0, and caution up to date. PROT_FIELD rising asks for a seize, in ACTIVE 48 symbols, and sets a clear latch.
The seize takes the response from a field that is going on, its value and the symbols passed being kept to tell one that
had lost before (the model's reading, log 26); one whose field has ended stands, and one that waits in the gap is not
keyed. The zone is then PROTECTIVE, with its event, a notice and the notice
interval from 0; a callout GUEST_BLOCKED that is due is raised. RUN, CAUTION, STOPPING and GROUP_HOLD become GUEST_STOP with the cause GUEST and the ceiling at 0,
the guest-blocked timer starts from 0, and where the configuration says so in a group, the own hold is raised,
IMMEDIATE for GUEST, with its mark and flag and its HOLD frame; IDLE, RETAINED and FAULT_STOP stay, with no hold (R18,
R111, R121 to R127, R143, R144, R168). That WARN_FIELD is taken first is the model's reading (log 17). -/
def Obligations.ScannerSamples : Prop :=
  ∀ (warn prot : Bool) (s : State),
    (s.isRobot = false → exec (.scannerSample warn prot) s = .next { s with
      motion := { s.motion with warnLine := warn, protLine := prot } }) ∧
    (s.isRobot = true → ∀ (n : Nat) (w : Bool),
      n = (if warn then min s.station.config.warnThreshold (s.motion.warnCounter + 1) else
        match s.station.config.warnDecrement with
        | .reset => 0
        | .by1 => s.motion.warnCounter - 1
        | .by2 => s.motion.warnCounter - 2
        | .by4 => s.motion.warnCounter - 4) →
      w = (if s.station.config.warnThreshold ≤ n then true else if n = 0 then false else s.motion.warning) →
      (w = s.motion.warning → (prot = false ∨ s.motion.lastProt = true) →
        (prot = true → s.motion.state = .guestStop →
          s.motion.guestBlockedRaised = true ∨ s.motion.guestBlockedMs < 120000) →
        exec (.scannerSample warn prot) s = .next (endOfStep { s with
          motion := { s.motion with
            warnLine := warn, protLine := prot, warnCounter := n, lastProt := prot,
            restartMs := if warn || prot then 0 else s.motion.restartMs } })) ∧
      (w ≠ s.motion.warning → (prot = false ∨ s.motion.lastProt = true) →
        (prot = true → s.motion.state = .guestStop →
          s.motion.guestBlockedRaised = true ∨ s.motion.guestBlockedMs < 120000) →
        ∃ t, exec (.scannerSample warn prot) s = .next (endOfStep t) ∧
        t.station = s.station ∧ t.segs = s.segs ∧ t.odo = s.odo ∧ t.dosing = s.dosing ∧
        t.motion.warning = w ∧ t.motion.warnCounter = n ∧ t.motion.latch = s.motion.latch ∧
        t.motion.lastProt = prot ∧ t.motion.restartMs = (if warn || prot then 0 else s.motion.restartMs) ∧
        (s.motion.latch = false → t.motion.noticeMs = 0 ∧ ∃ x ∈ t.host.events, x.event =
          .guestZone (if w then .warning else .clear) (if w then .clear else .warning)
            (s.odo.entry.map fun e => (e.segment, e.cell))) ∧
        (s.motion.latch = true → t.channel = s.channel) ∧
        (s.motion.state = .run ∨ s.motion.state = .caution →
          t.motion.state = (if w ∨ s.causePeer = true ∨ s.causeSeize = true then .caution else .run) ∧
          (t.motion.state = .caution → s.motion.state = .run →
            t.motion.ceiling = min s.motion.ceiling s.station.config.crawl)) ∧
        (s.motion.state ≠ .run → s.motion.state ≠ .caution → t.motion.state = s.motion.state)) ∧
      (prot = true → s.motion.lastProt = true → s.motion.state = .guestStop → s.motion.guestBlockedRaised = false →
        120000 ≤ s.motion.guestBlockedMs → ∃ t d, exec (.scannerSample warn prot) s = .next (endOfStep t) ∧
        t.station = s.station ∧ t.segs = s.segs ∧ t.odo = s.odo ∧ t.dosing = s.dosing ∧ t.group = s.group ∧
        t.motion = { s.motion with
          warnLine := warn, protLine := prot, warnCounter := n, warning := w, restartMs := 0,
          guestBlockedRaised := true, noticeMs := t.motion.noticeMs } ∧
        (w = s.motion.warning → t.motion.noticeMs = s.motion.noticeMs) ∧
        (s.motion.guestBlockedMs < 65536000 → d = s.motion.guestBlockedMs / 1000) ∧
        (s.mayRaise → s.Raises 1 d t)) ∧
      (prot = true → s.motion.lastProt = false → ∃ t, exec (.scannerSample warn prot) s = .next (endOfStep t) ∧
        t.station = s.station ∧ t.segs = s.segs ∧ t.odo = s.odo ∧ t.dosing = s.dosing ∧
        t.motion.latch = true ∧ t.zone = .protective ∧ t.motion.lastProt = true ∧ t.motion.restartMs = 0 ∧
        (s.station.state = .active → t.channel.seizeLeft = 48 ∧
          (s.channel.assembler = .response → s.channel.symbol < 36 → t.channel.response = none ∧
            (∀ v, s.channel.response = some v → t.channel.abandoned = some ⟨v, s.channel.symbol⟩) ∧
            (s.channel.response = none → t.channel.abandoned = s.channel.abandoned)) ∧
          (s.channel.assembler = .response → 36 ≤ s.channel.symbol →
            t.channel.response = s.channel.response ∧ t.channel.abandoned = s.channel.abandoned) ∧
          (s.channel.assembler ≠ .response →
            t.channel.response = none ∧ t.channel.abandoned = s.channel.abandoned)) ∧
        (s.station.state ≠ .active → t.channel.seizeLeft = s.channel.seizeLeft) ∧
        (s.motion.state = .guestStop → s.motion.latch = true → s.motion.guestBlockedRaised = false →
          120000 ≤ s.motion.guestBlockedMs → t.motion.guestBlockedRaised = true ∧ ∃ d,
            (s.motion.guestBlockedMs < 65536000 → d = s.motion.guestBlockedMs / 1000) ∧
            (s.mayRaise → s.Raises 1 d t)) ∧
        (s.motion.latch = false →
          t.motion.noticeMs = 0 ∧
          (∃ x ∈ t.host.events, x.event = .guestZone .protective (if w then .warning else .clear)
            (s.odo.entry.map fun e => (e.segment, e.cell))) ∧
          (s.station.state ≠ .offline → s.channel.queue.length < 6 → s.QueueInOrder → ∃ q ∈ t.channel.queue,
            q.payload = .guest s.herePair.1 s.herePair.2 2 ∧ t.channel.flight.map (·.entry) ≠ some q.entry) ∧
          ((s.motion.state = .run ∨ s.motion.state = .caution ∨ s.motion.state = .stopping ∨
              s.motion.state = .groupHold) →
            t.motion.state = .guestStop ∧ t.motion.ceiling = 0 ∧ t.permit = false ∧ t.motion.guestBlockedMs = 0 ∧
            t.motion.guestBlockedRaised = false ∧
            (w = s.motion.warning → ∃ x ∈ t.host.events,
              x.event = .motion s.motion.state .guestStop .guest 0 s.currentSegment FaultSet.empty) ∧
            (s.station.config.sendHold = true → s.station.config.group ≠ 0 →
              t.motion.holdSent = true ∧ t.group.guestMark = true ∧
              (s.ownHold? = none → s.group.holds.length < 8 →
                t.group.holds = s.group.holds ++
                  [⟨s.station.config.station, .immediate, .guest, none, s.group.nextStamp⟩] ∧
                t.group.repeatMs = 0 ∧
                (∃ x ∈ t.host.events, x.event =
                  .holdAdded s.station.config.station .immediate .guest (s.group.holds.length + 1)) ∧
                (s.station.state = .active → s.station.leavePending = false → s.channel.queue.length < 6 →
                  ∃ q ∈ t.channel.queue, q.payload = .hold s.station.config.group 0 0)) ∧
              (s.ownHold? ≠ none → ∃ h ∈ t.group.holds,
                h.originator = s.station.config.station ∧ h.holdType = .immediate ∧ h.reason = .guest)) ∧
            ((s.station.config.sendHold = false ∨ s.station.config.group = 0) →
              t.motion.holdSent = s.motion.holdSent ∧ t.group.guestMark = s.group.guestMark ∧
              t.group.holds = s.group.holds)) ∧
          ((s.motion.state = .idle ∨ s.motion.state = .retained ∨ s.motion.state = .faultStop) →
            t.motion.state = s.motion.state ∧ t.motion.holdSent = s.motion.holdSent ∧ t.group = s.group))))

/-- The timers of the scanner. GUEST_CLEARED clears the latch, with the event of the zone; a robot in GUEST_STOP first
ends the hold it sent for the guest, whose entry goes, with a RESUME queued, unless the host's mark keeps it, and then
goes to IDLE with manual restart or no current segment, to RETAINED if armed and not held, to GROUP_HOLD if held, else
to CAUTION or RUN; any other robot keeps its state. That the restart timer is then 0 is the model's choice (log 52). GUEST_BLOCKED raises the callout once, if PROT_FIELD is active.
NOTICE_INTERVAL offers a notice while the zone is not CLEAR. SEIZE_CAUTION_PERIOD ends its cause (R123, R124, R125, R126,
R127, R128, R143, R168). -/
def Obligations.ScannerTimers : Prop :=
  ∀ s : State,
    (s.motion.latch = true → s.motion.lastProt = false → s.motion.warning = false → ∃ t,
      exec .guestCleared s = .next (endOfStep t) ∧ t.motion.latch = false ∧ t.zone = .clear ∧ t.motion.restartMs = 0 ∧
      t.motion.noticeMs = 0 ∧ t.station = s.station ∧ t.segs = s.segs ∧ t.odo = s.odo ∧ t.dosing = s.dosing ∧
      (s.channel.queue.length < 7 → ∃ x ∈ t.host.events, x.event =
        .guestZone .clear .protective (s.odo.entry.map fun e => (e.segment, e.cell))) ∧
      (s.motion.state ≠ .guestStop → t.motion.state = s.motion.state ∧ t.motion.ceiling = s.motion.ceiling ∧
        t.group = s.group) ∧
      (s.motion.state = .guestStop → t.motion.holdSent = false ∧
        (s.motion.holdSent = false → t.group.holds = s.group.holds) ∧
        (s.motion.holdSent = true → t.group.guestMark = false ∧
          (s.group.hostMark = none →
            t.group.holds = s.group.holds.filter (fun h => !(h.originator == s.station.config.station)) ∧
            (s.station.state ≠ .offline → s.channel.queue.length < 7 → ∃ q ∈ t.channel.queue,
              q.payload = .resume s.station.config.group ∧ q.age = 0 ∧ q.owner = .group)) ∧
          (s.group.hostMark ≠ none → t.group.holds.map (·.originator) = s.group.holds.map (·.originator))) ∧
        t.motion.state = (if s.station.config.manualRestart = true ∨ s.odo.entry = none then .idle
        else if s.group.retained = true ∧ t.group.holds = [] then .retained
        else if t.group.holds ≠ [] then .groupHold
        else if s.cautionCause then .caution else .run))) ∧
    (s.isRobot = true → s.motion.state = .guestStop → s.motion.guestBlockedRaised = false →
      (s.motion.lastProt = false → exec .guestBlocked s = .next { s with
        motion := { s.motion with guestBlockedMs := max s.motion.guestBlockedMs 120000 } }) ∧
      (s.motion.lastProt = true → s.station.state = .active → s.callout.own.length < 4 →
        s.channel.queue.length < 8 → ∃ t, exec .guestBlocked s = .next (endOfStep t) ∧
        t.motion = { s.motion with
          guestBlockedMs := max s.motion.guestBlockedMs 120000, guestBlockedRaised := true } ∧
        t.station = s.station ∧ t.segs = s.segs ∧ t.claims = s.claims ∧ t.odo = s.odo ∧ t.group = s.group ∧
        t.dosing = s.dosing ∧ t.host = s.host ∧
        ∃ c, t.callout.own = s.callout.own ++ [c] ∧ c.code = 1 ∧ c.attempts = 0 ∧ c.retry = .queued ∧
          (c.segment, c.cell) = (s.odo.entry.map fun e => (e.segment, e.cell)).getD (0, 0) ∧
          (s.motion.guestBlockedMs < 65536000 → c.detail = max s.motion.guestBlockedMs 120000 / 1000))) ∧
    (s.motion.guestBlockedRaised = true → exec .guestBlocked s = .next s) ∧
    (s.zone ≠ .clear → s.hasRoom →
      (∀ q ∈ s.channel.queue, ∀ n k z, q.payload ≠ .guest n k z) → ∃ t, exec .noticeInterval s = .next (endOfStep t) ∧
        t = { s with motion := { s.motion with noticeMs := 0 }, channel := t.channel } ∧
        ∀ place, place = (s.odo.entry.map fun e => (e.segment, e.cell)).getD (0, 0) →
          Queues .motion (.guest place.1 place.2 (zoneCode s.zone)) s t) ∧
    (s.zone = .clear → exec .noticeInterval s = .next s) ∧
    (∀ m, s.motion.seizePeriod = some m → ∃ t, exec .seizeCautionPeriod s = .next (endOfStep t) ∧
      t.motion.seizePeriod = none ∧ t.station = s.station ∧ t.segs = s.segs ∧ t.claims = s.claims ∧ t.odo = s.odo ∧
      t.channel = s.channel ∧
      (s.motion.state = .caution → t.motion.state =
        (if s.motion.warning = true ∨ s.causePeer = true then .caution else .run) ∧
        t.motion.ceiling = s.motion.ceiling) ∧
      (s.motion.state ≠ .run → s.motion.state ≠ .caution →
        t = { s with motion := { s.motion with seizePeriod := none } }))

/-! ## Group -/

/-- A GO for the station's group, heard or sent by SEND_GO: a RETAINED robot enters GUEST_STOP with the latch set, else
CAUTION or RUN, and is armed no more, in GUEST_STOP too (log 12); an armed one that is held or stopped for a guest
ignores it, with the event; any other state stays. SEND_GO queues the frame first and replies with the motion state. A
GO for another group, or at a station of group 0, changes nothing (R117, R137, R138, R139). -/
def Obligations.GoReleasesTheRetained : Prop :=
  ∀ (c : Instr) (sender group : Nat) (s : State),
    ((c = .go sender group ∧ s.delivers sender) ∨ (c = .sendGo ∧ sender = s.station.config.station ∧
      group = s.station.config.group ∧ s.station.state = .active ∧ s.host.heldSel = false ∧
      s.station.leavePending = false ∧ group ≠ 0 ∧ s.channel.queue.length < 8)) →
    ((s.station.config.group = 0 ∨ group ≠ s.station.config.group) → exec c s = .next (endOfStep { s with
      channel := s.channel.frameOver })) ∧
    (s.station.config.group ≠ 0 → group = s.station.config.group → ∃ t, exec c s = .next (endOfStep t) ∧
      t = { s with channel := t.channel, motion := t.motion, group := t.group, host := t.host } ∧
      (c = .sendGo → Queues .group (.go group) s t ∧
        t.host.reply = some [0x00, BitVec.ofNat 8 (motionCode t.motion.state)]) ∧
      (c ≠ .sendGo → t.channel = s.channel.frameOver ∧ t.host.reply = s.host.reply) ∧
      (s.motion.state = .retained → s.group.holds = [] →
        t.motion.state = (if s.motion.latch then .guestStop else if s.cautionCause then .caution else .run) ∧
        t.group = { s.group with retained := false }) ∧
      ((s.motion.state = .groupHold ∨ s.motion.state = .guestStop) → s.group.retained = true →
        t.motion = s.motion ∧ t.group = s.group ∧
        t.host.events = s.withEvents [.goIgnored sender s.group.holds.length]) ∧
      ((s.motion.state = .groupHold ∨ s.motion.state = .guestStop) → s.group.retained = false →
        t.motion = s.motion ∧ t.group = s.group ∧ t.host.events = s.host.events) ∧
      (s.motion.state ≠ .retained → s.motion.state ≠ .groupHold → s.motion.state ≠ .guestStop →
        t.motion = s.motion ∧ t.group = s.group ∧ t.host.events = s.host.events))

/-- The hold set. A HOLD for another group, with another code, or without the hold response, a RESUME for another group or
without an entry, and either at a station of group 0, only end their frame; SEND_HOLD, SEND_RESUME and SEND_GO are
refused at a station of group 0, and outside ACTIVE or with a Leave pending, and SEND_HOLD with another code. HOLD of
the station's group creates, refreshes or changes its sender's entry for 30 s, if the
configured hold response says so, with an event where something is new; a full set gives up the entry with the earliest
expiry. A new entry stops RUN and CAUTION, at once where any entry is IMMEDIATE or the method is always that, otherwise
through STOPPING, and so does one that becomes IMMEDIATE. RESUME and HOLD_EXPIRY remove an entry; the last one gone,
GROUP_HOLD becomes RETAINED if armed, IDLE with no current segment, else CAUTION or RUN. SEND_HOLD sets the own hold,
which has no expiry; SEND_RESUME clears its host mark, and removes the entry and queues a RESUME where no guest mark
stands; without marks it queues the RESUME alone; HOLD_REPEAT_INTERVAL starts again from 0, offering the HOLD in ACTIVE
(R137, R139 to R148). -/
def Obligations.HoldsHoldAndEnd : Prop :=
  ∀ (k : Nat) (s : State),
    (∀ group code reason, s.delivers k → (s.station.config.group = 0 ∨ group ≠ s.station.config.group ∨
        s.station.config.holdResponse = false ∨ holdTypeOf code = none ∨ holdReasonOf reason = none) →
      exec (.hold k group code reason) s = .next (endOfStep { s with channel := s.channel.frameOver })) ∧
    (∀ group, s.delivers k → (s.station.config.group = 0 ∨ group ≠ s.station.config.group ∨
        s.group.holds.find? (·.originator == k) = none) →
      exec (.resume k group) s = .next (endOfStep { s with channel := s.channel.frameOver })) ∧
    (∀ code reason, s.host.heldSel = false →
      ((s.station.config.group = 0 ∨ s.station.state ≠ .active ∨ s.station.leavePending = true) →
        exec (.sendHold code reason) s = .next (s.answered [0x01]) ∧
        exec .sendResume s = .next (s.answered [0x01]) ∧ exec .sendGo s = .next (s.answered [0x01])) ∧
      (s.station.config.group ≠ 0 → s.station.state = .active → s.station.leavePending = false →
        (holdTypeOf code = none ∨ (reason ≠ 1 ∧ reason ≠ 2)) →
        exec (.sendHold code reason) s = .next (s.answered [0x02]))) ∧
    (∀ (group code reason : Nat) (ty : HoldType) (re : HoldReason), s.station.config.group ≠ 0 → s.delivers k →
      holdTypeOf code = some ty → holdReasonOf reason = some re →
      (s.station.config.holdResponse = true → group = s.station.config.group → ∃ t,
        exec (.hold k group code reason) s = .next (endOfStep t) ∧
        t.station = s.station ∧ t.segs = s.segs ∧ t.odo = s.odo ∧ t.dosing = s.dosing ∧ t.callout = s.callout ∧
        (s.group.holds.find? (·.originator == k) = none → s.group.holds.length < 8 →
          t.group.holds = s.group.holds ++ [⟨k, ty, re, some (s.station.clock + 30), s.group.nextStamp⟩] ∧
          (∃ x ∈ t.host.events, x.event = .holdAdded k ty re (s.group.holds.length + 1)) ∧
          ((s.motion.state = .run ∨ s.motion.state = .caution) →
            ((s.station.config.alwaysImmediate = true ∨ ty = .immediate ∨
                ∃ h ∈ s.group.holds, h.holdType = .immediate) →
              t.motion.state = .groupHold ∧ t.motion.ceiling = 0 ∧ t.permit = false) ∧
            (s.station.config.alwaysImmediate = false → ty = .decelerate →
                (∀ h ∈ s.group.holds, h.holdType = .decelerate) →
              t.motion.state = .stopping ∧ t.motion.stopEnd = .groupHold ∧ t.motion.ceiling = s.motion.ceiling)) ∧
          (s.motion.state = .retained → t.motion.state = .groupHold ∧ t.group.retained = s.group.retained) ∧
          ((s.motion.state = .idle ∨ s.motion.state = .guestStop ∨ s.motion.state = .faultStop ∨
            s.motion.state = .groupHold) → t.motion = s.motion)) ∧
        (∀ h e, s.Keyed → s.group.holds.find? (·.originator == k) = none → s.group.holds.length = 8 →
          h ∈ s.group.holds → h.expiry = some e →
          (∀ y ∈ s.group.holds, ∀ z, y.expiry = some z → y = h ∨ e < z ∨ (e = z ∧ h.stamp < y.stamp)) →
          t.group.holds = s.group.holds.filter (fun y => !(y.originator == h.originator)) ++
            [⟨k, ty, re, some (s.station.clock + 30), s.group.nextStamp⟩] ∧
          (∃ x ∈ t.host.events, x.event = .holdRemoved h.originator .replaced h.holdType h.reason 7) ∧
          ∃ x ∈ t.host.events, x.event = .holdAdded k ty re 8) ∧
        (∀ h, s.group.holds.find? (·.originator == k) = some h → (h.holdType ≠ ty ∨ h.reason ≠ re) →
          t.group.holds = (s.group.holds.map fun x => if x.originator = k then
            { x with holdType := ty, reason := re, expiry := some (s.station.clock + 30), stamp := s.group.nextStamp }
            else x) ∧
          (∃ x ∈ t.host.events, x.event = .holdChanged k ty re s.group.holds.length) ∧
          ((h.holdType = .immediate ∨ ty = .decelerate) → t.motion = s.motion) ∧
          (h.holdType = .decelerate → ty = .immediate →
            ((s.motion.state = .run ∨ s.motion.state = .caution ∨ s.motion.state = .stopping ∨
                s.motion.state = .retained) → t.motion.state = .groupHold ∧ t.motion.ceiling = 0 ∧ t.permit = false) ∧
            ((s.motion.state = .idle ∨ s.motion.state = .guestStop ∨ s.motion.state = .faultStop ∨
                s.motion.state = .groupHold) → t.motion = s.motion))) ∧
        (∀ h, s.group.holds.find? (·.originator == k) = some h → h.holdType = ty → h.reason = re →
          t = { s with
            channel := s.channel.frameOver
            group := { s.group with
              nextStamp := s.group.nextStamp + 1
              holds := s.group.holds.map fun x => if x.originator = k then
                { x with
                  holdType := ty, reason := re, expiry := some (s.station.clock + 30), stamp := s.group.nextStamp }
                else x } }))) ∧
    (∀ (c : Instr) (h : HoldEntry) (why : HoldRemoval), s.group.holds.find? (·.originator == k) = some h →
      ((c = .resume k s.station.config.group ∧ s.station.config.group ≠ 0 ∧ s.delivers k ∧ why = .resume) ∨
        (c = .holdExpiry k ∧ why = .expiry ∧ ∃ x, h.expiry = some x ∧ x ≤ s.station.clock)) → ∃ t,
      exec c s = .next (endOfStep t) ∧
      t.group.holds = s.group.holds.filter (fun x => !(x.originator == k)) ∧
      t.station = s.station ∧ t.segs = s.segs ∧ t.odo = s.odo ∧ t.dosing = s.dosing ∧ t.callout = s.callout ∧
      (∃ x ∈ t.host.events, x.event = .holdRemoved k why h.holdType h.reason t.group.holds.length) ∧
      (t.group.holds ≠ [] → t.motion = s.motion ∧ t.group.retained = s.group.retained) ∧
      (t.group.holds = [] → s.motion.state = .groupHold → s.motion.latch = false → t.motion.state =
        (if s.group.retained = true then .retained else if s.odo.entry = none then .idle
        else if s.cautionCause then .caution else .run)) ∧
      (s.motion.state ≠ .groupHold → s.motion.state ≠ .stopping → t.motion = s.motion)) ∧
    (∀ (code reason : Nat) (ty : HoldType) (re : HoldReason), s.station.config.group ≠ 0 → s.station.state = .active →
      s.host.heldSel = false →
      s.station.leavePending = false → holdTypeOf code = some ty → (reason = 1 ∨ reason = 2) →
      holdReasonOf reason = some re → s.group.guestMark = false → s.ownHold? = none → s.group.holds.length < 8 →
      s.channel.queue.length < 8 →
      (∀ q ∈ s.channel.queue, ∀ g y z, q.payload ≠ .hold g y z) → ∃ t,
      exec (.sendHold code reason) s = .next (endOfStep t) ∧ t.group.hostMark = some (ty, re) ∧
      t.group.holds = s.group.holds ++ [⟨s.station.config.station, ty, re, none, s.group.nextStamp⟩] ∧
      t.group.repeatMs = 0 ∧ t.host.reply = some [0x00, BitVec.ofNat 8 (s.group.holds.length + 1)] ∧
      t.station = s.station ∧ t.segs = s.segs ∧ t.odo = s.odo ∧ t.dosing = s.dosing ∧ t.callout = s.callout ∧
      Queues .group (.hold s.station.config.group (holdTypeCode ty) (holdReasonCode re)) s t) ∧
    (s.station.config.group ≠ 0 → s.station.state = .active → s.host.heldSel = false →
      s.station.leavePending = false → s.channel.queue.length < 8 → s.group.hostMark = none →
      (s.group.guestMark = true → exec .sendResume s = .next (endOfStep (s.answered [0x00, 1]))) ∧
      (s.group.guestMark = false → ∃ t, exec .sendResume s = .next (endOfStep t) ∧
        t = { s with channel := t.channel, host := { s.host with reply := some [0x00, 0] } } ∧
        Queues .group (.resume s.station.config.group) s t)) ∧
    (∀ h m, s.station.config.group ≠ 0 → s.station.state = .active → s.host.heldSel = false →
      s.station.leavePending = false → s.channel.queue.length < 8 →
      s.group.hostMark = some m → s.ownHold? = some h →
      (s.group.guestMark = true → h.holdType = .immediate → h.reason = .guest →
        exec .sendResume s = .next (endOfStep { s with
          group := { s.group with hostMark := none }, host := { s.host with reply := some [0x00, 1] } })) ∧
      (s.group.guestMark = false → ∃ t, exec .sendResume s = .next (endOfStep t) ∧
        t.host.reply = some [0x00, 0] ∧ t.group.hostMark = none ∧ t.group.repeatMs = 0 ∧
        t.group.holds = s.group.holds.filter (fun x => !(x.originator == s.station.config.station)) ∧
        (∃ x ∈ t.host.events, x.event =
          .holdRemoved s.station.config.station .ownCleared h.holdType h.reason t.group.holds.length) ∧
        (∃ q ∈ t.channel.queue, q.payload = .resume s.station.config.group ∧ q.age = 0 ∧ q.owner = .group) ∧
        t.station = s.station ∧ t.segs = s.segs ∧ t.odo = s.odo ∧ t.dosing = s.dosing ∧ t.callout = s.callout ∧
        (t.group.holds ≠ [] → t.motion = s.motion ∧ t.group.retained = s.group.retained) ∧
        (t.group.holds = [] → s.motion.state = .groupHold → s.motion.latch = false → t.motion.state =
          (if s.group.retained = true then .retained else if s.odo.entry = none then .idle
          else if s.cautionCause then .caution else .run)))) ∧
    (∀ h, s.ownHold? = some h →
      (s.station.state ≠ .active → exec .holdRepeatInterval s = .next (endOfStep { s with
        group := { s.group with repeatMs := 0 } })) ∧
      (s.station.state = .active → s.station.leavePending = false → s.channel.queue.length < 8 →
        (∀ q ∈ s.channel.queue, ∀ g y z, q.payload ≠ .hold g y z) → ∃ t,
        exec .holdRepeatInterval s = .next (endOfStep t) ∧
        t = { s with channel := t.channel, group := { s.group with repeatMs := 0 } } ∧
        Queues .group (.hold s.station.config.group (holdTypeCode h.holdType) (holdReasonCode h.reason)) s t))

/-! ## Beacon, stock and feed -/

/-- SET_BEACON writes the work beacon intensity in every station state, and a value above 255 is refused; the beacon
shows it in RUN, and what its state gives in every other state. LOAD_STOCK sets the stock, 4,000,000 g at most,
and clears the low flag. FEED_PULSE takes one pulse's salt from the stock and charges the open pass, while the
feed is active with a rate and the stock holds a pulse, and drives FEED high for 100 µs, a second pulse of the
same millisecond from 500 µs on (logs 19, 37); otherwise it changes nothing. Either may fall below the low
threshold: then the flag is set, with its event and the callout SALT_LOW; and below a pulse: then it is empty,
with its event, and with the callout SALT_EMPTY where the feed was active (R134, R158, R162, R163, R164). -/
def Obligations.BeaconStockAndFeed : Prop :=
  ∀ s : State, s.host.heldSel = false →
    (∀ b, (b ≤ 255 → exec (.setBeacon b) s = .next { s with
        station := { s.station with config := { s.station.config with workBeacon := b } }
        host := { s.host with reply := some [0x00] } }) ∧
      (255 < b → exec (.setBeacon b) s = .next (s.answered [0x02]))) ∧
    (s.motion.state = .run → s.beacon = s.station.config.workBeacon) ∧
    (s.motion.state = .caution → s.beacon = 192) ∧
    (s.motion.state = .stopping →
      s.beacon = match s.motion.stopFrom with
        | .run => s.station.config.workBeacon
        | .caution => 192) ∧
    (s.motion.state = .groupHold → s.beacon = 128) ∧
    ((s.motion.state = .guestStop ∨ s.motion.state = .faultStop) → s.beacon = 255) ∧
    ((s.motion.state = .idle ∨ s.motion.state = .retained) → s.beacon = 0) ∧
    (∀ g m, m = min 4000000 g → ∃ t, exec (.loadStock g) s = .next (endOfStep t) ∧ t.dosing.stock = m * 1000 ∧
      t.host.reply = some (0x00 :: be32 m) ∧ t.motion = s.motion ∧ t.segs = s.segs ∧ t.station = s.station ∧
      t.odo = s.odo ∧ t.group = s.group ∧ (s.channel.queue.length < 7 → t.claims = s.claims) ∧
      t.dosing.low = (s.station.configValid && decide (m < s.station.config.lowStock)) ∧
      (s.station.configValid = true → (s.station.state ≠ .active ∨ s.channel.queue.length < 7) →
        (m < s.station.config.lowStock → ∃ x ∈ t.host.events, x.event = .stock .low (m * 1000)) ∧
        (s.station.config.feedCal ≤ s.dosing.stock → m * 1000 < s.station.config.feedCal →
          ∃ x ∈ t.host.events, x.event = .stock .empty (m * 1000))) ∧
      (s.station.configValid = true → s.mayRaise → s.callout.own.length < 3 →
        (m < s.station.config.lowStock → ∃ c ∈ t.callout.own,
          c.code = 6 ∧ c.detail = min 65535 (m * 1000 / 1000000) ∧ (c.segment, c.cell) = s.herePair) ∧
        (s.station.config.feedCal ≤ s.dosing.stock → m * 1000 < s.station.config.feedCal → s.dosing.active = true →
          ∃ c ∈ t.callout.own, c.code = 5 ∧ c.detail = m * 1000 ∧ (c.segment, c.cell) = s.herePair)) ∧
      (s.station.config.lowStock ≤ m → (s.dosing.stock < s.station.config.feedCal ∨ s.station.config.feedCal ≤ m * 1000 ∨
        s.dosing.active = false) → t.callout = s.callout) ∧
      (s.station.configValid = false → t = { s with
        dosing := { s.dosing with stock := m * 1000, low := false }
        host := { s.host with events := s.withEvents [.stock .loaded (m * 1000)], reply := some (0x00 :: be32 m) } })) ∧
    (s.dosing.active = true → s.station.config.feedCal ≤ s.dosing.stock → 0 < s.dosing.rate → ∃ t,
      exec .feedPulse s = .next (endOfStep t) ∧
      t.dosing.stock = s.dosing.stock - s.station.config.feedCal ∧
      t.segs = { s.segs with pass := s.segs.pass.map fun p => { p with pulses := min 4294967295 (p.pulses + 1) } } ∧
      t.dosing.low = (s.dosing.low || decide (s.dosing.stock - s.station.config.feedCal < s.station.config.lowStock * 1000)) ∧
      (16000 ≤ s.dosing.acc → t.dosing.acc = s.dosing.acc - 16000) ∧
      (∀ us, us < 100 → t.feedLine us = true) ∧
      ((s.dosing.pulsesNow = 0 ∨ s.dosing.acc < 16000) → ∀ us, 100 ≤ us → t.feedLine us = false) ∧
      (1 ≤ s.dosing.pulsesNow → 16000 ≤ s.dosing.acc →
        ∀ us, 100 ≤ us → t.feedLine us = decide (500 ≤ us ∧ us < 600)) ∧
      (∀ left, left = s.dosing.stock - s.station.config.feedCal → s.mayRaise → s.callout.own.length < 3 →
        (s.dosing.low = false → left < s.station.config.lowStock * 1000 →
          (∃ x ∈ t.host.events, x.event = .stock .low left) ∧
          ∃ c ∈ t.callout.own, c.code = 6 ∧ c.detail = min 65535 (left / 1000000) ∧ (c.segment, c.cell) = s.herePair) ∧
        (left < s.station.config.feedCal →
          (∃ x ∈ t.host.events, x.event = .stock .empty left) ∧
          ∃ c ∈ t.callout.own, c.code = 5 ∧ c.detail = left ∧ (c.segment, c.cell) = s.herePair)) ∧
      t.motion = s.motion ∧ t.station = s.station ∧
      t.odo = s.odo ∧ t.group = s.group ∧ (s.channel.queue.length < 7 → t.claims = s.claims)) ∧
    ((s.dosing.active = false ∨ s.dosing.stock < s.station.config.feedCal ∨ s.dosing.rate = 0) →
      exec .feedPulse s = .next s)

/-! ## Callouts -/

/-- RAISE_CALLOUT in ACTIVE without a pending Leave: fields out of range are refused; a ROBOT with four records
refuses; a ROBOT with room keeps a record under a free sequence number and queues its frame, at hop 0 and with its
distance; a DEPOT delivers it to itself, with both events and no frame. The number taken is held by no record, and
the counter stands one above it. CALLOUT_BACKOFF and RELAY_BACKOFF queue the frame again; RECENT_RELAY_EXPIRY
forgets a pair at its time (R167 to R173, R178, R179, R181, R182). -/
def Obligations.CalloutsRaisedAndRepeated : Prop :=
  ∀ s : State,
    (∀ urgency n cell detail, s.station.state = .active → s.host.heldSel = false → s.station.leavePending = false →
      ((1 < urgency ∨ 4000 < n ∨ 63 < cell ∨ 65535 < detail) →
        exec (.raiseCallout urgency n cell detail) s = .next (s.answered [0x02])) ∧
      (urgency ≤ 1 → n ≤ 4000 → cell ≤ 63 → detail ≤ 65535 →
        (s.isDepot = false → 4 ≤ s.callout.own.length →
          exec (.raiseCallout urgency n cell detail) s = .next (s.answered [0x03])) ∧
        ∃ q, q < 256 ∧ (s.callout.own.length < 256 → ∀ c ∈ s.callout.own, c.seq ≠ q) ∧
          (s.callout.seq < 256 → (∀ c ∈ s.callout.own, c.seq ≠ s.callout.seq) → q = s.callout.seq) ∧
          (s.isDepot = false → s.callout.own.length < 4 → s.channel.queue.length < 8 → ∃ t,
            exec (.raiseCallout urgency n cell detail) s = .next (endOfStep t) ∧
            t = { s with
              channel := t.channel
              callout := { s.callout with
                seq := (q + 1) % 256
                own := s.callout.own ++ [⟨7 + urgency, n, cell, detail, q, 0, .queued⟩] }
              host := { s.host with reply := some [0x00, BitVec.ofNat 8 q, 0] } } ∧
            Queues .callout (.callout s.station.config.station q (7 + urgency) n cell 0 s.station.distance detail) s t) ∧
          (s.isDepot = true → exec (.raiseCallout urgency n cell detail) s = .next (endOfStep { s with
            callout := { s.callout with seq := (q + 1) % 256 }
            host := { s.host with
              events := s.withEvents
                [.calloutReceived s.station.config.station q (7 + urgency) n cell detail 0 s.station.config.station 0,
                  .callout (7 + urgency) (some q) n cell detail .acked 0 (some (s.station.config.station, 0))]
              reply := some [0x00, BitVec.ofNat 8 q, 1] } })))) ∧
    (∀ c m, s.callout.own.find? (·.seq == c.seq) = some c → c.retry = .awaiting m → s.hasRoom → ∃ t,
      exec (.calloutBackoff c.seq) s = .next (endOfStep t) ∧
      t = { s with
        channel := t.channel
        callout := { s.callout with own := s.callout.own.map fun x =>
          if x.seq = c.seq then { x with retry := .queued } else x } } ∧
      Queues .callout (.callout s.station.config.station c.seq c.code c.segment c.cell 0 s.station.distance c.detail)
        s t) ∧
    (∀ e m, s.callout.relay.find? (fun x => x.origin == e.origin && x.seq == e.seq) = some e → e.retry = .awaiting m →
      s.hasRoom → ∃ t, exec (.relayBackoff e.origin e.seq) s = .next (endOfStep t) ∧
      t = { s with
        channel := t.channel
        callout := { s.callout with relay := s.callout.relay.map fun x =>
          if x.origin = e.origin ∧ x.seq = e.seq then { x with retry := .queued } else x } } ∧
      Queues .callout (.callout e.origin e.seq e.code e.segment e.cell e.hop s.station.distance e.detail) s t) ∧
    ∀ o q, exec (.recentRelayExpiry o q) s = .next { s with
      callout := { s.callout with
        recent := s.callout.recent.filter fun p =>
          !(p.origin == o && p.seq == q && decide (p.expiry ≤ s.station.clock)) } }

/-- CALLOUT heard. A sound frame whose response field this station won is taken: a ROBOT keeps a relay entry at the next
hop and queues its forward frame; a DEPOT gives it to its host, with the sender and its distance, and remembers the pair
for 120 s; either takes a pair once: a pair in the recent-relay list, or in a ROBOT's relay queue, is not taken again. A
frame whose field it did not win, or that is not sound, only ends (R11, R20, R175,
R177, R178, R181, R182). -/
def Obligations.CalloutHeardAndTaken : Prop :=
  ∀ (sender origin seq code n cell hop distance detail sensed : Nat) (s : State), s.delivers sender →
    ((s.channel.response ≠ some sensed ∨ origin = 0 ∨ 254 < origin ∨ code = 0 ∨ 8 < code ∨ 4000 < n ∨ 63 < cell ∨
        15 < hop ∨ 15 < distance) →
      exec (.callout sender origin seq code n cell hop distance detail sensed) s =
        .next (endOfStep { s with channel := s.channel.frameOver })) ∧
    (s.channel.response = some sensed → 1 ≤ origin → origin ≤ 254 → 1 ≤ code → code ≤ 8 → n ≤ 4000 → cell ≤ 63 →
      hop < 12 → distance ≤ 15 → origin ≠ s.station.config.station →
      (∀ p ∈ s.callout.recent, ¬ (p.origin = origin ∧ p.seq = seq)) →
      (s.isDepot = false → (∀ e ∈ s.callout.relay, ¬ (e.origin = origin ∧ e.seq = seq)) →
        s.callout.relay.length < 8 → s.channel.queue.length < 8 → ∃ t,
        exec (.callout sender origin seq code n cell hop distance detail sensed) s = .next (endOfStep t) ∧
        t = { s with
          channel := t.channel
          callout := { s.callout with
            relay := s.callout.relay ++ [⟨origin, seq, code, n, cell, detail, hop + 1, 0, .queued⟩] } } ∧
        ∃ q ∈ t.channel.queue, q.age = 0 ∧ q.owner = .callout ∧
          q.payload = .callout origin seq code n cell (hop + 1) s.station.distance detail) ∧
      (s.isDepot = true → s.callout.recent.length < 16 →
        exec (.callout sender origin seq code n cell hop distance detail sensed) s = .next (endOfStep { s with
          channel := s.channel.frameOver
          callout := { s.callout with
            recent := s.callout.recent ++ [⟨origin, seq, s.station.clock + 120⟩] }
          host := { s.host with
            events := s.withEvents [.calloutReceived origin seq code n cell detail hop sender distance] } }))) ∧
    ((s.isDepot = false ∧ (∃ e ∈ s.callout.relay, e.origin = origin ∧ e.seq = seq)) ∨
        (∃ p ∈ s.callout.recent, p.origin = origin ∧ p.seq = seq) →
      exec (.callout sender origin seq code n cell hop distance detail sensed) s =
        .next (endOfStep { s with channel := s.channel.frameOver }))
end

