-- ==== Sys2Proof/Laws/State.lean ====
section
/-! SUPPORT. One lemma for each field under each update of State. -/

namespace Sys2Proof.Machine

@[simp] theorem setPending_pending (p : List Instr) (s : State) : (s.setPending p).pending = p := rfl
@[simp] theorem setPending_station (p : List Instr) (s : State) : (s.setPending p).station = s.station := rfl
@[simp] theorem setPending_channel (p : List Instr) (s : State) : (s.setPending p).channel = s.channel := rfl
@[simp] theorem setPending_segs (p : List Instr) (s : State) : (s.setPending p).segs = s.segs := rfl
@[simp] theorem setPending_claims (p : List Instr) (s : State) : (s.setPending p).claims = s.claims := rfl
@[simp] theorem setPending_odo (p : List Instr) (s : State) : (s.setPending p).odo = s.odo := rfl
@[simp] theorem setPending_motion (p : List Instr) (s : State) : (s.setPending p).motion = s.motion := rfl
@[simp] theorem setPending_group (p : List Instr) (s : State) : (s.setPending p).group = s.group := rfl
@[simp] theorem setPending_dosing (p : List Instr) (s : State) : (s.setPending p).dosing = s.dosing := rfl
@[simp] theorem setPending_callout (p : List Instr) (s : State) : (s.setPending p).callout = s.callout := rfl
@[simp] theorem setPending_host (p : List Instr) (s : State) : (s.setPending p).host = s.host := rfl

@[simp] theorem onStation_pending (f : Station → Station) (s : State) : (s.onStation f).pending = s.pending := rfl
@[simp] theorem onStation_station (f : Station → Station) (s : State) : (s.onStation f).station = f s.station := rfl
@[simp] theorem onStation_channel (f : Station → Station) (s : State) : (s.onStation f).channel = s.channel := rfl
@[simp] theorem onStation_segs (f : Station → Station) (s : State) : (s.onStation f).segs = s.segs := rfl
@[simp] theorem onStation_claims (f : Station → Station) (s : State) : (s.onStation f).claims = s.claims := rfl
@[simp] theorem onStation_odo (f : Station → Station) (s : State) : (s.onStation f).odo = s.odo := rfl
@[simp] theorem onStation_motion (f : Station → Station) (s : State) : (s.onStation f).motion = s.motion := rfl
@[simp] theorem onStation_group (f : Station → Station) (s : State) : (s.onStation f).group = s.group := rfl
@[simp] theorem onStation_dosing (f : Station → Station) (s : State) : (s.onStation f).dosing = s.dosing := rfl
@[simp] theorem onStation_callout (f : Station → Station) (s : State) : (s.onStation f).callout = s.callout := rfl
@[simp] theorem onStation_host (f : Station → Station) (s : State) : (s.onStation f).host = s.host := rfl

@[simp] theorem onChannel_pending (f : Channel → Channel) (s : State) : (s.onChannel f).pending = s.pending := rfl
@[simp] theorem onChannel_station (f : Channel → Channel) (s : State) : (s.onChannel f).station = s.station := rfl
@[simp] theorem onChannel_channel (f : Channel → Channel) (s : State) : (s.onChannel f).channel = f s.channel := rfl
@[simp] theorem onChannel_segs (f : Channel → Channel) (s : State) : (s.onChannel f).segs = s.segs := rfl
@[simp] theorem onChannel_claims (f : Channel → Channel) (s : State) : (s.onChannel f).claims = s.claims := rfl
@[simp] theorem onChannel_odo (f : Channel → Channel) (s : State) : (s.onChannel f).odo = s.odo := rfl
@[simp] theorem onChannel_motion (f : Channel → Channel) (s : State) : (s.onChannel f).motion = s.motion := rfl
@[simp] theorem onChannel_group (f : Channel → Channel) (s : State) : (s.onChannel f).group = s.group := rfl
@[simp] theorem onChannel_dosing (f : Channel → Channel) (s : State) : (s.onChannel f).dosing = s.dosing := rfl
@[simp] theorem onChannel_callout (f : Channel → Channel) (s : State) : (s.onChannel f).callout = s.callout := rfl
@[simp] theorem onChannel_host (f : Channel → Channel) (s : State) : (s.onChannel f).host = s.host := rfl

@[simp] theorem onSegs_pending (f : Segments → Segments) (s : State) : (s.onSegs f).pending = s.pending := rfl
@[simp] theorem onSegs_station (f : Segments → Segments) (s : State) : (s.onSegs f).station = s.station := rfl
@[simp] theorem onSegs_channel (f : Segments → Segments) (s : State) : (s.onSegs f).channel = s.channel := rfl
@[simp] theorem onSegs_segs (f : Segments → Segments) (s : State) : (s.onSegs f).segs = f s.segs := rfl
@[simp] theorem onSegs_claims (f : Segments → Segments) (s : State) : (s.onSegs f).claims = s.claims := rfl
@[simp] theorem onSegs_odo (f : Segments → Segments) (s : State) : (s.onSegs f).odo = s.odo := rfl
@[simp] theorem onSegs_motion (f : Segments → Segments) (s : State) : (s.onSegs f).motion = s.motion := rfl
@[simp] theorem onSegs_group (f : Segments → Segments) (s : State) : (s.onSegs f).group = s.group := rfl
@[simp] theorem onSegs_dosing (f : Segments → Segments) (s : State) : (s.onSegs f).dosing = s.dosing := rfl
@[simp] theorem onSegs_callout (f : Segments → Segments) (s : State) : (s.onSegs f).callout = s.callout := rfl
@[simp] theorem onSegs_host (f : Segments → Segments) (s : State) : (s.onSegs f).host = s.host := rfl

@[simp] theorem onClaims_pending (f : Claims → Claims) (s : State) : (s.onClaims f).pending = s.pending := rfl
@[simp] theorem onClaims_station (f : Claims → Claims) (s : State) : (s.onClaims f).station = s.station := rfl
@[simp] theorem onClaims_channel (f : Claims → Claims) (s : State) : (s.onClaims f).channel = s.channel := rfl
@[simp] theorem onClaims_segs (f : Claims → Claims) (s : State) : (s.onClaims f).segs = s.segs := rfl
@[simp] theorem onClaims_claims (f : Claims → Claims) (s : State) : (s.onClaims f).claims = f s.claims := rfl
@[simp] theorem onClaims_odo (f : Claims → Claims) (s : State) : (s.onClaims f).odo = s.odo := rfl
@[simp] theorem onClaims_motion (f : Claims → Claims) (s : State) : (s.onClaims f).motion = s.motion := rfl
@[simp] theorem onClaims_group (f : Claims → Claims) (s : State) : (s.onClaims f).group = s.group := rfl
@[simp] theorem onClaims_dosing (f : Claims → Claims) (s : State) : (s.onClaims f).dosing = s.dosing := rfl
@[simp] theorem onClaims_callout (f : Claims → Claims) (s : State) : (s.onClaims f).callout = s.callout := rfl
@[simp] theorem onClaims_host (f : Claims → Claims) (s : State) : (s.onClaims f).host = s.host := rfl

@[simp] theorem onOdo_pending (f : Odo → Odo) (s : State) : (s.onOdo f).pending = s.pending := rfl
@[simp] theorem onOdo_station (f : Odo → Odo) (s : State) : (s.onOdo f).station = s.station := rfl
@[simp] theorem onOdo_channel (f : Odo → Odo) (s : State) : (s.onOdo f).channel = s.channel := rfl
@[simp] theorem onOdo_segs (f : Odo → Odo) (s : State) : (s.onOdo f).segs = s.segs := rfl
@[simp] theorem onOdo_claims (f : Odo → Odo) (s : State) : (s.onOdo f).claims = s.claims := rfl
@[simp] theorem onOdo_odo (f : Odo → Odo) (s : State) : (s.onOdo f).odo = f s.odo := rfl
@[simp] theorem onOdo_motion (f : Odo → Odo) (s : State) : (s.onOdo f).motion = s.motion := rfl
@[simp] theorem onOdo_group (f : Odo → Odo) (s : State) : (s.onOdo f).group = s.group := rfl
@[simp] theorem onOdo_dosing (f : Odo → Odo) (s : State) : (s.onOdo f).dosing = s.dosing := rfl
@[simp] theorem onOdo_callout (f : Odo → Odo) (s : State) : (s.onOdo f).callout = s.callout := rfl
@[simp] theorem onOdo_host (f : Odo → Odo) (s : State) : (s.onOdo f).host = s.host := rfl

@[simp] theorem onMotion_pending (f : Motion → Motion) (s : State) : (s.onMotion f).pending = s.pending := rfl
@[simp] theorem onMotion_station (f : Motion → Motion) (s : State) : (s.onMotion f).station = s.station := rfl
@[simp] theorem onMotion_channel (f : Motion → Motion) (s : State) : (s.onMotion f).channel = s.channel := rfl
@[simp] theorem onMotion_segs (f : Motion → Motion) (s : State) : (s.onMotion f).segs = s.segs := rfl
@[simp] theorem onMotion_claims (f : Motion → Motion) (s : State) : (s.onMotion f).claims = s.claims := rfl
@[simp] theorem onMotion_odo (f : Motion → Motion) (s : State) : (s.onMotion f).odo = s.odo := rfl
@[simp] theorem onMotion_motion (f : Motion → Motion) (s : State) : (s.onMotion f).motion = f s.motion := rfl
@[simp] theorem onMotion_group (f : Motion → Motion) (s : State) : (s.onMotion f).group = s.group := rfl
@[simp] theorem onMotion_dosing (f : Motion → Motion) (s : State) : (s.onMotion f).dosing = s.dosing := rfl
@[simp] theorem onMotion_callout (f : Motion → Motion) (s : State) : (s.onMotion f).callout = s.callout := rfl
@[simp] theorem onMotion_host (f : Motion → Motion) (s : State) : (s.onMotion f).host = s.host := rfl

@[simp] theorem onGroup_pending (f : Group → Group) (s : State) : (s.onGroup f).pending = s.pending := rfl
@[simp] theorem onGroup_station (f : Group → Group) (s : State) : (s.onGroup f).station = s.station := rfl
@[simp] theorem onGroup_channel (f : Group → Group) (s : State) : (s.onGroup f).channel = s.channel := rfl
@[simp] theorem onGroup_segs (f : Group → Group) (s : State) : (s.onGroup f).segs = s.segs := rfl
@[simp] theorem onGroup_claims (f : Group → Group) (s : State) : (s.onGroup f).claims = s.claims := rfl
@[simp] theorem onGroup_odo (f : Group → Group) (s : State) : (s.onGroup f).odo = s.odo := rfl
@[simp] theorem onGroup_motion (f : Group → Group) (s : State) : (s.onGroup f).motion = s.motion := rfl
@[simp] theorem onGroup_group (f : Group → Group) (s : State) : (s.onGroup f).group = f s.group := rfl
@[simp] theorem onGroup_dosing (f : Group → Group) (s : State) : (s.onGroup f).dosing = s.dosing := rfl
@[simp] theorem onGroup_callout (f : Group → Group) (s : State) : (s.onGroup f).callout = s.callout := rfl
@[simp] theorem onGroup_host (f : Group → Group) (s : State) : (s.onGroup f).host = s.host := rfl

@[simp] theorem onDosing_pending (f : Dosing → Dosing) (s : State) : (s.onDosing f).pending = s.pending := rfl
@[simp] theorem onDosing_station (f : Dosing → Dosing) (s : State) : (s.onDosing f).station = s.station := rfl
@[simp] theorem onDosing_channel (f : Dosing → Dosing) (s : State) : (s.onDosing f).channel = s.channel := rfl
@[simp] theorem onDosing_segs (f : Dosing → Dosing) (s : State) : (s.onDosing f).segs = s.segs := rfl
@[simp] theorem onDosing_claims (f : Dosing → Dosing) (s : State) : (s.onDosing f).claims = s.claims := rfl
@[simp] theorem onDosing_odo (f : Dosing → Dosing) (s : State) : (s.onDosing f).odo = s.odo := rfl
@[simp] theorem onDosing_motion (f : Dosing → Dosing) (s : State) : (s.onDosing f).motion = s.motion := rfl
@[simp] theorem onDosing_group (f : Dosing → Dosing) (s : State) : (s.onDosing f).group = s.group := rfl
@[simp] theorem onDosing_dosing (f : Dosing → Dosing) (s : State) : (s.onDosing f).dosing = f s.dosing := rfl
@[simp] theorem onDosing_callout (f : Dosing → Dosing) (s : State) : (s.onDosing f).callout = s.callout := rfl
@[simp] theorem onDosing_host (f : Dosing → Dosing) (s : State) : (s.onDosing f).host = s.host := rfl

@[simp] theorem onCallout_pending (f : Callouts → Callouts) (s : State) : (s.onCallout f).pending = s.pending := rfl
@[simp] theorem onCallout_station (f : Callouts → Callouts) (s : State) : (s.onCallout f).station = s.station := rfl
@[simp] theorem onCallout_channel (f : Callouts → Callouts) (s : State) : (s.onCallout f).channel = s.channel := rfl
@[simp] theorem onCallout_segs (f : Callouts → Callouts) (s : State) : (s.onCallout f).segs = s.segs := rfl
@[simp] theorem onCallout_claims (f : Callouts → Callouts) (s : State) : (s.onCallout f).claims = s.claims := rfl
@[simp] theorem onCallout_odo (f : Callouts → Callouts) (s : State) : (s.onCallout f).odo = s.odo := rfl
@[simp] theorem onCallout_motion (f : Callouts → Callouts) (s : State) : (s.onCallout f).motion = s.motion := rfl
@[simp] theorem onCallout_group (f : Callouts → Callouts) (s : State) : (s.onCallout f).group = s.group := rfl
@[simp] theorem onCallout_dosing (f : Callouts → Callouts) (s : State) : (s.onCallout f).dosing = s.dosing := rfl
@[simp] theorem onCallout_callout (f : Callouts → Callouts) (s : State) : (s.onCallout f).callout = f s.callout := rfl
@[simp] theorem onCallout_host (f : Callouts → Callouts) (s : State) : (s.onCallout f).host = s.host := rfl

@[simp] theorem onHost_pending (f : HostPort → HostPort) (s : State) : (s.onHost f).pending = s.pending := rfl
@[simp] theorem onHost_station (f : HostPort → HostPort) (s : State) : (s.onHost f).station = s.station := rfl
@[simp] theorem onHost_channel (f : HostPort → HostPort) (s : State) : (s.onHost f).channel = s.channel := rfl
@[simp] theorem onHost_segs (f : HostPort → HostPort) (s : State) : (s.onHost f).segs = s.segs := rfl
@[simp] theorem onHost_claims (f : HostPort → HostPort) (s : State) : (s.onHost f).claims = s.claims := rfl
@[simp] theorem onHost_odo (f : HostPort → HostPort) (s : State) : (s.onHost f).odo = s.odo := rfl
@[simp] theorem onHost_motion (f : HostPort → HostPort) (s : State) : (s.onHost f).motion = s.motion := rfl
@[simp] theorem onHost_group (f : HostPort → HostPort) (s : State) : (s.onHost f).group = s.group := rfl
@[simp] theorem onHost_dosing (f : HostPort → HostPort) (s : State) : (s.onHost f).dosing = s.dosing := rfl
@[simp] theorem onHost_callout (f : HostPort → HostPort) (s : State) : (s.onHost f).callout = s.callout := rfl
@[simp] theorem onHost_host (f : HostPort → HostPort) (s : State) : (s.onHost f).host = f s.host := rfl

end Sys2Proof.Machine
end

