-- ==== Sys2Proof/Laws/Ops.lean ====
section
/-! SUPPORT. What the operations of Machine/Ops.lean leave as it was. -/

namespace Sys2Proof.Machine

/-- What `post` leaves as it was. -/
@[simp] theorem post_frame (e : Event) (s : State) :
    (post e s).pending = s.pending ∧
    (post e s).station = s.station ∧
    (post e s).channel = s.channel ∧
    (post e s).segs = s.segs ∧
    (post e s).claims = s.claims ∧
    (post e s).odo = s.odo ∧
    (post e s).motion = s.motion ∧
    (post e s).group = s.group ∧
    (post e s).dosing = s.dosing ∧
    (post e s).callout = s.callout ∧
    (post e s).host.reply = s.host.reply := by
  unfold post; simp; split <;> rfl

/-- What `reply` leaves as it was. -/
@[simp] theorem reply_frame (bs : List Byte) (s : State) :
    (reply bs s).pending = s.pending ∧
    (reply bs s).station = s.station ∧
    (reply bs s).channel = s.channel ∧
    (reply bs s).segs = s.segs ∧
    (reply bs s).claims = s.claims ∧
    (reply bs s).odo = s.odo ∧
    (reply bs s).motion = s.motion ∧
    (reply bs s).group = s.group ∧
    (reply bs s).dosing = s.dosing ∧
    (reply bs s).callout = s.callout ∧
    (reply bs s).host.events = s.host.events ∧
    (reply bs s).host.reply = some bs := by
  unfold reply; (try dsimp only); (repeat' split) <;> simp

/-- What `ok` leaves as it was. -/
@[simp] theorem ok_frame (bs : List Byte) (s : State) :
    (ok bs s).pending = s.pending ∧
    (ok bs s).station = s.station ∧
    (ok bs s).channel = s.channel ∧
    (ok bs s).segs = s.segs ∧
    (ok bs s).claims = s.claims ∧
    (ok bs s).odo = s.odo ∧
    (ok bs s).motion = s.motion ∧
    (ok bs s).group = s.group ∧
    (ok bs s).dosing = s.dosing ∧
    (ok bs s).callout = s.callout ∧
    (ok bs s).host.events = s.host.events ∧
    (ok bs s).host.reply = some (statusOk :: bs) := by
  unfold ok; (try dsimp only); (repeat' split) <;> simp

/-- What `recomputeDistance` leaves as it was. -/
@[simp] theorem recomputeDistance_frame (s : State) :
    (recomputeDistance s).pending = s.pending ∧
    (recomputeDistance s).channel = s.channel ∧
    (recomputeDistance s).segs = s.segs ∧
    (recomputeDistance s).claims = s.claims ∧
    (recomputeDistance s).odo = s.odo ∧
    (recomputeDistance s).motion = s.motion ∧
    (recomputeDistance s).group = s.group ∧
    (recomputeDistance s).dosing = s.dosing ∧
    (recomputeDistance s).callout = s.callout ∧
    (recomputeDistance s).station.clock = s.station.clock ∧
    (recomputeDistance s).station.config = s.station.config ∧
    (recomputeDistance s).station.configValid = s.station.configValid ∧
    (recomputeDistance s).station.state = s.station.state ∧
    (recomputeDistance s).station.leavePending = s.station.leavePending ∧
    (recomputeDistance s).host.reply = s.host.reply ∧
    (recomputeDistance s).station.neighbours = s.station.neighbours := by
  unfold recomputeDistance; (try dsimp only); (repeat' split) <;> simp

/-- What `withdraw` leaves as it was. -/
@[simp] theorem withdraw_frame (p : Queued → Bool) (s : State) :
    (withdraw p s).pending = s.pending ∧
    (withdraw p s).station = s.station ∧
    (withdraw p s).segs = s.segs ∧
    (withdraw p s).claims = s.claims ∧
    (withdraw p s).odo = s.odo ∧
    (withdraw p s).motion = s.motion ∧
    (withdraw p s).group = s.group ∧
    (withdraw p s).dosing = s.dosing ∧
    (withdraw p s).callout = s.callout ∧
    (withdraw p s).host = s.host := by
  unfold withdraw; (try dsimp only); (repeat' split) <;> simp

/-- What `noteOutcome` leaves as it was. -/
@[simp] theorem noteOutcome_frame (s : State) :
    (noteOutcome s).pending = s.pending ∧
    (noteOutcome s).station = s.station ∧
    (noteOutcome s).segs = s.segs ∧
    (noteOutcome s).claims = s.claims ∧
    (noteOutcome s).odo = s.odo ∧
    (noteOutcome s).motion = s.motion ∧
    (noteOutcome s).group = s.group ∧
    (noteOutcome s).dosing = s.dosing ∧
    (noteOutcome s).callout = s.callout ∧
    (noteOutcome s).host = s.host ∧
    (noteOutcome s).channel.queue = s.channel.queue ∧
    (noteOutcome s).channel.flight = s.channel.flight := by
  unfold noteOutcome; (try dsimp only); (repeat' split) <;> simp

/-- What `endOwn` leaves as it was. -/
@[simp] theorem endOwn_frame (n : Nat) (c : ClaimChange) (w : Option (Nat × Nat)) (s : State) :
    (endOwn n c w s).pending = s.pending ∧
    (endOwn n c w s).station = s.station ∧
    (endOwn n c w s).segs = s.segs ∧
    (endOwn n c w s).odo = s.odo ∧
    (endOwn n c w s).motion = s.motion ∧
    (endOwn n c w s).group = s.group ∧
    (endOwn n c w s).dosing = s.dosing ∧
    (endOwn n c w s).callout = s.callout ∧
    (endOwn n c w s).host.reply = s.host.reply := by
  unfold endOwn; (try dsimp only); (repeat' split) <;> simp

/-- What `updateOwn` leaves as it was. -/
@[simp] theorem updateOwn_frame (n : Nat) (f : OwnClaim → OwnClaim) (s : State) :
    (updateOwn n f s).pending = s.pending ∧
    (updateOwn n f s).station = s.station ∧
    (updateOwn n f s).channel = s.channel ∧
    (updateOwn n f s).segs = s.segs ∧
    (updateOwn n f s).odo = s.odo ∧
    (updateOwn n f s).motion = s.motion ∧
    (updateOwn n f s).group = s.group ∧
    (updateOwn n f s).dosing = s.dosing ∧
    (updateOwn n f s).callout = s.callout ∧
    (updateOwn n f s).host = s.host := by
  unfold updateOwn; (try dsimp only); (repeat' split) <;> simp

/-- What `endCallout` leaves as it was. -/
@[simp] theorem endCallout_frame (c : OwnCallout) (o : CalloutOutcome) (w : Option (Nat × Nat)) (s : State) :
    (endCallout c o w s).pending = s.pending ∧
    (endCallout c o w s).station = s.station ∧
    (endCallout c o w s).channel = s.channel ∧
    (endCallout c o w s).segs = s.segs ∧
    (endCallout c o w s).claims = s.claims ∧
    (endCallout c o w s).odo = s.odo ∧
    (endCallout c o w s).motion = s.motion ∧
    (endCallout c o w s).group = s.group ∧
    (endCallout c o w s).dosing = s.dosing ∧
    (endCallout c o w s).host.reply = s.host.reply := by
  unfold endCallout; (try dsimp only); (repeat' split) <;> simp

/-- What `ownAttempt` leaves as it was. -/
@[simp] theorem ownAttempt_frame (n : Nat) (s : State) :
    (ownAttempt n s).pending = s.pending ∧
    (ownAttempt n s).station = s.station ∧
    (ownAttempt n s).channel = s.channel ∧
    (ownAttempt n s).segs = s.segs ∧
    (ownAttempt n s).claims = s.claims ∧
    (ownAttempt n s).odo = s.odo ∧
    (ownAttempt n s).motion = s.motion ∧
    (ownAttempt n s).group = s.group ∧
    (ownAttempt n s).dosing = s.dosing ∧
    (ownAttempt n s).host.reply = s.host.reply := by
  unfold ownAttempt; (try dsimp only); (repeat' split) <;> simp

/-- What `addRecent` leaves as it was. -/
@[simp] theorem addRecent_frame (o n : Nat) (s : State) :
    (addRecent o n s).pending = s.pending ∧
    (addRecent o n s).station = s.station ∧
    (addRecent o n s).channel = s.channel ∧
    (addRecent o n s).segs = s.segs ∧
    (addRecent o n s).claims = s.claims ∧
    (addRecent o n s).odo = s.odo ∧
    (addRecent o n s).motion = s.motion ∧
    (addRecent o n s).group = s.group ∧
    (addRecent o n s).dosing = s.dosing ∧
    (addRecent o n s).host = s.host := by
  unfold addRecent; (try dsimp only); (repeat' split) <;> simp

/-- What `leaveRelay` leaves as it was. -/
@[simp] theorem leaveRelay_frame (o n : Nat) (s : State) :
    (leaveRelay o n s).pending = s.pending ∧
    (leaveRelay o n s).station = s.station ∧
    (leaveRelay o n s).channel = s.channel ∧
    (leaveRelay o n s).segs = s.segs ∧
    (leaveRelay o n s).claims = s.claims ∧
    (leaveRelay o n s).odo = s.odo ∧
    (leaveRelay o n s).motion = s.motion ∧
    (leaveRelay o n s).group = s.group ∧
    (leaveRelay o n s).dosing = s.dosing ∧
    (leaveRelay o n s).host = s.host := by
  unfold leaveRelay; (try dsimp only); (repeat' split) <;> simp

/-- What `relayAttempt` leaves as it was. -/
@[simp] theorem relayAttempt_frame (o n : Nat) (s : State) :
    (relayAttempt o n s).pending = s.pending ∧
    (relayAttempt o n s).station = s.station ∧
    (relayAttempt o n s).channel = s.channel ∧
    (relayAttempt o n s).segs = s.segs ∧
    (relayAttempt o n s).claims = s.claims ∧
    (relayAttempt o n s).odo = s.odo ∧
    (relayAttempt o n s).motion = s.motion ∧
    (relayAttempt o n s).group = s.group ∧
    (relayAttempt o n s).dosing = s.dosing ∧
    (relayAttempt o n s).host = s.host := by
  unfold relayAttempt; (try dsimp only); (repeat' split) <;> simp

/-- What `calloutAttempt` leaves as it was. -/
@[simp] theorem calloutAttempt_frame (o n : Nat) (s : State) :
    (calloutAttempt o n s).pending = s.pending ∧
    (calloutAttempt o n s).station = s.station ∧
    (calloutAttempt o n s).channel = s.channel ∧
    (calloutAttempt o n s).segs = s.segs ∧
    (calloutAttempt o n s).claims = s.claims ∧
    (calloutAttempt o n s).odo = s.odo ∧
    (calloutAttempt o n s).motion = s.motion ∧
    (calloutAttempt o n s).group = s.group ∧
    (calloutAttempt o n s).dosing = s.dosing ∧
    (calloutAttempt o n s).host.reply = s.host.reply := by
  unfold calloutAttempt; (try dsimp only); (repeat' split) <;> simp

/-- What `unsent` leaves as it was. -/
@[simp] theorem unsent_frame (p : Payload) (s : State) :
    (unsent p s).pending = s.pending ∧
    (unsent p s).station = s.station ∧
    (unsent p s).segs = s.segs ∧
    (unsent p s).odo = s.odo ∧
    (unsent p s).motion = s.motion ∧
    (unsent p s).group = s.group ∧
    (unsent p s).dosing = s.dosing ∧
    (unsent p s).host.reply = s.host.reply := by
  unfold unsent; (try dsimp only); (repeat' split) <;> simp

/-- What `enterQueue` leaves as it was. -/
@[simp] theorem enterQueue_frame (b : Block) (p : Payload) (s : State) :
    (enterQueue b p s).pending = s.pending ∧
    (enterQueue b p s).station = s.station ∧
    (enterQueue b p s).segs = s.segs ∧
    (enterQueue b p s).claims = s.claims ∧
    (enterQueue b p s).odo = s.odo ∧
    (enterQueue b p s).motion = s.motion ∧
    (enterQueue b p s).group = s.group ∧
    (enterQueue b p s).dosing = s.dosing ∧
    (enterQueue b p s).callout = s.callout ∧
    (enterQueue b p s).host = s.host := by
  unfold enterQueue; (try dsimp only); (repeat' split) <;> simp

/-- What `queueFrame` leaves as it was. -/
@[simp] theorem queueFrame_frame (b : Block) (p : Payload) (s : State) :
    (queueFrame b p s).pending = s.pending ∧
    (queueFrame b p s).station = s.station ∧
    (queueFrame b p s).segs = s.segs ∧
    (queueFrame b p s).odo = s.odo ∧
    (queueFrame b p s).motion = s.motion ∧
    (queueFrame b p s).group = s.group ∧
    (queueFrame b p s).dosing = s.dosing ∧
    (queueFrame b p s).host.reply = s.host.reply := by
  unfold queueFrame; (try dsimp only); (repeat' split) <;> simp

/-- What `changePayload` leaves as it was. -/
@[simp] theorem changePayload_frame (n : Nat) (p : Payload) (s : State) :
    (changePayload n p s).pending = s.pending ∧
    (changePayload n p s).station = s.station ∧
    (changePayload n p s).segs = s.segs ∧
    (changePayload n p s).claims = s.claims ∧
    (changePayload n p s).odo = s.odo ∧
    (changePayload n p s).motion = s.motion ∧
    (changePayload n p s).group = s.group ∧
    (changePayload n p s).dosing = s.dosing ∧
    (changePayload n p s).callout = s.callout ∧
    (changePayload n p s).host = s.host := by
  unfold changePayload; (try dsimp only); (repeat' split) <;> simp

/-- What `offerFrame` leaves as it was. -/
@[simp] theorem offerFrame_frame (b : Block) (q : Payload → Bool) (p : Payload) (s : State) :
    (offerFrame b q p s).pending = s.pending ∧
    (offerFrame b q p s).station = s.station ∧
    (offerFrame b q p s).segs = s.segs ∧
    (offerFrame b q p s).odo = s.odo ∧
    (offerFrame b q p s).motion = s.motion ∧
    (offerFrame b q p s).group = s.group ∧
    (offerFrame b q p s).dosing = s.dosing ∧
    (offerFrame b q p s).host.reply = s.host.reply := by
  unfold offerFrame; (try dsimp only); (repeat' split) <;> simp

/-- What `takeSeq` leaves as it was. -/
@[simp] theorem takeSeq_frame (n : Nat) (s : State) :
    (takeSeq n s).pending = s.pending ∧
    (takeSeq n s).station = s.station ∧
    (takeSeq n s).channel = s.channel ∧
    (takeSeq n s).segs = s.segs ∧
    (takeSeq n s).claims = s.claims ∧
    (takeSeq n s).odo = s.odo ∧
    (takeSeq n s).motion = s.motion ∧
    (takeSeq n s).group = s.group ∧
    (takeSeq n s).dosing = s.dosing ∧
    (takeSeq n s).host = s.host := by
  unfold takeSeq; (try dsimp only); (repeat' split) <;> simp

/-- What `queueOwnCallout` leaves as it was. -/
@[simp] theorem queueOwnCallout_frame (c : OwnCallout) (s : State) :
    (queueOwnCallout c s).pending = s.pending ∧
    (queueOwnCallout c s).station = s.station ∧
    (queueOwnCallout c s).segs = s.segs ∧
    (queueOwnCallout c s).odo = s.odo ∧
    (queueOwnCallout c s).motion = s.motion ∧
    (queueOwnCallout c s).group = s.group ∧
    (queueOwnCallout c s).dosing = s.dosing ∧
    (queueOwnCallout c s).host.reply = s.host.reply := by
  unfold queueOwnCallout; (try dsimp only); (repeat' split) <;> simp

/-- What `queueRelay` leaves as it was. -/
@[simp] theorem queueRelay_frame (e : RelayEntry) (s : State) :
    (queueRelay e s).pending = s.pending ∧
    (queueRelay e s).station = s.station ∧
    (queueRelay e s).segs = s.segs ∧
    (queueRelay e s).odo = s.odo ∧
    (queueRelay e s).motion = s.motion ∧
    (queueRelay e s).group = s.group ∧
    (queueRelay e s).dosing = s.dosing ∧
    (queueRelay e s).host.reply = s.host.reply := by
  unfold queueRelay; (try dsimp only); (repeat' split) <;> simp

/-- What `raise` leaves as it was. -/
@[simp] theorem raise_frame (c n k d : Nat) (s : State) :
    (raise c n k d s).pending = s.pending ∧
    (raise c n k d s).station = s.station ∧
    (raise c n k d s).segs = s.segs ∧
    (raise c n k d s).odo = s.odo ∧
    (raise c n k d s).motion = s.motion ∧
    (raise c n k d s).group = s.group ∧
    (raise c n k d s).dosing = s.dosing ∧
    (raise c n k d s).host.reply = s.host.reply := by
  unfold raise; (try dsimp only); (repeat' split) <;> simp

/-- What `raiseHere` leaves as it was. -/
@[simp] theorem raiseHere_frame (c d : Nat) (s : State) :
    (raiseHere c d s).pending = s.pending ∧
    (raiseHere c d s).station = s.station ∧
    (raiseHere c d s).segs = s.segs ∧
    (raiseHere c d s).odo = s.odo ∧
    (raiseHere c d s).motion = s.motion ∧
    (raiseHere c d s).group = s.group ∧
    (raiseHere c d s).dosing = s.dosing ∧
    (raiseHere c d s).host.reply = s.host.reply := by
  unfold raiseHere; (try dsimp only); (repeat' split) <;> simp

/-- What `hearNeighbour` leaves as it was. -/
@[simp] theorem hearNeighbour_frame (n : Neighbour) (s : State) :
    (hearNeighbour n s).pending = s.pending ∧
    (hearNeighbour n s).channel = s.channel ∧
    (hearNeighbour n s).segs = s.segs ∧
    (hearNeighbour n s).claims = s.claims ∧
    (hearNeighbour n s).odo = s.odo ∧
    (hearNeighbour n s).motion = s.motion ∧
    (hearNeighbour n s).group = s.group ∧
    (hearNeighbour n s).dosing = s.dosing ∧
    (hearNeighbour n s).callout = s.callout ∧
    (hearNeighbour n s).station.clock = s.station.clock ∧
    (hearNeighbour n s).station.config = s.station.config ∧
    (hearNeighbour n s).station.configValid = s.station.configValid ∧
    (hearNeighbour n s).station.state = s.station.state ∧
    (hearNeighbour n s).station.leavePending = s.station.leavePending ∧
    (hearNeighbour n s).host.reply = s.host.reply := by
  unfold hearNeighbour; (try dsimp only); (repeat' split) <;> simp

end Sys2Proof.Machine
end

