-- ==== Sys2Proof/Laws/Motion.lean ====
section
/-! SUPPORT. What the operations of Machine/MotionOps.lean leave as it was. -/

namespace Sys2Proof.Machine

/-- What `endOccupancy` leaves as it was. -/
@[simp] theorem endOccupancy_frame (n : Nat) (s : State) :
    (endOccupancy n s).pending = s.pending ∧
    (endOccupancy n s).station = s.station ∧
    (endOccupancy n s).segs = s.segs ∧
    (endOccupancy n s).odo = s.odo ∧
    (endOccupancy n s).motion = s.motion ∧
    (endOccupancy n s).group = s.group ∧
    (endOccupancy n s).dosing = s.dosing ∧
    (endOccupancy n s).callout = s.callout ∧
    (endOccupancy n s).host.reply = s.host.reply := by
  unfold endOccupancy; (try dsimp only); (repeat' split) <;> simp

/-- What `moveTo` leaves as it was. -/
@[simp] theorem moveTo_frame (n : MotionState) (c : MotionCause) (f : FaultSet) (s : State) :
    (moveTo n c f s).pending = s.pending ∧
    (moveTo n c f s).station = s.station ∧
    (moveTo n c f s).segs = s.segs ∧
    (moveTo n c f s).odo = s.odo ∧
    (moveTo n c f s).dosing = s.dosing ∧
    (moveTo n c f s).callout = s.callout ∧
    (moveTo n c f s).host.reply = s.host.reply := by
  unfold moveTo; (try dsimp only); (repeat' split) <;> simp

/-- What `move` leaves as it was. -/
@[simp] theorem move_frame (n : MotionState) (c : MotionCause) (s : State) :
    (move n c s).pending = s.pending ∧
    (move n c s).station = s.station ∧
    (move n c s).segs = s.segs ∧
    (move n c s).odo = s.odo ∧
    (move n c s).dosing = s.dosing ∧
    (move n c s).callout = s.callout ∧
    (move n c s).host.reply = s.host.reply := by
  unfold move; (try dsimp only); (repeat' split) <;> simp

/-- What `enterMoving` leaves as it was. -/
@[simp] theorem enterMoving_frame (c : MotionCause) (s : State) :
    (enterMoving c s).pending = s.pending ∧
    (enterMoving c s).station = s.station ∧
    (enterMoving c s).segs = s.segs ∧
    (enterMoving c s).odo = s.odo ∧
    (enterMoving c s).dosing = s.dosing ∧
    (enterMoving c s).callout = s.callout ∧
    (enterMoving c s).host.reply = s.host.reply := by
  unfold enterMoving; (try dsimp only); (repeat' split) <;> simp

/-- What `evalCaution` leaves as it was. -/
@[simp] theorem evalCaution_frame (s : State) :
    (evalCaution s).pending = s.pending ∧
    (evalCaution s).station = s.station ∧
    (evalCaution s).segs = s.segs ∧
    (evalCaution s).odo = s.odo ∧
    (evalCaution s).dosing = s.dosing ∧
    (evalCaution s).callout = s.callout ∧
    (evalCaution s).host.reply = s.host.reply := by
  unfold evalCaution; (try dsimp only); (repeat' split) <;> simp

/-- What `enterStopping` leaves as it was. -/
@[simp] theorem enterStopping_frame (e : StopEnd) (c : MotionCause) (s : State) :
    (enterStopping e c s).pending = s.pending ∧
    (enterStopping e c s).station = s.station ∧
    (enterStopping e c s).segs = s.segs ∧
    (enterStopping e c s).odo = s.odo ∧
    (enterStopping e c s).dosing = s.dosing ∧
    (enterStopping e c s).callout = s.callout ∧
    (enterStopping e c s).host.reply = s.host.reply := by
  unfold enterStopping; (try dsimp only); (repeat' split) <;> simp

/-- What `checkStopped` leaves as it was. -/
@[simp] theorem checkStopped_frame (s : State) :
    (checkStopped s).pending = s.pending ∧
    (checkStopped s).station = s.station ∧
    (checkStopped s).segs = s.segs ∧
    (checkStopped s).odo = s.odo ∧
    (checkStopped s).dosing = s.dosing ∧
    (checkStopped s).callout = s.callout ∧
    (checkStopped s).host.reply = s.host.reply := by
  unfold checkStopped; (try dsimp only); (repeat' split) <;> simp

/-- What `offerNotice` leaves as it was. -/
@[simp] theorem offerNotice_frame (s : State) :
    (offerNotice s).pending = s.pending ∧
    (offerNotice s).station = s.station ∧
    (offerNotice s).segs = s.segs ∧
    (offerNotice s).odo = s.odo ∧
    (offerNotice s).motion = s.motion ∧
    (offerNotice s).group = s.group ∧
    (offerNotice s).dosing = s.dosing ∧
    (offerNotice s).host.reply = s.host.reply := by
  unfold offerNotice; (try dsimp only); (repeat' split) <;> simp

/-- What `zoneChanged` leaves as it was. -/
@[simp] theorem zoneChanged_frame (z : Zone) (s : State) :
    (zoneChanged z s).pending = s.pending ∧
    (zoneChanged z s).station = s.station ∧
    (zoneChanged z s).segs = s.segs ∧
    (zoneChanged z s).odo = s.odo ∧
    (zoneChanged z s).group = s.group ∧
    (zoneChanged z s).dosing = s.dosing ∧
    (zoneChanged z s).host.reply = s.host.reply := by
  unfold zoneChanged; (try dsimp only); (repeat' split) <;> simp

/-- What `holdsEmptied` leaves as it was. -/
@[simp] theorem holdsEmptied_frame (s : State) :
    (holdsEmptied s).pending = s.pending ∧
    (holdsEmptied s).station = s.station ∧
    (holdsEmptied s).segs = s.segs ∧
    (holdsEmptied s).odo = s.odo ∧
    (holdsEmptied s).dosing = s.dosing ∧
    (holdsEmptied s).callout = s.callout ∧
    (holdsEmptied s).host.reply = s.host.reply := by
  unfold holdsEmptied; (try dsimp only); (repeat' split) <;> simp

/-- What `dropHold` leaves as it was. -/
@[simp] theorem dropHold_frame (o : Nat) (c : HoldRemoval) (s : State) :
    (dropHold o c s).pending = s.pending ∧
    (dropHold o c s).station = s.station ∧
    (dropHold o c s).channel = s.channel ∧
    (dropHold o c s).segs = s.segs ∧
    (dropHold o c s).claims = s.claims ∧
    (dropHold o c s).odo = s.odo ∧
    (dropHold o c s).motion = s.motion ∧
    (dropHold o c s).dosing = s.dosing ∧
    (dropHold o c s).callout = s.callout ∧
    (dropHold o c s).host.reply = s.host.reply := by
  unfold dropHold; (try dsimp only); (repeat' split) <;> simp

/-- What `removeHold` leaves as it was. -/
@[simp] theorem removeHold_frame (o : Nat) (c : HoldRemoval) (s : State) :
    (removeHold o c s).pending = s.pending ∧
    (removeHold o c s).station = s.station ∧
    (removeHold o c s).segs = s.segs ∧
    (removeHold o c s).odo = s.odo ∧
    (removeHold o c s).dosing = s.dosing ∧
    (removeHold o c s).callout = s.callout ∧
    (removeHold o c s).host.reply = s.host.reply := by
  unfold removeHold; (try dsimp only); (repeat' split) <;> simp

/-- What `applyHold` leaves as it was. -/
@[simp] theorem applyHold_frame (s : State) :
    (applyHold s).pending = s.pending ∧
    (applyHold s).station = s.station ∧
    (applyHold s).segs = s.segs ∧
    (applyHold s).odo = s.odo ∧
    (applyHold s).dosing = s.dosing ∧
    (applyHold s).callout = s.callout ∧
    (applyHold s).host.reply = s.host.reply := by
  unfold applyHold; (try dsimp only); (repeat' split) <;> simp

/-- What `makeHoldRoom` leaves as it was. -/
@[simp] theorem makeHoldRoom_frame (s : State) :
    (makeHoldRoom s).pending = s.pending ∧
    (makeHoldRoom s).station = s.station ∧
    (makeHoldRoom s).channel = s.channel ∧
    (makeHoldRoom s).segs = s.segs ∧
    (makeHoldRoom s).claims = s.claims ∧
    (makeHoldRoom s).odo = s.odo ∧
    (makeHoldRoom s).motion = s.motion ∧
    (makeHoldRoom s).dosing = s.dosing ∧
    (makeHoldRoom s).callout = s.callout ∧
    (makeHoldRoom s).host.reply = s.host.reply := by
  unfold makeHoldRoom; (try dsimp only); (repeat' split) <;> simp

/-- What `createHold` leaves as it was. -/
@[simp] theorem createHold_frame (o : Nat) (t : HoldType) (r : HoldReason) (e : Option Nat) (s : State) :
    (createHold o t r e s).pending = s.pending ∧
    (createHold o t r e s).station = s.station ∧
    (createHold o t r e s).channel = s.channel ∧
    (createHold o t r e s).segs = s.segs ∧
    (createHold o t r e s).claims = s.claims ∧
    (createHold o t r e s).odo = s.odo ∧
    (createHold o t r e s).motion = s.motion ∧
    (createHold o t r e s).dosing = s.dosing ∧
    (createHold o t r e s).callout = s.callout ∧
    (createHold o t r e s).host.reply = s.host.reply := by
  unfold createHold; (try dsimp only); (repeat' split) <;> simp

/-- What `changeHold` leaves as it was. -/
@[simp] theorem changeHold_frame (h : HoldEntry) (t : HoldType) (r : HoldReason) (e : Option Nat) (s : State) :
    (changeHold h t r e s).pending = s.pending ∧
    (changeHold h t r e s).station = s.station ∧
    (changeHold h t r e s).segs = s.segs ∧
    (changeHold h t r e s).odo = s.odo ∧
    (changeHold h t r e s).dosing = s.dosing ∧
    (changeHold h t r e s).callout = s.callout ∧
    (changeHold h t r e s).host.reply = s.host.reply := by
  unfold changeHold; (try dsimp only); (repeat' split) <;> simp

/-- What `receiveHold` leaves as it was. -/
@[simp] theorem receiveHold_frame (o : Nat) (t : HoldType) (r : HoldReason) (s : State) :
    (receiveHold o t r s).pending = s.pending ∧
    (receiveHold o t r s).station = s.station ∧
    (receiveHold o t r s).segs = s.segs ∧
    (receiveHold o t r s).odo = s.odo ∧
    (receiveHold o t r s).dosing = s.dosing ∧
    (receiveHold o t r s).callout = s.callout ∧
    (receiveHold o t r s).host.reply = s.host.reply := by
  unfold receiveHold; (try dsimp only); (repeat' split) <;> simp

/-- What `offerHold` leaves as it was. -/
@[simp] theorem offerHold_frame (s : State) :
    (offerHold s).pending = s.pending ∧
    (offerHold s).station = s.station ∧
    (offerHold s).segs = s.segs ∧
    (offerHold s).odo = s.odo ∧
    (offerHold s).motion = s.motion ∧
    (offerHold s).dosing = s.dosing ∧
    (offerHold s).host.reply = s.host.reply := by
  unfold offerHold; (try dsimp only); (repeat' split) <;> simp

/-- What `queueResume` leaves as it was. -/
@[simp] theorem queueResume_frame (s : State) :
    (queueResume s).pending = s.pending ∧
    (queueResume s).station = s.station ∧
    (queueResume s).segs = s.segs ∧
    (queueResume s).odo = s.odo ∧
    (queueResume s).motion = s.motion ∧
    (queueResume s).group = s.group ∧
    (queueResume s).dosing = s.dosing ∧
    (queueResume s).host.reply = s.host.reply := by
  unfold queueResume; (try dsimp only); (repeat' split) <;> simp

/-- What `raiseOwnHold` leaves as it was. -/
@[simp] theorem raiseOwnHold_frame (s : State) :
    (raiseOwnHold s).pending = s.pending ∧
    (raiseOwnHold s).station = s.station ∧
    (raiseOwnHold s).segs = s.segs ∧
    (raiseOwnHold s).odo = s.odo ∧
    (raiseOwnHold s).dosing = s.dosing ∧
    (raiseOwnHold s).host.reply = s.host.reply := by
  unfold raiseOwnHold; (try dsimp only); (repeat' split) <;> simp

/-- What `lowerOwnHold` leaves as it was. -/
@[simp] theorem lowerOwnHold_frame (b : Bool) (s : State) :
    (lowerOwnHold b s).pending = s.pending ∧
    (lowerOwnHold b s).station = s.station ∧
    (lowerOwnHold b s).segs = s.segs ∧
    (lowerOwnHold b s).odo = s.odo ∧
    (lowerOwnHold b s).dosing = s.dosing ∧
    (lowerOwnHold b s).host.reply = s.host.reply := by
  unfold lowerOwnHold; (try dsimp only); (repeat' split) <;> simp

/-- What `releaseGuestHold` leaves as it was. -/
@[simp] theorem releaseGuestHold_frame (b : Bool) (s : State) :
    (releaseGuestHold b s).pending = s.pending ∧
    (releaseGuestHold b s).station = s.station ∧
    (releaseGuestHold b s).segs = s.segs ∧
    (releaseGuestHold b s).odo = s.odo ∧
    (releaseGuestHold b s).dosing = s.dosing ∧
    (releaseGuestHold b s).host.reply = s.host.reply := by
  unfold releaseGuestHold; (try dsimp only); (repeat' split) <;> simp

/-- What `faultStop` leaves as it was. -/
@[simp] theorem faultStop_frame (c : FaultCause) (s : State) :
    (faultStop c s).pending = s.pending ∧
    (faultStop c s).station = s.station ∧
    (faultStop c s).segs = s.segs ∧
    (faultStop c s).odo = s.odo ∧
    (faultStop c s).dosing = s.dosing ∧
    (faultStop c s).host.reply = s.host.reply := by
  unfold faultStop; (try dsimp only); (repeat' split) <;> simp

/-- What `endClaim` leaves as it was. -/
@[simp] theorem endClaim_frame (n : Nat) (c : ClaimChange) (w : Option (Nat × Nat)) (s : State) :
    (endClaim n c w s).pending = s.pending ∧
    (endClaim n c w s).station = s.station ∧
    (endClaim n c w s).segs = s.segs ∧
    (endClaim n c w s).odo = s.odo ∧
    (endClaim n c w s).dosing = s.dosing ∧
    (endClaim n c w s).host.reply = s.host.reply := by
  unfold endClaim; (try dsimp only); (repeat' split) <;> simp

end Sys2Proof.Machine
end

