-- ==== Sys2Proof/Laws/Segment.lean ====
section
/-! SUPPORT. What the operations of Machine/SegmentOps.lean leave as it was. -/

namespace Sys2Proof.Machine

/-- What `updateSegment` leaves as it was. -/
@[simp] theorem updateSegment_frame (n : Nat) (f : Segment → Segment) (s : State) :
    (updateSegment n f s).pending = s.pending ∧
    (updateSegment n f s).station = s.station ∧
    (updateSegment n f s).channel = s.channel ∧
    (updateSegment n f s).claims = s.claims ∧
    (updateSegment n f s).odo = s.odo ∧
    (updateSegment n f s).motion = s.motion ∧
    (updateSegment n f s).group = s.group ∧
    (updateSegment n f s).dosing = s.dosing ∧
    (updateSegment n f s).callout = s.callout ∧
    (updateSegment n f s).host = s.host := by
  unfold updateSegment; (try dsimp only); (repeat' split) <;> simp

/-- What `settleFeed` leaves as it was. -/
@[simp] theorem settleFeed_frame (s : State) :
    (settleFeed s).pending = s.pending ∧
    (settleFeed s).station = s.station ∧
    (settleFeed s).channel = s.channel ∧
    (settleFeed s).segs = s.segs ∧
    (settleFeed s).claims = s.claims ∧
    (settleFeed s).odo = s.odo ∧
    (settleFeed s).motion = s.motion ∧
    (settleFeed s).group = s.group ∧
    (settleFeed s).callout = s.callout ∧
    (settleFeed s).host = s.host ∧
    (settleFeed s).dosing.stock = s.dosing.stock ∧
    (settleFeed s).dosing.low = s.dosing.low ∧
    (settleFeed s).dosing.need = s.dosing.need := by
  unfold settleFeed; (repeat' split) <;> simp [Dosing.fed, Dosing.withRate, Dosing.stopped]

/-- What `lowTest` leaves as it was. -/
@[simp] theorem lowTest_frame (s : State) :
    (lowTest s).pending = s.pending ∧
    (lowTest s).station = s.station ∧
    (lowTest s).segs = s.segs ∧
    (lowTest s).odo = s.odo ∧
    (lowTest s).motion = s.motion ∧
    (lowTest s).group = s.group ∧
    (lowTest s).host.reply = s.host.reply := by
  unfold lowTest; (try dsimp only); (repeat' split) <;> simp

/-- What `emptyTest` leaves as it was. -/
@[simp] theorem emptyTest_frame (n : Nat) (s : State) :
    (emptyTest n s).pending = s.pending ∧
    (emptyTest n s).station = s.station ∧
    (emptyTest n s).segs = s.segs ∧
    (emptyTest n s).odo = s.odo ∧
    (emptyTest n s).motion = s.motion ∧
    (emptyTest n s).group = s.group ∧
    (emptyTest n s).dosing = s.dosing ∧
    (emptyTest n s).host.reply = s.host.reply := by
  unfold emptyTest; (try dsimp only); (repeat' split) <;> simp

/-- What `openPass` leaves as it was. -/
@[simp] theorem openPass_frame (n : Nat) (s : State) :
    (openPass n s).pending = s.pending ∧
    (openPass n s).station = s.station ∧
    (openPass n s).channel = s.channel ∧
    (openPass n s).claims = s.claims ∧
    (openPass n s).odo = s.odo ∧
    (openPass n s).motion = s.motion ∧
    (openPass n s).group = s.group ∧
    (openPass n s).callout = s.callout ∧
    (openPass n s).host = s.host := by
  unfold openPass; (try dsimp only); (repeat' split) <;> simp

/-- What `flush` leaves as it was. -/
@[simp] theorem flush_frame (n : Nat) (s : State) :
    (flush n s).pending = s.pending ∧
    (flush n s).station = s.station ∧
    (flush n s).odo = s.odo ∧
    (flush n s).motion = s.motion ∧
    (flush n s).group = s.group ∧
    (flush n s).dosing = s.dosing ∧
    (flush n s).host.reply = s.host.reply := by
  unfold flush; (try dsimp only); (repeat' split) <;> simp

/-- What `flushAtStride` leaves as it was. -/
@[simp] theorem flushAtStride_frame (n : Nat) (s : State) :
    (flushAtStride n s).pending = s.pending ∧
    (flushAtStride n s).station = s.station ∧
    (flushAtStride n s).odo = s.odo ∧
    (flushAtStride n s).motion = s.motion ∧
    (flushAtStride n s).group = s.group ∧
    (flushAtStride n s).dosing = s.dosing ∧
    (flushAtStride n s).host.reply = s.host.reply := by
  unfold flushAtStride; (try dsimp only); (repeat' split) <;> simp

/-- What `addReport` leaves as it was. -/
@[simp] theorem addReport_frame (n k : Nat) (w : Work) (d : Nat) (s : State) :
    (addReport n k w d s).pending = s.pending ∧
    (addReport n k w d s).station = s.station ∧
    (addReport n k w d s).odo = s.odo ∧
    (addReport n k w d s).motion = s.motion ∧
    (addReport n k w d s).group = s.group ∧
    (addReport n k w d s).dosing = s.dosing ∧
    (addReport n k w d s).host.reply = s.host.reply := by
  unfold addReport; (try dsimp only); (repeat' split) <;> simp

/-- What `finalise` leaves as it was. -/
@[simp] theorem finalise_frame (s : State) :
    (finalise s).pending = s.pending ∧
    (finalise s).station = s.station ∧
    (finalise s).odo = s.odo ∧
    (finalise s).motion = s.motion ∧
    (finalise s).group = s.group ∧
    (finalise s).dosing = s.dosing ∧
    (finalise s).host.reply = s.host.reply := by
  unfold finalise; (try dsimp only); (repeat' split) <;> simp

/-- What `finaliseAndFlush` leaves as it was. -/
@[simp] theorem finaliseAndFlush_frame (s : State) :
    (finaliseAndFlush s).pending = s.pending ∧
    (finaliseAndFlush s).station = s.station ∧
    (finaliseAndFlush s).odo = s.odo ∧
    (finaliseAndFlush s).motion = s.motion ∧
    (finaliseAndFlush s).group = s.group ∧
    (finaliseAndFlush s).dosing = s.dosing ∧
    (finaliseAndFlush s).host.reply = s.host.reply := by
  unfold finaliseAndFlush; (try dsimp only); (repeat' split) <;> simp

/-- What `endEntry` leaves as it was. -/
@[simp] theorem endEntry_frame (s : State) :
    (endEntry s).pending = s.pending ∧
    (endEntry s).station = s.station ∧
    (endEntry s).motion = s.motion ∧
    (endEntry s).group = s.group ∧
    (endEntry s).host.reply = s.host.reply := by
  unfold endEntry; (try dsimp only); (repeat' split) <;> simp

/-- What `fill` leaves as it was. -/
@[simp] theorem fill_frame (o f l : Nat) (c : Bool) (s : State) :
    (fill o f l c s).pending = s.pending ∧
    (fill o f l c s).station = s.station ∧
    (fill o f l c s).claims = s.claims ∧
    (fill o f l c s).odo = s.odo ∧
    (fill o f l c s).motion = s.motion ∧
    (fill o f l c s).group = s.group ∧
    (fill o f l c s).dosing = s.dosing ∧
    (fill o f l c s).callout = s.callout ∧
    (fill o f l c s).host.reply = s.host.reply := by
  unfold fill; (try dsimp only); (repeat' split) <;> simp

end Sys2Proof.Machine
end

