-- ==== Sys2Proof/Laws/Channel.lean ====
section
/-! SUPPORT. What the operations of Machine/ChannelOps.lean leave as it was. -/

namespace Sys2Proof.Machine

/-- What a seize takes (R18): the response of a field that is going on, and no other. -/
theorem abandonedNow_eq (c : Channel) : c.abandonedNow =
    if c.assembler = .response ∧ c.symbol < Config.fieldEnd then c.response.map fun v => ⟨v, c.symbol⟩ else none := by
  by_cases h : c.assembler = .response <;> simp [Channel.abandonedNow, Channel.fieldOver, h]

/-- When this station takes nothing from the frame of a field (R18, R20). -/
theorem takesNothing_iff (sensed : Nat) (c : Channel) : c.takesNothing sensed = true ↔
    ∃ a, c.abandoned = some a ∧ (responseSymbols a.value).take (a.symbol - Config.gapSymbols) =
      (responseSymbols sensed).take (a.symbol - Config.gapSymbols) := by
  simp [Channel.takesNothing, Option.any_eq_true]

/-- What `requestSeize` leaves as it was. -/
@[simp] theorem requestSeize_frame (s : State) :
    (requestSeize s).pending = s.pending ∧
    (requestSeize s).station = s.station ∧
    (requestSeize s).segs = s.segs ∧
    (requestSeize s).claims = s.claims ∧
    (requestSeize s).odo = s.odo ∧
    (requestSeize s).motion = s.motion ∧
    (requestSeize s).group = s.group ∧
    (requestSeize s).dosing = s.dosing ∧
    (requestSeize s).callout = s.callout ∧
    (requestSeize s).host = s.host := by
  unfold requestSeize; (try dsimp only); (repeat' split) <;> simp

/-- What `clearView` leaves as it was. -/
@[simp] theorem clearView_frame (n : Nat) (i : Intent) (s : State) :
    (clearView n i s).pending = s.pending ∧
    (clearView n i s).station = s.station ∧
    (clearView n i s).channel = s.channel ∧
    (clearView n i s).segs = s.segs ∧
    (clearView n i s).odo = s.odo ∧
    (clearView n i s).motion = s.motion ∧
    (clearView n i s).group = s.group ∧
    (clearView n i s).dosing = s.dosing ∧
    (clearView n i s).callout = s.callout ∧
    (clearView n i s).host = s.host := by
  unfold clearView; (try dsimp only); (repeat' split) <;> simp

/-- What `releaseHeld` leaves as it was. -/
@[simp] theorem releaseHeld_frame (n : Nat) (s : State) :
    (releaseHeld n s).pending = s.pending ∧
    (releaseHeld n s).station = s.station ∧
    (releaseHeld n s).segs = s.segs ∧
    (releaseHeld n s).odo = s.odo ∧
    (releaseHeld n s).motion = s.motion ∧
    (releaseHeld n s).group = s.group ∧
    (releaseHeld n s).dosing = s.dosing ∧
    (releaseHeld n s).host.reply = s.host.reply := by
  unfold releaseHeld; (try dsimp only); (repeat' split) <;> simp

/-- What `newClaimStands` leaves as it was. -/
@[simp] theorem newClaimStands_frame (r : OwnClaim) (s : State) :
    (newClaimStands r s).pending = s.pending ∧
    (newClaimStands r s).station = s.station ∧
    (newClaimStands r s).segs = s.segs ∧
    (newClaimStands r s).odo = s.odo ∧
    (newClaimStands r s).motion = s.motion ∧
    (newClaimStands r s).group = s.group ∧
    (newClaimStands r s).dosing = s.dosing ∧
    (newClaimStands r s).host.reply = s.host.reply := by
  unfold newClaimStands; (try dsimp only); (repeat' split) <;> simp

/-- What `claimSettled` leaves as it was. -/
@[simp] theorem claimSettled_frame (n m v : Nat) (s : State) :
    (claimSettled n m v s).pending = s.pending ∧
    (claimSettled n m v s).station = s.station ∧
    (claimSettled n m v s).segs = s.segs ∧
    (claimSettled n m v s).odo = s.odo ∧
    (claimSettled n m v s).dosing = s.dosing ∧
    (claimSettled n m v s).host.reply = s.host.reply := by
  unfold claimSettled; (try dsimp only); (repeat' split) <;> simp

/-- What `claimReturns` leaves as it was. -/
@[simp] theorem claimReturns_frame (n : Nat) (s : State) :
    (claimReturns n s).pending = s.pending ∧
    (claimReturns n s).station = s.station ∧
    (claimReturns n s).segs = s.segs ∧
    (claimReturns n s).odo = s.odo ∧
    (claimReturns n s).motion = s.motion ∧
    (claimReturns n s).group = s.group ∧
    (claimReturns n s).dosing = s.dosing ∧
    (claimReturns n s).callout = s.callout ∧
    (claimReturns n s).host.reply = s.host.reply := by
  unfold claimReturns; (try dsimp only); (repeat' split) <;> simp

/-- What `endFlight` leaves as it was. -/
@[simp] theorem endFlight_frame (s : State) :
    (endFlight s).pending = s.pending ∧
    (endFlight s).station = s.station ∧
    (endFlight s).segs = s.segs ∧
    (endFlight s).claims = s.claims ∧
    (endFlight s).odo = s.odo ∧
    (endFlight s).motion = s.motion ∧
    (endFlight s).group = s.group ∧
    (endFlight s).dosing = s.dosing ∧
    (endFlight s).callout = s.callout ∧
    (endFlight s).host = s.host := by
  unfold endFlight; (try dsimp only); (repeat' split) <;> simp

/-- What `frameReturns` leaves as it was. -/
@[simp] theorem frameReturns_frame (b : Bool) (s : State) :
    (frameReturns b s).pending = s.pending ∧
    (frameReturns b s).station = s.station ∧
    (frameReturns b s).segs = s.segs ∧
    (frameReturns b s).odo = s.odo ∧
    (frameReturns b s).motion = s.motion ∧
    (frameReturns b s).group = s.group ∧
    (frameReturns b s).dosing = s.dosing ∧
    (frameReturns b s).host.reply = s.host.reply := by
  unfold frameReturns; (try dsimp only); (repeat' split) <;> simp

/-- What `wonNotice` leaves as it was. -/
@[simp] theorem wonNotice_frame (p : Payload) (s : State) :
    (wonNotice p s).pending = s.pending ∧
    (wonNotice p s).station = s.station ∧
    (wonNotice p s).channel = s.channel ∧
    (wonNotice p s).segs = s.segs ∧
    (wonNotice p s).odo = s.odo ∧
    (wonNotice p s).motion = s.motion ∧
    (wonNotice p s).group = s.group ∧
    (wonNotice p s).dosing = s.dosing ∧
    (wonNotice p s).callout = s.callout ∧
    (wonNotice p s).host = s.host := by
  unfold wonNotice; (try dsimp only); (repeat' split) <;> simp

/-- What `ownCalloutSent` leaves as it was. -/
@[simp] theorem ownCalloutSent_frame (n v : Nat) (s : State) :
    (ownCalloutSent n v s).pending = s.pending ∧
    (ownCalloutSent n v s).station = s.station ∧
    (ownCalloutSent n v s).channel = s.channel ∧
    (ownCalloutSent n v s).segs = s.segs ∧
    (ownCalloutSent n v s).claims = s.claims ∧
    (ownCalloutSent n v s).odo = s.odo ∧
    (ownCalloutSent n v s).motion = s.motion ∧
    (ownCalloutSent n v s).group = s.group ∧
    (ownCalloutSent n v s).dosing = s.dosing ∧
    (ownCalloutSent n v s).host.reply = s.host.reply := by
  unfold ownCalloutSent; (try dsimp only); (repeat' split) <;> simp

/-- What `relaySent` leaves as it was. -/
@[simp] theorem relaySent_frame (o n v : Nat) (s : State) :
    (relaySent o n v s).pending = s.pending ∧
    (relaySent o n v s).station = s.station ∧
    (relaySent o n v s).channel = s.channel ∧
    (relaySent o n v s).segs = s.segs ∧
    (relaySent o n v s).claims = s.claims ∧
    (relaySent o n v s).odo = s.odo ∧
    (relaySent o n v s).motion = s.motion ∧
    (relaySent o n v s).group = s.group ∧
    (relaySent o n v s).dosing = s.dosing ∧
    (relaySent o n v s).host = s.host := by
  unfold relaySent; (try dsimp only); (repeat' split) <;> simp

/-- The end of an own echo is the receiver's alone (R11). -/
@[simp] theorem echoEnds_frame (s : State) :
    (echoEnds s).pending = s.pending ∧
    (echoEnds s).station = s.station ∧
    (echoEnds s).segs = s.segs ∧
    (echoEnds s).claims = s.claims ∧
    (echoEnds s).odo = s.odo ∧
    (echoEnds s).motion = s.motion ∧
    (echoEnds s).group = s.group ∧
    (echoEnds s).dosing = s.dosing ∧
    (echoEnds s).callout = s.callout ∧
    (echoEnds s).host = s.host := by
  unfold echoEnds; split <;> simp

/-- What `frameSent` leaves as it was. -/
@[simp] theorem frameSent_frame (v : Nat) (s : State) :
    (frameSent v s).pending = s.pending ∧
    (frameSent v s).station = s.station ∧
    (frameSent v s).segs = s.segs ∧
    (frameSent v s).odo = s.odo ∧
    (frameSent v s).dosing = s.dosing ∧
    (frameSent v s).host.reply = s.host.reply := by
  unfold frameSent; (try dsimp only); (repeat' split) <;> simp

/-- What `ownCalloutUnheard` leaves as it was. -/
@[simp] theorem ownCalloutUnheard_frame (b : Bool) (n : Nat) (s : State) :
    (ownCalloutUnheard b n s).pending = s.pending ∧
    (ownCalloutUnheard b n s).station = s.station ∧
    (ownCalloutUnheard b n s).segs = s.segs ∧
    (ownCalloutUnheard b n s).odo = s.odo ∧
    (ownCalloutUnheard b n s).motion = s.motion ∧
    (ownCalloutUnheard b n s).group = s.group ∧
    (ownCalloutUnheard b n s).dosing = s.dosing ∧
    (ownCalloutUnheard b n s).host.reply = s.host.reply := by
  unfold ownCalloutUnheard; (try dsimp only); (repeat' split) <;> simp

/-- What `relayUnheard` leaves as it was. -/
@[simp] theorem relayUnheard_frame (b : Bool) (o n : Nat) (s : State) :
    (relayUnheard b o n s).pending = s.pending ∧
    (relayUnheard b o n s).station = s.station ∧
    (relayUnheard b o n s).segs = s.segs ∧
    (relayUnheard b o n s).odo = s.odo ∧
    (relayUnheard b o n s).motion = s.motion ∧
    (relayUnheard b o n s).group = s.group ∧
    (relayUnheard b o n s).dosing = s.dosing ∧
    (relayUnheard b o n s).host.reply = s.host.reply := by
  unfold relayUnheard; (try dsimp only); (repeat' split) <;> simp

/-- What `claimUnheard` leaves as it was. -/
@[simp] theorem claimUnheard_frame (b : Bool) (p : Payload) (n m : Nat) (s : State) :
    (claimUnheard b p n m s).pending = s.pending ∧
    (claimUnheard b p n m s).station = s.station ∧
    (claimUnheard b p n m s).segs = s.segs ∧
    (claimUnheard b p n m s).odo = s.odo ∧
    (claimUnheard b p n m s).motion = s.motion ∧
    (claimUnheard b p n m s).group = s.group ∧
    (claimUnheard b p n m s).dosing = s.dosing ∧
    (claimUnheard b p n m s).host.reply = s.host.reply := by
  unfold claimUnheard; (try dsimp only); (repeat' split) <;> simp

/-- What `unheard` leaves as it was. -/
@[simp] theorem unheard_frame (b : Bool) (p : Payload) (s : State) :
    (unheard b p s).pending = s.pending ∧
    (unheard b p s).station = s.station ∧
    (unheard b p s).segs = s.segs ∧
    (unheard b p s).odo = s.odo ∧
    (unheard b p s).motion = s.motion ∧
    (unheard b p s).group = s.group ∧
    (unheard b p s).dosing = s.dosing ∧
    (unheard b p s).host.reply = s.host.reply := by
  unfold unheard; (try dsimp only); (repeat' split) <;> simp

/-- What `silenceClaim` leaves as it was. -/
@[simp] theorem silenceClaim_frame (s : State) (r : OwnClaim) :
    (silenceClaim s r).pending = s.pending ∧
    (silenceClaim s r).station = s.station ∧
    (silenceClaim s r).segs = s.segs ∧
    (silenceClaim s r).odo = s.odo ∧
    (silenceClaim s r).motion = s.motion ∧
    (silenceClaim s r).group = s.group ∧
    (silenceClaim s r).dosing = s.dosing ∧
    (silenceClaim s r).callout = s.callout ∧
    (silenceClaim s r).host.reply = s.host.reply := by
  unfold silenceClaim; (try dsimp only); (repeat' split) <;> simp

/-- What `silenceCallout` leaves as it was. -/
@[simp] theorem silenceCallout_frame (s : State) (c : OwnCallout) :
    (silenceCallout s c).pending = s.pending ∧
    (silenceCallout s c).station = s.station ∧
    (silenceCallout s c).segs = s.segs ∧
    (silenceCallout s c).claims = s.claims ∧
    (silenceCallout s c).odo = s.odo ∧
    (silenceCallout s c).motion = s.motion ∧
    (silenceCallout s c).group = s.group ∧
    (silenceCallout s c).dosing = s.dosing ∧
    (silenceCallout s c).host.reply = s.host.reply := by
  unfold silenceCallout; (try dsimp only); (repeat' split) <;> simp

/-- What `silenceRelay` leaves as it was. -/
@[simp] theorem silenceRelay_frame (s : State) (e : RelayEntry) :
    (silenceRelay s e).pending = s.pending ∧
    (silenceRelay s e).station = s.station ∧
    (silenceRelay s e).segs = s.segs ∧
    (silenceRelay s e).claims = s.claims ∧
    (silenceRelay s e).odo = s.odo ∧
    (silenceRelay s e).motion = s.motion ∧
    (silenceRelay s e).group = s.group ∧
    (silenceRelay s e).dosing = s.dosing ∧
    (silenceRelay s e).host = s.host := by
  unfold silenceRelay; (try dsimp only); (repeat' split) <;> simp

/-- What `abandonCallout` leaves as it was. -/
@[simp] theorem abandonCallout_frame (s : State) (c : OwnCallout) :
    (abandonCallout s c).pending = s.pending ∧
    (abandonCallout s c).station = s.station ∧
    (abandonCallout s c).channel = s.channel ∧
    (abandonCallout s c).segs = s.segs ∧
    (abandonCallout s c).claims = s.claims ∧
    (abandonCallout s c).odo = s.odo ∧
    (abandonCallout s c).motion = s.motion ∧
    (abandonCallout s c).group = s.group ∧
    (abandonCallout s c).dosing = s.dosing ∧
    (abandonCallout s c).host.reply = s.host.reply := by
  unfold abandonCallout; (try dsimp only); (repeat' split) <;> simp

/-- What `abandonClaim` leaves as it was. -/
@[simp] theorem abandonClaim_frame (s : State) (r : OwnClaim) :
    (abandonClaim s r).pending = s.pending ∧
    (abandonClaim s r).station = s.station ∧
    (abandonClaim s r).segs = s.segs ∧
    (abandonClaim s r).odo = s.odo ∧
    (abandonClaim s r).motion = s.motion ∧
    (abandonClaim s r).group = s.group ∧
    (abandonClaim s r).dosing = s.dosing ∧
    (abandonClaim s r).callout = s.callout ∧
    (abandonClaim s r).host.reply = s.host.reply := by
  unfold abandonClaim; (try dsimp only); (repeat' split) <;> simp

/-- The queue and the flight of a channel controller that is off. -/
@[simp] theorem Channel.off_frame (c : Channel) : c.off.queue = [] ∧ c.off.flight = none := ⟨rfl, rfl⟩

/-- What folding `silenceClaim` leaves as it was. -/
@[simp] theorem foldl_silenceClaim_frame (l : List OwnClaim) (s : State) :
    (l.foldl silenceClaim s).pending = s.pending ∧
    (l.foldl silenceClaim s).station = s.station ∧
    (l.foldl silenceClaim s).segs = s.segs ∧
    (l.foldl silenceClaim s).odo = s.odo ∧
    (l.foldl silenceClaim s).motion = s.motion ∧
    (l.foldl silenceClaim s).group = s.group ∧
    (l.foldl silenceClaim s).dosing = s.dosing ∧
    (l.foldl silenceClaim s).callout = s.callout ∧
    (l.foldl silenceClaim s).host.reply = s.host.reply := by
  induction l generalizing s with
  | nil => simp
  | cons x r ih => simp [ih]

/-- What folding `silenceCallout` leaves as it was. -/
@[simp] theorem foldl_silenceCallout_frame (l : List OwnCallout) (s : State) :
    (l.foldl silenceCallout s).pending = s.pending ∧
    (l.foldl silenceCallout s).station = s.station ∧
    (l.foldl silenceCallout s).segs = s.segs ∧
    (l.foldl silenceCallout s).claims = s.claims ∧
    (l.foldl silenceCallout s).odo = s.odo ∧
    (l.foldl silenceCallout s).motion = s.motion ∧
    (l.foldl silenceCallout s).group = s.group ∧
    (l.foldl silenceCallout s).dosing = s.dosing ∧
    (l.foldl silenceCallout s).host.reply = s.host.reply := by
  induction l generalizing s with
  | nil => simp
  | cons x r ih => simp [ih]

/-- What folding `silenceRelay` leaves as it was. -/
@[simp] theorem foldl_silenceRelay_frame (l : List RelayEntry) (s : State) :
    (l.foldl silenceRelay s).pending = s.pending ∧
    (l.foldl silenceRelay s).station = s.station ∧
    (l.foldl silenceRelay s).segs = s.segs ∧
    (l.foldl silenceRelay s).claims = s.claims ∧
    (l.foldl silenceRelay s).odo = s.odo ∧
    (l.foldl silenceRelay s).motion = s.motion ∧
    (l.foldl silenceRelay s).group = s.group ∧
    (l.foldl silenceRelay s).dosing = s.dosing ∧
    (l.foldl silenceRelay s).host = s.host := by
  induction l generalizing s with
  | nil => simp
  | cons x r ih => simp [ih]

/-- What folding `abandonCallout` leaves as it was. -/
@[simp] theorem foldl_abandonCallout_frame (l : List OwnCallout) (s : State) :
    (l.foldl abandonCallout s).pending = s.pending ∧
    (l.foldl abandonCallout s).station = s.station ∧
    (l.foldl abandonCallout s).channel = s.channel ∧
    (l.foldl abandonCallout s).segs = s.segs ∧
    (l.foldl abandonCallout s).claims = s.claims ∧
    (l.foldl abandonCallout s).odo = s.odo ∧
    (l.foldl abandonCallout s).motion = s.motion ∧
    (l.foldl abandonCallout s).group = s.group ∧
    (l.foldl abandonCallout s).dosing = s.dosing ∧
    (l.foldl abandonCallout s).host.reply = s.host.reply := by
  induction l generalizing s with
  | nil => simp
  | cons x r ih => simp [ih]

/-- What folding `abandonClaim` leaves as it was. -/
@[simp] theorem foldl_abandonClaim_frame (l : List OwnClaim) (s : State) :
    (l.foldl abandonClaim s).pending = s.pending ∧
    (l.foldl abandonClaim s).station = s.station ∧
    (l.foldl abandonClaim s).segs = s.segs ∧
    (l.foldl abandonClaim s).odo = s.odo ∧
    (l.foldl abandonClaim s).motion = s.motion ∧
    (l.foldl abandonClaim s).group = s.group ∧
    (l.foldl abandonClaim s).dosing = s.dosing ∧
    (l.foldl abandonClaim s).callout = s.callout ∧
    (l.foldl abandonClaim s).host.reply = s.host.reply := by
  induction l generalizing s with
  | nil => simp
  | cons x r ih => simp [ih]

/-- What `goSilent` leaves as it was, and what it sets. -/
@[simp] theorem goSilent_frame (s : State) :
    (goSilent s).pending = s.pending ∧
    (goSilent s).segs = s.segs ∧
    (goSilent s).odo = s.odo ∧
    (goSilent s).motion = s.motion ∧
    (goSilent s).group = s.group ∧
    (goSilent s).dosing = s.dosing ∧
    (goSilent s).host.reply = s.host.reply ∧
    (goSilent s).station.clock = s.station.clock ∧
    (goSilent s).station.config = s.station.config ∧
    (goSilent s).station.configValid = s.station.configValid ∧
    (goSilent s).station.leavePending = s.station.leavePending ∧
    (goSilent s).station.neighbours = s.station.neighbours ∧
    (goSilent s).station.distance = s.station.distance ∧
    (goSilent s).station.state = .silent := by
  unfold goSilent; (try dsimp only); (repeat' split) <;> simp

/-- What `enterOffline` leaves as it was, and what it sets. -/
@[simp] theorem enterOffline_frame (s : State) :
    (enterOffline s).pending = s.pending ∧
    (enterOffline s).odo = s.odo ∧
    (enterOffline s).dosing = s.dosing ∧
    (enterOffline s).host.reply = s.host.reply ∧
    (enterOffline s).station.clock = s.station.clock ∧
    (enterOffline s).station.config = s.station.config ∧
    (enterOffline s).station.configValid = s.station.configValid ∧
    (enterOffline s).station.leavePending = false ∧
    (enterOffline s).station.neighbours = [] ∧
    (enterOffline s).station.state = .offline ∧
    (enterOffline s).claims.own = [] ∧
    (enterOffline s).claims.view = [] ∧
    (enterOffline s).callout.own = [] ∧
    (enterOffline s).callout.relay = [] ∧
    (enterOffline s).callout.recent = [] ∧
    (enterOffline s).group.holds = [] ∧
    (enterOffline s).group.retained = false ∧
    (enterOffline s).channel.queue = [] ∧
    (enterOffline s).channel.flight = none ∧
    (enterOffline s).motion.seizePeriod = none ∧
    (enterOffline s).motion.state = s.motion.state := by
  unfold enterOffline; (try dsimp only); (repeat' split) <;> simp

/-- What `settleLeave` leaves as it was, and what it sets. -/
@[simp] theorem settleLeave_frame (s : State) :
    (settleLeave s).pending = s.pending ∧
    (settleLeave s).odo = s.odo ∧
    (settleLeave s).dosing = s.dosing ∧
    (settleLeave s).host.reply = s.host.reply ∧
    (settleLeave s).station.clock = s.station.clock ∧
    (settleLeave s).station.config = s.station.config ∧
    (settleLeave s).station.configValid = s.station.configValid ∧
    (settleLeave s).motion.state = s.motion.state := by
  unfold settleLeave; (try dsimp only); (repeat' split) <;> simp

end Sys2Proof.Machine
end

