-- ==== Sys2Proof/Laws/Port.lean ====
section
/-! SUPPORT. What the edges of the host port do: which state they touch, and what eight bits of one byte come to. -/

namespace Sys2Proof.Machine

@[simp] theorem withTransaction_host (t : Transaction) (s : State) :
    (s.withTransaction t).host = { s.host with transaction := t } := rfl
@[simp] theorem withTransaction_pending (t : Transaction) (s : State) : (s.withTransaction t).pending = s.pending := rfl
@[simp] theorem handOn_host (c : Instr) (s : State) : (s.handOn c).host = s.host := rfl
@[simp] theorem handOn_pending (c : Instr) (s : State) : (s.handOn c).pending = s.pending ++ [c] := rfl

/-- `t` is `s` with commands handed on, or none, and another reply, another transaction and SEL held low or not. -/
def PortMoved (s t : State) : Prop :=
  ∃ (l : List Instr) (r : Option (List (BitVec 8))) (w : Bool) (u : Transaction),
    t = { s with pending := s.pending ++ l, host := { s.host with reply := r, heldSel := w, transaction := u } }

theorem portMoved_quiet (s : State) (r w u) :
    PortMoved s { s with host := { s.host with reply := r, heldSel := w, transaction := u } } :=
  ⟨[], r, w, u, by simp⟩

theorem portMoved_handOn (c : Instr) (u : Transaction) (s : State) : PortMoved s ((s.withTransaction u).handOn c) :=
  ⟨[c], s.host.reply, s.host.heldSel, u, rfl⟩

/-- An edge of the port's lines hands on a command or none, and changes the port alone; events and resets stay (R184). -/
theorem portEdge_moves (e : PortEdge) (s : State) : PortMoved s (s.portEdge e) := by
  have same : PortMoved s s := portMoved_quiet s _ _ _
  have moved (u : Transaction) : PortMoved s (s.withTransaction u) := portMoved_quiet s _ _ u
  unfold State.portEdge
  split
  · cases e
    · exact same
    · exact portMoved_quiet s none false _
    · exact same
    · exact moved _
  · cases e
    · dsimp only [State.selFalls]
      split
      · exact same
      · exact portMoved_quiet s none _ _
    · dsimp only [State.selRises]
      split
      · exact portMoved_handOn _ _ s
      · exact moved _
    · dsimp only [State.sckRises]
      split
      · split
        · exact portMoved_handOn _ _ s
        · exact moved _
      · exact same
    · dsimp only [State.sckFalls]
      split
      · exact moved _
      · exact same

/-- Bit `i` of the byte that one bit makes. -/
theorem one_bit (x : Bool) (i : Nat) (h : i < 8) : (if x then 1#8 else 0#8)[i] = (x && decide (i = 0)) := by
  revert h
  revert i x
  decide

/-- The bits of a byte, taken in most significant first, are that byte (R184). -/
theorem shift_bits (b r : BitVec 8) :
    (bitsOf b).foldl (fun (r : BitVec 8) x => (r <<< 1) ||| (if x then 1 else 0)) r = b := by
  ext i hi
  simp only [bitsOf, List.foldl]
  interval_cases i <;> simp [BitVec.getLsbD_eq_getElem, one_bit]

/-- The port takes in bits: it does not wait for SEL, and a transaction is under way (R184, R185). -/
def State.taking (s : State) : Prop := s.host.heldSel = false ∧ s.host.transaction.selected = true

@[simp] theorem clockIn_nil (s : State) : s.clockIn [] = s := rfl

theorem clockIn_cons (b : Bool) (l : List Bool) (s : State) :
    s.clockIn (b :: l) = ((s.portEdge (.sckRises b)).portEdge .sckFalls).clockIn l := rfl

theorem clockIn_append (l m : List Bool) (s : State) : s.clockIn (l ++ m) = (s.clockIn l).clockIn m := by
  simp [State.clockIn]

/-- One bit clocked in: it is counted and shifted, MISO moves on, and nothing else happens but that the bit which completes
the request hands it on (R184). -/
theorem clockIn_bit (b : Bool) (s : State) (h : s.taking) :
    s.clockIn [b] =
      { s with
        pending := s.pending ++ (if !s.host.transaction.full ∧ (s.host.transaction.shiftIn b).full then
          [decodeRequest (s.host.transaction.shiftIn b).bytes] else [])
        host := { s.host with transaction :=
          { s.host.transaction.shiftIn b with shown := s.host.transaction.shown + 1 } } } := by
  obtain ⟨h1, h2⟩ := h
  have e : s.portEdge (.sckRises b) = s.sckRises b := by simp [State.portEdge, State.portWaits, h1, h2]
  have w : (s.sckRises b).host = { s.host with transaction := s.host.transaction.shiftIn b } := by
    simp only [State.sckRises]
    split <;> rfl
  have e2 : (s.sckRises b).portEdge .sckFalls = (s.sckRises b).sckFalls := by
    have : (s.host.transaction.shiftIn b).selected = true := h2
    simp [State.portEdge, State.portWaits, w, h1, this]
  rw [clockIn_cons, clockIn_nil, e, e2]
  simp only [State.sckFalls, w]
  simp only [State.sckRises]
  split <;> simp [*, State.withTransaction, State.handOn, State.setPending, State.onHost] <;> rfl

/-- A clocked bit leaves the port taking in bits. -/
theorem taking_bit (b : Bool) (s : State) (h : s.taking) : (s.clockIn [b]).taking := by
  rw [clockIn_bit b s h]
  exact ⟨h.1, h.2⟩

/-- Short of the eighth, a bit completes no byte. -/
theorem shiftIn_short (b : Bool) (t : Transaction) (h : (t.count + 1) % 8 ≠ 0) :
    t.shiftIn b = { t with count := t.count + 1, shift := (t.shift <<< 1) ||| (if b then 1 else 0) } := by
  simp [Transaction.shiftIn, h]

/-- Up to seven bits from the start of a byte complete none (R184). -/
theorem clockIn_short (l : List Bool) (s : State) (h : s.taking) (c : s.host.transaction.count % 8 + l.length < 8) :
    s.clockIn l = s.withTransaction { s.host.transaction with
      count := s.host.transaction.count + l.length
      shift := l.foldl (fun (r : BitVec 8) x => (r <<< 1) ||| (if x then 1 else 0)) s.host.transaction.shift
      shown := s.host.transaction.shown + l.length } := by
  induction l generalizing s with
  | nil => rfl
  | cons b l ih =>
    have e : s.clockIn [b] = s.withTransaction { s.host.transaction with
        count := s.host.transaction.count + 1
        shift := (s.host.transaction.shift <<< 1) ||| (if b then 1 else 0)
        shown := s.host.transaction.shown + 1 } := by
      rw [clockIn_bit b s h, shiftIn_short]
      · simp [Transaction.full, State.withTransaction, State.onHost]
      · simp only [List.length_cons] at c
        omega
    rw [show b :: l = [b] ++ l from rfl, clockIn_append, e, ih]
    · simp [State.withTransaction, State.onHost, Nat.add_assoc, Nat.add_comm 1]
    · exact ⟨h.1, h.2⟩
    · simp only [List.length_cons, withTransaction_host] at c ⊢
      omega

/-- The eight bits of a byte, clocked in from the start of a byte while the request goes on, complete that byte, and hand on
the request where it is the last of it (R184). -/
theorem clockIn_byte (b : BitVec 8) (s : State) (h : s.taking) (c : s.host.transaction.count % 8 = 0)
    (f : s.host.transaction.full = false) (t : Transaction)
    (e : t = { s.host.transaction with
      count := s.host.transaction.count + 8, shift := b, bytes := s.host.transaction.bytes ++ [b],
      shown := s.host.transaction.shown + 8 }) :
    s.clockIn (bitsOf b) = { s with
      pending := s.pending ++ (if t.full then [decodeRequest t.bytes] else [])
      host := { s.host with transaction := t } } := by
  have split8 : bitsOf b = (bitsOf b).take 7 ++ [b.getLsbD 0] := rfl
  have r := shift_bits b s.host.transaction.shift
  rw [split8, List.foldl_append] at r
  simp only [List.foldl_cons, List.foldl_nil] at r
  have taking (u : Transaction) (hu : u.selected = s.host.transaction.selected) : (s.withTransaction u).taking :=
    ⟨h.1, hu.trans h.2⟩
  have full_eq (n m : Nat) (v : BitVec 8) : Transaction.full { s.host.transaction with
      count := n, shift := v, shown := m } = false := f
  have c8 : (s.host.transaction.count + 7 + 1) % 8 = 0 := by omega
  rw [split8, clockIn_append, clockIn_short _ s h (by simp [bitsOf, c])]
  refine (clockIn_bit _ _ (taking _ ?_)).trans ?_
  · rfl
  subst e
  have len : ((bitsOf b).take 7).length = 7 := rfl
  simp only [withTransaction_host, withTransaction_pending, Transaction.shiftIn, len, c8, full_eq, r]
  simp [State.withTransaction, State.onHost, Transaction.full]

/-- Bits after the last byte of the request are counted and ignored (R184). -/
theorem clockIn_full (l : List Bool) (s : State) (h : s.taking) (f : s.host.transaction.full = true) :
    s.clockIn l = s.withTransaction { s.host.transaction with
      count := s.host.transaction.count + l.length
      shift := l.foldl (fun (r : BitVec 8) x => (r <<< 1) ||| (if x then 1 else 0)) s.host.transaction.shift
      shown := s.host.transaction.shown + l.length } := by
  induction l generalizing s with
  | nil => rfl
  | cons b l ih =>
    have e : s.clockIn [b] = s.withTransaction { s.host.transaction with
        count := s.host.transaction.count + 1
        shift := (s.host.transaction.shift <<< 1) ||| (if b then 1 else 0)
        shown := s.host.transaction.shown + 1 } := by
      rw [clockIn_bit b s h]
      simp [Transaction.shiftIn, f, State.withTransaction, State.onHost]
    rw [show b :: l = [b] ++ l from rfl, clockIn_append, e, ih]
    · simp [State.withTransaction, State.onHost, Nat.add_assoc, Nat.add_comm 1]
    · exact ⟨h.1, h.2⟩
    · exact f

end Sys2Proof.Machine
end

