-- ==== Sys2Proof/Laws/Specs.lean ====
section
/-! SUPPORT. What the shared operations do, said once: the event queue, the transmit queue, requests while the port waits,
the ends of runs and frames, and the service distance. -/

namespace Sys2Proof.Machine

/-- When a FEED pulse of this moment is emitted (R158, R159). -/
theorem emitsPulse_iff (s : State) : s.emitsPulse = true ↔
    s.dosing.active = true ∧ s.cfg.feedCal ≤ s.dosing.stock ∧ 0 < s.dosing.rate := by
  simp [State.emitsPulse, and_assoc]

/-- When a second pulse of the present step of 1 ms stands out (R158). -/
theorem secondPulseDue_iff (s : State) : s.secondPulseDue = true ↔
    s.emitsPulse = true ∧ s.dosing.pulsesNow = 1 ∧ 16000 ≤ s.dosing.acc := by
  simp [State.secondPulseDue, and_assoc]

/-- A frame inserted stands in its place (R22). -/
theorem insertFrame_joins (f : Queued) (l : List Queued) : JoinsQueue f l (insertFrame f l) := by
  induction l with
  | nil => exact ⟨[], [], rfl, rfl, by simp, by simp⟩
  | cons q r ih =>
    obtain ⟨a, b, h1, h2, h3, h4⟩ := ih
    unfold insertFrame
    split
    · refine ⟨q :: a, b, by simp [h1], by simp [h2], ?_, h4⟩
      intro x hx
      rcases List.mem_cons.1 hx with h | h
      · subst h; assumption
      · exact h3 x h
    · refine ⟨[], q :: r, rfl, rfl, by simp, ?_⟩
      intro x hx
      simp at hx; subst hx; omega

/-- What queueing does to a queue that has room (R22, R23). -/
theorem queueFrame_room (b : Block) (p : Payload) (s : State) (h : s.hasRoom) :
    queueFrame b p s = { s with channel := { s.channel with
      queue := insertFrame ⟨p, p.priority, b, 0, s.channel.nextEntry⟩ s.channel.queue
      nextEntry := s.channel.nextEntry + 1 } } := by
  obtain ⟨h1, h2⟩ := h
  simp [queueFrame, h1, Config.txQueueCap, h2, enterQueue, State.onChannel]

/-- Queueing with room, in the terms of the statements. -/
theorem queueFrame_queues (b : Block) (p : Payload) (s : State) (h : s.hasRoom) :
    Queues b p s (queueFrame b p s) := by
  rw [queueFrame_room b p s h]
  exact ⟨insertFrame_joins _ _, rfl⟩

/-- Posting changes the event queue alone (R190). -/
theorem post_eq (e : Event) (s : State) :
    post e s = { s with host := { s.host with events := joinRecords s.station.clock s.host.events e } } := by
  simp only [post, joinRecords, State.onHost, State.now, Config.eventCap]
  by_cases h : s.host.events.length < 32 <;> simp [h]

/-- Recomputing the service distance sets it to what R43 gives, with an event where it changes. -/
theorem recomputeDistance_eq (s : State) :
    recomputeDistance s = { s with
      station := { s.station with distance := s.serviceDistance }
      host := { s.host with
        events := s.withEvents
          (if s.serviceDistance = s.station.distance then [] else [.distance s.station.distance s.serviceDistance]) } } := by
  unfold recomputeDistance
  by_cases h : s.serviceDistance = s.station.distance
  · simp [h, State.withEvents]
  · simp [h, State.withEvents, post_eq, State.onStation]

/-- The service distance of a ROBOT: one more than the nearest neighbour's, 15 at most (R43). -/
theorem serviceDistance_robot (s : State) (hv : s.station.configValid = true) (hc : s.station.config.cls = .robot) :
    s.serviceDistance ≤ 15 ∧ (∀ x ∈ s.station.neighbours, s.serviceDistance ≤ x.distance + 1) ∧
      (s.serviceDistance = 15 ∨ ∃ x ∈ s.station.neighbours, s.serviceDistance = x.distance + 1) := by
  simp only [State.serviceDistance, hv, if_true, State.cfg, hc]
  cases hm : (s.station.neighbours.map (·.distance)).min? with
  | none => simp at hm; simp [hm]
  | some d =>
    simp only [List.min?_eq_some_iff] at hm
    obtain ⟨h1, h2⟩ := hm
    refine ⟨by dsimp only; omega, ?_, ?_⟩
    · intro x hx
      have := h2 _ (List.mem_map_of_mem hx)
      dsimp only; omega
    · obtain ⟨x, hx, rfl⟩ := List.mem_map.1 h1
      dsimp only
      by_cases h15 : 15 ≤ 1 + x.distance
      · left; omega
      · right; exact ⟨x, hx, by omega⟩

/-- What a full queue may give up: nothing where only the frame in flight is queued, otherwise a frame that is not in
flight with the greatest priority value, of several the youngest (R23). -/
theorem giveUp_spec (fl : Option Nat) (l : List Queued) :
    (giveUp fl l = none → ∀ q ∈ l, fl = some q.entry) ∧
      ∀ v, giveUp fl l = some v → v ∈ l ∧ fl ≠ some v.entry ∧ ∀ q ∈ l, fl ≠ some q.entry →
        q.priority < v.priority ∨ (q.priority = v.priority ∧ q.entry ≤ v.entry) := by
  induction l with
  | nil => simp [giveUp]
  | cons q r ih =>
    obtain ⟨ih1, ih2⟩ := ih
    simp only [giveUp]
    cases hg : giveUp fl r with
    | none =>
      have h0 := ih1 hg
      constructor
      · intro h x hx
        dsimp only at h
        split at h
        · rcases List.mem_cons.1 hx with rfl | hx
          · assumption
          · exact h0 x hx
        · cases h
      · intro v h
        dsimp only at h
        split at h
        · cases h
        · cases h
          refine ⟨by simp, by assumption, fun x hx hne => ?_⟩
          rcases List.mem_cons.1 hx with rfl | hx
          · omega
          · exact absurd (h0 x hx) hne
    | some c =>
      obtain ⟨h1, h2, h3⟩ := ih2 c hg
      constructor
      · intro h
        dsimp only at h
        split at h <;> cases h
      · intro v h
        dsimp only at h
        split at h
        · rename_i hc
          cases h
          refine ⟨by simp, hc.1, fun x hx hne => ?_⟩
          rcases List.mem_cons.1 hx with rfl | hx
          · omega
          · have := h3 x hx hne; omega
        · rename_i hc
          cases h
          refine ⟨by simp [h1], h2, fun x hx hne => ?_⟩
          rcases List.mem_cons.1 hx with rfl | hx
          · by_contra h5; exact hc ⟨hne, by omega⟩
          · exact h3 x hx hne

/-- A frame of a plain kind that ends unsent only settles the unheard count (R16, R26). -/
theorem unsent_plain (p : Payload) (s : State) (h : p.plain = true) :
    unsent p s = { s with channel := { s.channel with unheardCount := quietCount s.channel.unheardCount } } := by
  cases p <;> simp_all [Payload.plain, unsent, noteOutcome, State.onChannel, quietCount]

/-- A delivered frame is acted on, and the frame is over (R11). -/
theorem receive_delivers (sender : Nat) (d : State → State) (s : State) (h : s.delivers sender) :
    receive sender d s = { d s with channel := (d s).channel.frameOver } := by
  obtain ⟨h0, h1, h2, h3⟩ := h
  have : ¬ (sender = 0 ∨ 254 < sender) := by omega
  simp [receive, State.receiverOn, h0, this, State.cfg, h3, State.onChannel]

/-- A request that the port takes answers what its meaning answers (R185). -/
@[simp] theorem whenTaken_taken (s : State) (r : Result) (h : s.host.heldSel = false) : whenTaken s r = r := by
  simp [whenTaken, State.portWaits, h]

/-- While the port waits for SEL a request is lost with its transaction (R185, R195). -/
@[simp] theorem whenTaken_waits (s : State) (r : Result) (h : s.host.heldSel = true) :
    whenTaken s r = .next { s with host := { s.host with reply := none, heldSel := false } } := by
  simp [whenTaken, State.portWaits, h, nothingTaken, State.onHost]

/-- What `Channel.broken` leaves as it was. -/
@[simp] theorem Channel.broken_frame (c : Channel) :
    c.broken.queue = c.queue ∧ c.broken.nextEntry = c.nextEntry ∧ c.broken.flight = c.flight ∧
    c.broken.unheardCount = c.unheardCount ∧ c.broken.noiseCount = c.noiseCount ∧ c.broken.assembler = c.assembler ∧
    c.broken.seizeLeft = c.seizeLeft ∧ c.broken.cuts = c.cuts := ⟨rfl, rfl, rfl, rfl, rfl, rfl, rfl, rfl⟩

/-- What `Channel.frameOver` leaves as it was. -/
@[simp] theorem Channel.frameOver_frame (c : Channel) :
    c.frameOver.queue = c.queue ∧ c.frameOver.nextEntry = c.nextEntry ∧ c.frameOver.flight = c.flight ∧
    c.frameOver.unheardCount = c.unheardCount ∧ c.frameOver.noiseCount = c.noiseCount ∧
    c.frameOver.seizeLeft = c.seizeLeft ∧ c.frameOver.cuts = c.cuts := ⟨rfl, rfl, rfl, rfl, rfl, rfl, rfl⟩

/-- What `Channel.addNoise` leaves as it was. -/
@[simp] theorem Channel.addNoise_frame (c : Channel) :
    c.addNoise.queue = c.queue ∧ c.addNoise.nextEntry = c.nextEntry ∧ c.addNoise.flight = c.flight ∧
    c.addNoise.unheardCount = c.unheardCount ∧ c.addNoise.condition = c.condition ∧ c.addNoise.idleCount = c.idleCount ∧
    c.addNoise.assembler = c.assembler ∧ c.addNoise.response = c.response ∧ c.addNoise.symbol = c.symbol ∧
    c.addNoise.run = c.run ∧ c.addNoise.seizeLeft = c.seizeLeft ∧ c.addNoise.cuts = c.cuts :=
  ⟨rfl, rfl, rfl, rfl, rfl, rfl, rfl, rfl, rfl, rfl, rfl, rfl⟩

/-- What `Channel.marked` leaves as it was. -/
@[simp] theorem Channel.marked_frame (c : Channel) :
    c.marked.queue = c.queue ∧ c.marked.nextEntry = c.nextEntry ∧ c.marked.flight = c.flight ∧
    c.marked.unheardCount = c.unheardCount ∧ c.marked.noiseCount = c.noiseCount ∧ c.marked.seizeLeft = c.seizeLeft ∧
    c.marked.cuts = c.cuts ∧ c.marked.response = c.response := by
  unfold Channel.marked
  split <;> simp [Channel.broken]

/-- What `Channel.ran` leaves as it was. -/
@[simp] theorem Channel.ran_frame (n : Nat) (c : Channel) :
    (c.ran n).queue = c.queue ∧ (c.ran n).nextEntry = c.nextEntry ∧ (c.ran n).flight = c.flight ∧
    (c.ran n).unheardCount = c.unheardCount ∧ (c.ran n).seizeLeft = c.seizeLeft ∧ (c.ran n).cuts = c.cuts := by
  unfold Channel.ran
  (repeat' split) <;> simp

/-- A run counts as noise exactly where R12 says: 2 to 23 symbols, no start mark, nothing of it counted before. -/
theorem Channel.ran_noise (n : Nat) (c : Channel) :
    (c.ran n).noiseCount =
      if 2 ≤ n ∧ n < 24 ∧ ¬ (n = 4 ∧ c.assembler = .hunt) ∧ c.runCounted = false then min 255 (c.noiseCount + 1)
      else c.noiseCount := by
  unfold Channel.ran
  split
  · next h => simp [h]
  split
  · next h => subst h; split <;> simp
  split
  · next h => simp [h.1, h.2, Config.markDominants]
  · next h0 h1 h2 =>
    simp only [Config.markDominants] at h2
    have : 2 ≤ n := by omega
    split
    · next h => simp_all [Config.seizeRun, Channel.addNoise]
    · next h =>
      simp only [Config.seizeRun, Bool.not_eq_true', not_and, Bool.not_eq_false] at h
      simp only [Channel.frameOver_frame, h2, not_false_iff, true_and, this]
      split
      · next k => simp [h k.1] at k
      · rfl

/-- What `Channel.unheard` leaves as it was. -/
@[simp] theorem Channel.unheard_frame (c : Channel) :
    c.unheard.queue = c.queue ∧ c.unheard.nextEntry = c.nextEntry ∧ c.unheard.flight = c.flight ∧
    c.unheard.unheardCount = c.unheardCount ∧ c.unheard.seizeLeft = c.seizeLeft ∧ c.unheard.cuts = c.cuts + 1 := by
  unfold Channel.unheard Channel.markEnds
  (repeat' split) <;> simp [Channel.quiet]

/-- What `Channel.seizeStopped` does beside the run that it ends. -/
@[simp] theorem Channel.seizeStopped_frame (n : Nat) (c : Channel) :
    (c.seizeStopped n).queue = c.queue ∧ (c.seizeStopped n).nextEntry = c.nextEntry ∧
    (c.seizeStopped n).flight = c.flight ∧ (c.seizeStopped n).unheardCount = c.unheardCount ∧
    (c.seizeStopped n).seizeLeft = 0 ∧ (c.seizeStopped n).run = 0 ∧ (c.seizeStopped n).runCounted = false ∧
    (c.seizeStopped n).cuts = c.cuts := by
  simp [Channel.seizeStopped]

/-- A station that has been silenced keys no seize and no response, and its queue and counts stay (R30). -/
@[simp] theorem Channel.silenced_frame (c : Channel) :
    c.silenced.seizeLeft = 0 ∧ c.silenced.response = none ∧ c.silenced.queue = c.queue ∧
    c.silenced.nextEntry = c.nextEntry ∧ c.silenced.flight = c.flight ∧ c.silenced.unheardCount = c.unheardCount ∧
    c.silenced.cuts = c.cuts := by
  unfold Channel.silenced
  split <;> simp_all

/-- A withdrawal, with the frame in flight in the queue: that frame alone may leave the flight, and where it does in its
gap or field its echo is still to end (R11, R25). -/
theorem withdraw_flying (p : Queued → Bool) (s : State) (f : Flight) (q : Queued) (h : s.Flying f q)
    (hq : s.QueueInOrder) :
    withdraw p s = { s with channel := { s.channel with
      queue := s.channel.queue.filter fun x => !p x
      flight := if p q then none else some f
      echo := s.channel.echo || (p q && s.channel.assembler.inField) } } := by
  obtain ⟨hf, hfind⟩ := h
  obtain ⟨-, hn, -, -⟩ := hq
  have hmem := List.mem_of_find?_eq_some hfind
  have he : q.entry = f.entry := by simpa using List.find?_some hfind
  have hany : (s.channel.queue.filter fun x => !p x).any (·.entry == f.entry) = !p q := by
    rw [Bool.eq_iff_iff]
    simp only [List.any_eq_true, List.mem_filter, beq_iff_eq, Bool.not_eq_true']
    constructor
    · rintro ⟨x, ⟨hx, hp⟩, hx2⟩
      have : x = q := List.inj_on_of_nodup_map hn hx hmem (by rw [hx2, he])
      rw [← this]; exact hp
    · intro hp; exact ⟨q, ⟨hmem, hp⟩, he⟩
  cases hpq : p q <;> simp [withdraw, State.onChannel, Channel.flightIn, hf, hany, hpq, Option.filter]

/-- What `Channel.seizeOver` does beside the run that it ends. -/
@[simp] theorem Channel.seizeOver_frame (c : Channel) :
    c.seizeOver.queue = c.queue ∧ c.seizeOver.nextEntry = c.nextEntry ∧ c.seizeOver.flight = c.flight ∧
    c.seizeOver.unheardCount = c.unheardCount ∧ c.seizeOver.seizeLeft = 0 ∧ c.seizeOver.run = 0 ∧
    c.seizeOver.runCounted = false ∧ c.seizeOver.cuts = c.cuts + 1 := by
  simp [Channel.seizeOver]

/-- The gap of another station's frame leaves everything but the receiver as it was (R10, R19). -/
theorem inGap_next (sender : Nat) (value : Option Nat) (s : State) :
    ∃ c : Channel, inGap sender value s = .next { s with channel := c } ∧
      c.queue = s.channel.queue ∧ c.flight = s.channel.flight ∧ c.noiseCount = s.channel.noiseCount ∧
      (c.response ≠ s.channel.response → c.assembler = .gap) := by
  unfold inGap
  split
  · exact ⟨_, rfl, rfl, rfl, rfl, fun _ => rfl⟩
  · exact ⟨s.channel, rfl, rfl, rfl, rfl, fun h => absurd rfl h⟩

/-- What hearing a neighbour does to the table, the event queue and the service distance (R40 to R43). -/
theorem hearNeighbour_eq (n : Neighbour) (s : State) :
    hearNeighbour n s = recomputeDistance { s with
      station := { s.station with
        neighbours :=
          (match s.station.neighbours.find? (·.station == n.station) with
            | some _ => s.station.neighbours.filter (fun x => !(x.station == n.station))
            | none =>
              if s.station.neighbours.length < 24 then s.station.neighbours else s.station.neighbours.drop 1) ++ [n] }
      host := { s.host with
        events := s.withEvents
          (match s.station.neighbours.find? (·.station == n.station) with
            | some old =>
              if { old with lastHeard := n.lastHeard, station := n.station } = n then [] else [.neighbourChanged n]
            | none =>
              if s.station.neighbours.length < 24 then [.neighbourNew n]
              else
                match s.station.neighbours with
                | [] => [.neighbourNew n]
                | h :: _ => [.neighbourLost h.station, .neighbourNew n]) } } := by
  unfold hearNeighbour
  cases hf : s.station.neighbours.find? (·.station == n.station) with
  | some old =>
    have hs := List.find?_some hf
    obtain ⟨a, b, c, d, e, f⟩ := old
    obtain ⟨a', b', c', d', e', f'⟩ := n
    simp at hs
    subst hs
    by_cases h : b = b' ∧ c = c' ∧ d = d' ∧ e = e'
    · obtain ⟨rfl, rfl, rfl, rfl⟩ := h
      simp [State.onStation, State.withEvents]
    · have h1 : b ≠ b' ∨ c ≠ c' ∨ d ≠ d' ∨ e ≠ e' := by
        by_contra h2
        simp only [not_or, not_not, ne_eq] at h2
        exact h ⟨h2.1, h2.2.1, h2.2.2.1, h2.2.2.2⟩
      simp [State.onStation, State.withEvents, h1, h, post_eq]
  | none =>
    by_cases hl : s.station.neighbours.length < 24
    · simp [hl, Config.neighbourCap, post_eq, State.onStation, State.withEvents]
    · simp only [hl, Config.neighbourCap, if_false]
      cases hn : s.station.neighbours with
      | nil => simp [post_eq, State.onStation, State.withEvents, hn]
      | cons h r => simp [post_eq, State.onStation, State.withEvents]

end Sys2Proof.Machine
end

