-- ==== Sys2Proof/Tests/Slice0.lean ====
section
/-! SUPPORT. Tests: ill-formed commands, the spec's worked examples, and for each statement states and operands that
meet its hypotheses. -/

namespace Sys2Proof.Tests

open Sys2Proof.Machine

/-! ## Small states -/

/-- The configuration of robot 12 of the worked sequences (sections 3.7 and 8.8). -/
def cfg12 : Configuration :=
  { Configuration.reset with
    station := 12, group := 3, width := 250, feedCal := 800, feedMax := 400, crawl := 300, accel := 50, decel := 100,
    countsPerMetre := 1000, decodeMode := .x4, warnThreshold := 3, warnDecrement := .by1, stuckThreshold := 8,
    stuckDecrement := .by1, holdResponse := true, sendHold := true, stride := 2, residualWindow := 60,
    lowStock := 20000, doses := List.replicate 24 15 }

/-- Segment 208 of section 3.7: 180 dm, four cells. -/
def seg208 : Segment := ⟨208, 180, 1200, .street, true, -50, [209], none, none, List.replicate 4 freshCell⟩

/-- An ACTIVE robot at work clock 100 on an idle channel, with one neighbour, a depot. -/
def robot : State :=
  { State.reset with
    station := { Station.reset with
      state := .active, configValid := true, config := cfg12, clock := 100, listenTimer := 2000, distance := 1,
      neighbours := [⟨3, .depot, 0, none, some 0, 90⟩] }
    channel := { Channel.reset with condition := .idle, idleCount := 16, assembler := .hunt }
    segs := ⟨[seg208], none, none⟩ }

/-- Robot 12 OFFLINE with a valid record. -/
def parked : State :=
  { robot with
    station := { robot.station with state := .offline, listenTimer := 0, neighbours := [], distance := 15 }
    channel := Channel.reset }

/-- A DEPOT, station 12, in ACTIVE. -/
def depot : State :=
  { robot with station := { robot.station with config := { cfg12 with cls := .depot }, distance := 0 } }

/-- A claim of robot 12 on segment 208 in a claim state. -/
def claim208 (st : ClaimState) : OwnClaim := ⟨208, .salt, 1, 160, st, .none, some 95, false, 0⟩

/-- Robot 12 on segment 208 in a motion state, its claim HOLDING. -/
def on208 (m : MotionState) : State :=
  { robot with
    claims := ⟨[claim208 .holding], [], 0⟩
    odo := { robot.odo with entry := some ⟨208, .forward, 18000, 0, false⟩ }
    segs := { robot.segs with pass := some ⟨0, 10, 10, 0, 15, 0⟩ }
    motion := { robot.motion with
      state := m
      ceiling := if m = .run ∨ m = .caution ∨ m = .stopping then 1200 else 0
      faults := if m = .faultStop then ⟨true, false, false, false⟩ else FaultSet.empty } }

/-- Robot 12 in ACTIVE with a frame of its own in flight, its arbitration won or not yet. -/
def flying (won : Bool) (b : Block) (p : Payload) : State :=
  { robot with
    channel := { robot.channel with
      condition := .busy, idleCount := 0, assembler := .header, queue := [⟨p, p.priority, b, 5, 0⟩], nextEntry := 1,
      flight := some ⟨0, won, frameImage 12 p.priority p⟩ } }

/-- The frame in flight of `flying`. -/
def flight (won : Bool) (p : Payload) : Flight := ⟨0, won, frameImage 12 p.priority p⟩

/-- The queue entry of `flying`. -/
def entry (b : Block) (p : Payload) : Queued := ⟨p, p.priority, b, 5, 0⟩

/-- A command's next state, the state itself where it has none. -/
def after (c : Instr) (s : State) : State :=
  match exec c s with
  | .next t => t
  | _ => s

/-- The fields of a Configure request in range: the record of robot 12. -/
def fields12 : ConfigureFields :=
  ⟨12, 0, 3, 250, 800, 400, 300, 50, 100, 1000, 4, 3, 1, 8, 1, 1, 0, 1, 0, 2, 60, 20000, 64, List.replicate 24 15⟩

/-- The fields of a Load Segment request in range. -/
def load209 : LoadFields := ⟨209, 3200, 4000, 3, 1, 200, 1, [208, 0, 0, 0]⟩

/-! ## Ill-formed commands (WellFormed) -/

theorem test_ill_code : (Instr.unknownRequest 0x19).wellFormed = false := by decide
theorem test_ill_code_wide : (Instr.unknownRequest 256).wellFormed = false := by decide
theorem test_ill_configure : (Instr.configure { fields12 with width := 65536 }).wellFormed = false := by decide
theorem test_ill_configure_stock : (Instr.configure { fields12 with lowStock := 4294967296 }).wellFormed = false := by
  decide
theorem test_ill_configure_doses : (Instr.configure { fields12 with doses := [0] }).wellFormed = false := by decide
theorem test_ill_configure_dose :
    (Instr.configure { fields12 with doses := 256 :: List.replicate 23 0 }).wellFormed = false := by decide
theorem test_ill_load : (Instr.loadSegment { load209 with defaultTemp := 32768 }).wellFormed = false := by decide
theorem test_ill_load_adjacent : (Instr.loadSegment { load209 with adjacent := [1] }).wellFormed = false := by decide
theorem test_ill_segment : (Instr.readSegment 65536).wellFormed = false := by decide
theorem test_ill_cells : (Instr.readCells 1 256 0).wellFormed = false := by decide
theorem test_ill_temperature : (Instr.reportTemperature 1 (-32769)).wellFormed = false := by decide
theorem test_ill_stock : (Instr.loadStock 4294967296).wellFormed = false := by decide
theorem test_ill_beacon : (Instr.setBeacon 256).wellFormed = false := by decide
theorem test_ill_sensed : (Instr.sentResponded 65535).wellFormed = false := by decide
theorem test_ill_sender : (Instr.go 0 3).wellFormed = false := by decide
theorem test_ill_sender_wide : (Instr.objection 255 208 1 100 0).wellFormed = false := by decide
theorem test_ill_refresh : (Instr.refresh 4001).wellFormed = false := by decide
theorem test_ill_view : (Instr.claimViewExpiry 208 255).wellFormed = false := by decide
theorem test_ill_backoff : (Instr.calloutBackoff 256).wellFormed = false := by decide
theorem test_well_formed : (Instr.configure fields12).wellFormed = true ∧ (Instr.loadSegment load209).wellFormed = true := by
  decide

/-! ## The spec's worked examples -/

/-- Section 1.3, check byte example: RESUME of station 12 for group 3. -/
theorem test_check_byte : checkByte [0x27, 0x0C, 0x01, 0x03] = 0x9B ∧ checkByte [0x27, 0x0C, 0x01] = 0x85 := by decide +kernel
theorem test_resume_image : frameImage 12 1 (.resume 3) = [0x27, 0x0C, 0x01, 0x03, 0x9B] := by decide +kernel
/-- Table of R7: a RESUME lasts 85 symbols, a PRESENCE 133. -/
theorem test_frame_symbols : (frameSymbols (frameImage 12 1 (.resume 3))).length = 85 ∧
    (frameSymbols (frameImage 12 6 (.presence 0 1 2 3))).length = 133 := by decide +kernel
/-- R1, R9: the symbols of two responses on the air at once are those of the bitwise AND: 0x4D1F and 0x5028. -/
theorem test_responses_together : List.zipWith (fun a b => onAir [a, b]) (responseSymbols 0x4D1F) (responseSymbols 0x5028) =
    responseSymbols 0x4008 := by decide
theorem test_resume_heard : hearFrame 5 0xFFFF [0x27, 0x0C, 0x01, 0x03, 0x9B] = .resume 12 3 := by decide +kernel
theorem test_damaged_frame : hearFrame 5 0xFFFF [0x27, 0x0C, 0x01, 0x02, 0x9B] = .frameDiscarded .checkByte := by decide +kernel
theorem test_own_number_heard : hearFrame 12 0xFFFF [0x27, 0x0C, 0x01, 0x03, 0x9B] = .duplicateStation := by decide +kernel
theorem test_wrong_length : hearFrame 5 0xFFFF [0x27, 0x0C, 0x02, 0x03, 0x9B] = .frameDiscarded .header := by decide

/-- Section 11.3: requests byte by byte; multi-byte fields most significant byte first (R197). -/
theorem test_request_enter : decodeRequest [0x10, 0x00, 0xD0, 0x01] = .enterSegment 208 1 := by decide
theorem test_request_temperature : decodeRequest [0x0B, 0x00, 0xD0, 0xFF, 0xCE] = .reportTemperature 208 (-50) := by
  decide
theorem test_request_callout : decodeRequest [0x19, 0x01, 0x0F, 0xA0, 0x3F, 0x01, 0x00] = .raiseCallout 1 4000 63 256 := by
  decide
theorem test_request_short : decodeRequest [0x18, 0x00, 0x00, 0x4E] = .transactionAborted := by decide
theorem test_request_stock : decodeRequest [0x18, 0x00, 0x00, 0x4E, 0x21, 0xA5] = .loadStock 20001 := by decide
/-- Table of section 11.3: Configure has 58 bytes, Load Segment 20, Raise Callout 7, Take Event 1. -/
theorem test_request_lengths : [0x03, 0x04, 0x19, 0x02].map (fun c => (requestWidths c).map fun w => 1 + totalWidth w) =
    [some 58, some 20, some 7, some 1] := by decide
/-- The bytes of a Configure at their places: residual window 41st, low stock threshold after it, 24 doses last. -/
theorem test_request_configure : ((encodeRequest (.configure fields12)).map fun bs => (bs.length, bs.drop 27 |>.take 8)) =
      some (58, [0x02, 0x3C, 0x00, 0x00, 0x4E, 0x20, 0x40, 0x0F]) ∧
    (encodeRequest (.configure fields12)).map decodeRequest = some (.configure fields12) := by decide
theorem test_request_undefined : decodeRequest [0x1A] = .unknownRequest 0x1A := by decide
theorem test_no_word : decodeTableWord 8 0 = none := by decide

/-- Table of R101: 13,000 counts, 1,000 counts per metre. -/
theorem test_positions : [(-350 : Int), 0, 4999, 5000, 9999, 10000, 12999, 13000, 13420].map (accounting 13000) =
    [0, 0, 4999, 5000, 9999, 10000, 12999, 12999, 12999] ∧
    [0, 4999, 5000, 9999, 10000, 12999].map (cellIndex cfg12) = [0, 0, 1, 1, 2, 2] := by decide
/-- R102: 1,250 counts per metre, p = 6,251. -/
theorem test_position_mm : positionMm { cfg12 with countsPerMetre := 1250 } 6251 = 5000 := by decide
/-- R47, section 3.7: 180 dm are three cells of 50 dm and one of 30 dm. -/
theorem test_cells : cellCount 180 = 4 ∧ cellLength 180 2 = 50 ∧ cellLength 180 3 = 30 := by decide
/-- Section 5.5: +280 counts at 1,000 counts per metre are 1,120 mm/s. -/
theorem test_speed : sampleSpeed cfg12 280 = 1120 := by decide
/-- Section 3.6, residual example. -/
theorem test_residual : [1000, 4600, 4601, 8200, 8201].map
    (fun now => residual 60 now ⟨false, none, 15, some 1000, false⟩) = [15, 15, 7, 7, 0] := by decide
/-- Section 3.7: delivered doses of the worked sequence. -/
theorem test_delivered : [(230, 50), (236, 50), (190, 50), (138, 30)].map
    (fun x => deliveredDose cfg12 x.1 x.2) = [15, 15, 12, 15] := by decide
/-- R156: the formula gives 4, held at 100. -/
theorem test_salt_limit : saltLimit { cfg12 with feedMax := 10, feedCal := 100, width := 400 } 60 = some 100 := by decide
/-- R69: the highest and lowest ranks. -/
theorem test_ranks : claimRank 0 .transit 0 = 240 ∧ claimRank 3 .plow 15 = 1 ∧ claimRank 3 .plow 200 = 1 := by decide

/-- Stock example, section 8.8: Load Stock with 20,001 g. -/
theorem test_load_stock : (after (.loadStock 20001) robot).dosing.stock = 20001000 ∧
    (after (.loadStock 20001) robot).dosing.low = false := by decide

/-- Robot 12 feeding at 1,120 mm/s with the given stock in mg. -/
def feeding (stock : Nat) : State :=
  { on208 .run with
    odo := { (on208 .run).odo with speed := 1120 }
    dosing := ⟨stock, false, true, 15, 15, some 4000, 840, false, 16100, 0⟩ }

/-- Stock example, section 8.8: the second pulse leaves 19,999,400 mg and sets the low flag. -/
theorem test_second_pulse : (after .feedPulse (feeding 20000200)).dosing.stock = 19999400 ∧
    (after .feedPulse (feeding 20000200)).dosing.low = true ∧
    (after .feedPulse (feeding 20000200)).callout.own.map (fun c => (c.code, c.detail)) = [(6, 19)] := by decide
/-- Stock example, section 8.8: at 1,500 mg the next pulse leaves 700 and ends the feed. -/
theorem test_last_pulse : (after .feedPulse { feeding 1500 with
      dosing := { (feeding 1500).dosing with low := true } }).dosing.stock = 700 ∧
    (after .feedPulse { feeding 1500 with dosing := { (feeding 1500).dosing with low := true } }).dosing.active = false ∧
    (after .feedPulse { feeding 1500 with
      dosing := { (feeding 1500).dosing with low := true } }).callout.own.map (fun c => (c.code, c.detail)) = [(5, 700)] := by
  decide

/-- Robot 12 on segment 208, the last three samples and the present ceiling at 1,200, with `n` net counts. -/
def overspeeding (run : Nat) (n : Int) : State :=
  { on208 .run with
    odo := { (on208 .run).odo with net := n }
    motion := { (on208 .run).motion with history := [1200, 1200, 1200, 1200], overspeedRun := run } }

/-- R130, the example after it: a speed of 1,351 or more at a third sample stops the robot; 1,350 does not. At 1,000
counts per metre a sample is a multiple of 4 mm/s: 338 counts are 1,352, 337 are 1,348. -/
theorem test_overspeed : (after .speedSample (overspeeding 2 338)).motion.state = .faultStop ∧
    (after .speedSample (overspeeding 1 338)).motion.state = .run ∧
    (after .speedSample (overspeeding 2 337)).motion.state = .run := by decide

/-! ## States and operands that meet the hypotheses of each statement -/

/-- Nothing is in an empty list. -/
theorem none_in {α : Type} {P : α → Prop} {l : List α} (h : l = []) : ∀ x ∈ l, P x := by
  subst h
  exact fun _ h => nomatch h

theorem witness_StepTakesFrontCommand : (robot.setPending [.leave, .noise]).pending = .leave :: [.noise] := by decide

/-- Robot 12 feeding, one FEED pulse of the present millisecond out and the accumulator at `acc`. -/
def firstPulseOut (acc : Nat) : State :=
  { feeding 1600 with dosing := { (feeding 1600).dosing with acc := acc, pulsesNow := 1 } }

theorem witness_TimePasses : robot.station.clock < 4294967295 ∧ robot.pending = [] ∧
    { robot with station := { robot.station with clock := 4294967295 } }.station.clock = 4294967295 ∧
    ((firstPulseOut 16000).pending = [] ∧ (firstPulseOut 16000).dosing.active = true ∧
      cfg12.feedCal ≤ (firstPulseOut 16000).dosing.stock ∧ 0 < (firstPulseOut 16000).dosing.rate ∧
      (firstPulseOut 16000).dosing.pulsesNow = 1 ∧ 16000 ≤ (firstPulseOut 16000).dosing.acc) ∧
    robot.dosing.active = false ∧ (feeding 799).dosing.stock < cfg12.feedCal ∧ robot.dosing.rate = 0 ∧
    (feeding 1600).dosing.pulsesNow ≠ 1 ∧ (firstPulseOut 15999).dosing.acc < 16000 := by decide
/-- R158: a millisecond gives one FEED pulse among its commands, though two are due; the second is judged 500 µs
later, after them, and a warning that the sample of the boundary enters has ended the feed by then. -/
theorem test_second_pulse_waits :
    (tickMs { feeding 1600 with dosing := { (feeding 1600).dosing with acc := 15999, rate := 32000 } }).dosing.acc = 47999 ∧
    (dueFirst (firstPulseOut 47999)).count .feedPulse = 1 ∧
    (firstPulseOut 16000).secondPulseDue = true ∧ (firstPulseOut 15999).secondPulseDue = false ∧
    (feeding 1600).secondPulseDue = false ∧ (after .feedPulse (firstPulseOut 31999)).secondPulseDue = false ∧
    (after (.scannerSample true false) { firstPulseOut 16000 with motion := { (firstPulseOut 16000).motion with
      warnCounter := cfg12.warnThreshold } }).secondPulseDue = false := by decide

/-- NOISE, a command that owns none of them. -/
theorem witness_OwnersAloneChangeClockRecordAndStock : (∃ t, exec .noise robot = .next t) ∧
    Instr.noise ≠ .workClockTick ∧ isReset .noise = false ∧ Instr.noise ≠ .powerOn ∧ Instr.noise ≠ .resetN ∧
    (∀ f, Instr.noise ≠ .configure f) ∧ (∀ b, Instr.noise ≠ .setBeacon b) ∧ Instr.noise ≠ .feedPulse ∧
    ∀ g, Instr.noise ≠ .loadStock g :=
  ⟨⟨_, rfl⟩, by decide, by decide, by decide, by decide, nofun, nofun, by decide, nofun⟩

/-- NOISE, a command that owns none of them, at a robot with a claim and an entry. -/
theorem witness_SamplesLatchesAndRecordsHaveTheirOwners : (∃ t, exec .noise (on208 .run) = .next t) ∧
    isReset .noise = false ∧ (∀ f, Instr.noise ≠ .configure f) ∧ Instr.noise ≠ .speedSample ∧
    (∀ e b, Instr.noise ≠ .wheelCount e b) ∧ Instr.noise ≠ .decodeError ∧ (∀ n d, Instr.noise ≠ .enterSegment n d) ∧
    Instr.noise ≠ .stopRoute ∧ Instr.noise ≠ .leave ∧ (∀ w p, Instr.noise ≠ .scannerSample w p) ∧
    (∀ f, Instr.noise ≠ .loadSegment f) ∧ Instr.noise ≠ .clearSegments :=
  ⟨⟨_, rfl⟩, by decide, nofun, by decide, nofun, by decide, nofun, by decide, by decide, nofun, nofun, by decide⟩

/-- A queue of two frames, the first in flight, and a command waiting. -/
def busyRobot : State :=
  { on208 .run with
    pending := [.sent]
    channel := { (flying true .motion (.guest 208 0 1)).channel with
      queue := [entry .motion (.guest 208 0 1), ⟨.go 3, 1, .group, 0, 1⟩], nextEntry := 2 } }

theorem witness_EveryStepKeepsTheTables : busyRobot.Bounded ∧ busyRobot.Keyed ∧ ∃ t, step busyRobot = .next t := by
  refine ⟨?_, ?_, _, rfl⟩
  · unfold State.Bounded
    decide
  · unfold State.Keyed
    decide

theorem witness_EveryStepKeepsTheQueueInOrder : busyRobot.QueueInOrder ∧ ∃ t, step busyRobot = .next t := by
  refine ⟨⟨by decide, by decide, by decide, ?_⟩, _, rfl⟩
  intro f h
  cases h
  exact ⟨_, List.mem_cons_self, rfl⟩

theorem witness_EveryStepKeepsTheMotionLaw : busyRobot.MotionLaw ∧ ∃ t, step busyRobot = .next t := by
  refine ⟨⟨by decide, by decide, by decide, by decide, by decide, by decide, by decide, ?_, by decide, by decide⟩, _, rfl⟩
  intro r h
  cases (rfl : busyRobot.currentRecord = some seg208).symm.trans h
  decide

/-- Robot 12 in SILENT. -/
def silent : State := { robot with station := { robot.station with state := .silent } }

theorem witness_EveryStepKeepsOfflineOffTheAir : parked.station.state = .offline ∧ parked.OffTheAir ∧
    silent.station.state ≠ .active ∧ silent.OffTheAir ∧ robot.station.state = .active ∧ robot.OffTheAir ∧
    ∃ t, step (parked.setPending [.join]) = .next t := by
  refine ⟨rfl, ?_, by decide, ?_, rfl, ?_, _, rfl⟩
  all_goals
    unfold State.OffTheAir
    decide

theorem witness_EveryStepKeepsTheFeedLaw : (feeding 20000200).FeedLaw ∧ (feeding 20000200).dosing.active = true ∧
    ∃ t, step ((feeding 20000200).setPending [.feedPulse]) = .next t := by
  refine ⟨?_, rfl, _, rfl⟩
  unfold State.FeedLaw
  decide

/-- Robot 12 whose port came out of a reset with SEL low. -/
def lateSel : State := { robot with host := { robot.host with heldSel := true } }

theorem witness_RestartValues : robot.host.heldSel = false ∧ robot.station.configValid = true ∧ robot.station.config.cls = .robot ∧
    depot.station.configValid = true ∧ depot.station.config.cls = .depot := by decide

theorem witness_RequestsOutsideTheTableAreRefused : robot.host.heldSel = false ∧ isRequest .join = true ∧ admits .join .active false .robot = false ∧
    isRequest (.releaseClaim 208) = true ∧ admits (.releaseClaim 208) .listening false .robot = false ∧
    isRequest .start = true ∧ admits .start .active false .depot = false ∧
    isRequest .sendGo = true ∧ admits .sendGo .active true .robot = false := by decide

theorem witness_RefusalsLeaveTheState : isRequest .start = true ∧ ∃ t, exec .start robot = .next t ∧
    t.host.reply = some [0x06] ∧ (0x06 : BitVec 8) ≠ 0x00 := ⟨by decide, _, rfl, by decide, by decide⟩

/-- A robot with a STATION event in its event queue. -/
def told : State :=
  { robot with host := { robot.host with events := [⟨.stationState .join .offline .listening, 5, true⟩] } }

/-- A port that waits for SEL and one that does not; the codes at both ends of the undefined ranges; an empty event queue
and one with a record. -/
theorem witness_TransactionsAndEvents : (lateSel.host.heldSel = true ∧ isRequest .restart = true) ∧
    (robot.host.heldSel = false ∧ told.host.heldSel = false) ∧ (0 < 1 ∧ (0x00 = 0 ∨ 0x19 < 0x00)) ∧ (0x1A = 0 ∨ 0x19 < 0x1A) ∧
    robot.host.events = [] ∧ told.host.events = ⟨.stationState .join .offline .listening, 5, true⟩ :: [] := by decide
/-- The record of `told` as TAKE_EVENT replies it (R191, R197). -/
theorem test_take_event : ((after .takeEvent told).host.reply.map fun r => r.take 8) =
    some [0x00, 0x00, 0x01, 0x00, 0x00, 0x00, 0x05, 0x80] := by decide
/-- A robot on whose port SEL has fallen. -/
def selected : State := robot.portEdge .selFalls

/-- The level of MISO before each of `n` bits that the host clocks in as 0, and after the last. -/
def misoBits : Nat → State → List Bool
  | 0, s => [s.misoLevel]
  | n + 1, s => s.misoLevel :: misoBits n (s.clockIn [false])

/-- R184: Read Claims (0x0F) is taken with its eighth bit, and MISO then carries the filler value 0xA5 and the reply: OK, no
deferral, no record, no entry. -/
theorem test_port_lines : (selected.clockIn [false, false, false, false, true, true, true]).pending = [] ∧
    (selected.clockIn [false, false, false, false, true, true, true, true]).pending = [.readClaims] ∧
    (let s := selected.clockIn [false, false, false, false, true, true, true, true]
     misoBits 16 (after .readClaims s)) =
      [true, false, true, false, false, true, false, true] ++ List.replicate 8 false ++ [false] := by decide +kernel
/-- R195: a port that came out of a reset with SEL low carries the filler value at MISO, and takes nothing. -/
theorem test_port_waits : misoBits 8 lateSel = [true, false, true, false, false, true, false, true, true] ∧
    (lateSel.clockIn (bitsOf 0x07)).pending = [] ∧ (lateSel.portEdge .selRises).host.heldSel = false := by decide +kernel
/-- R185: a request cut short in its second byte is TRANSACTION_ABORTED; the next transaction starts afresh. -/
theorem test_port_cut : ((selected.clockIn (bitsOf 0x0E ++ [true, false])).portEdge .selRises).pending =
      [.transactionAborted] ∧
    ((((selected.clockIn [true]).portEdge .selRises).portEdge .selFalls).clockIn (bitsOf 0x06)).pending =
      [.transactionAborted, .join] ∧
    ((selected.clockIn (bitsOf 0x1A ++ bitsOf 0x06)).portEdge .selRises).pending = [.unknownRequest 0x1A] := by decide
/-- R185, R195: with SEL low since the reset a request is lost, and the one in the next transaction is taken. -/
theorem test_waits_for_sel : (after .readClaims lateSel).host.reply = none ∧
    (after .readClaims (after .readClaims lateSel)).host.reply = some [0x00, 0x00, 0x00, 0x00] := by decide
theorem test_attn : told.attn = true ∧ robot.attn = false := by decide

theorem witness_ReadsChangeNothingElse : robot.host.heldSel = false ∧ robot.segs.records.find? (·.number == 208) = some seg208 ∧
    robot.segs.records.find? (·.number == 4000) = none := by decide

/-- A port with no transaction under way, one that waits for SEL, and one in the second bit of the second reply byte: byte 3,
`Leave` being one byte long. -/
theorem witness_RequestBytesDecodeToTheRequest_lines : robot.host.heldSel = false ∧
    robot.host.transaction.selected = false ∧ lateSel.host.heldSel = true ∧ encodeRequest .leave = some [0x07] ∧
    (8 * 3 + 1 = (selected.clockIn (bitsOf 0x07 ++ List.replicate 17 false)).host.transaction.shown) ∧
    (selected.clockIn (bitsOf 0x07 ++ List.replicate 17 false)).host.transaction.bytes = [0x07] ∧
    selected.host.transaction.bytes = [] ∧ ((0x00 : BitVec 8) = 0 ∧ (0x19 : BitVec 8) < 0x1A) := by decide +kernel

theorem witness_RequestBytesDecodeToTheRequest : (Instr.configure fields12).wellFormed = true ∧
    (encodeRequest (.configure fields12)).isSome = true ∧ (Instr.reportTemperature 65535 (-32768)).wellFormed = true ∧
    encodeRequest (.reportTemperature 65535 (-32768)) = some [0x0B, 0xFF, 0xFF, 0x80, 0x00] := by decide

theorem witness_FrameBytesDeliverThePayload : 1 ≤ 1 ∧ 254 ≤ 254 ∧ 254 ≠ 12 ∧ 7 < 8 ∧
    payloadFits (.callout 255 255 255 65535 255 255 255 65535) = true := by decide

/-- The feed as its conditions have it, no longer so, not yet so, and after a change of the need. -/
theorem witness_EndOfStepSettlesTheFeed : robot.station.leavePending = false ∧
    ((feeding 800).dosing.active = (feeding 800).feedShouldRun ∧ (feeding 800).dosing.dose = (feeding 800).dosing.need) ∧
    ((feeding 799).dosing.active = true ∧ (feeding 799).feedShouldRun = false) ∧
    ({ feeding 800 with dosing := ⟨800, false, false, 15, 0, none, 0, false, 0, 0⟩ }.feedShouldRun = true) ∧
    ({ feeding 800 with dosing := { (feeding 800).dosing with need := 7 } }.feedShouldRun = true) := by decide

/-- Field 1 is out of range, then the crawl speed, which is field 7; a ROBOT's record and a DEPOT's, in range at both
ends. -/
theorem witness_ConfigureTakesTheRecordOrNamesTheFault : parked.station.state = .offline ∧ parked.host.heldSel = false ∧
    FirstOut (configureField { fields12 with station := 0 }) 47 1 ∧
    FirstOut (configureField { fields12 with crawl := 801, stride := 9 }) 47 7 ∧
    (¬ ConfigureInRange { fields12 with crawl := 801, stride := 9 } ∧ fields12.doses.length ≤ 24) ∧
    ConfigureInRange fields12 ∧ ConfigureInRange { fields12 with station := 254, cls := 1, doses := List.replicate 24 60 } ∧
    parked.OffTheAir := by
  refine ⟨rfl, rfl, ⟨by decide, by decide, ?_, ?_⟩, ⟨by decide, by decide, ?_, ?_⟩, ⟨?_, by decide⟩, ?_, ?_, ?_⟩
  · simp [configureField]
  · omega
  · simp [configureField]
  · intro m h1 h2
    obtain rfl | rfl | rfl | rfl | rfl | rfl : m = 1 ∨ m = 2 ∨ m = 3 ∨ m = 4 ∨ m = 5 ∨ m = 6 := by omega
    all_goals simp [configureField, fields12]
  all_goals
    first | unfold ConfigureInRange | unfold State.OffTheAir
    decide
/-- Section 11.3: the last dose is field 47. -/
theorem test_configure_fault : (after (.configure { fields12 with doses := List.replicate 23 0 ++ [61] }) parked).host.reply =
    some [0x02, 47] := by decide

theorem witness_JoinEntersListening : parked.host.heldSel = false ∧ (parked.station.state = .offline ∧ parked.station.configValid = true) ∧
    (robot.station.state ≠ .offline ∧ State.reset.station.configValid = false) := by decide

/-- A Leave pending; a route; none, with a HOLDING claim and with a QUEUED one. -/
theorem witness_LeaveInActive : (on208 .run).host.heldSel = false ∧
    ({ robot with station := { robot.station with leavePending := true } }.station.leavePending = true) ∧
    ((on208 .run).station.state = .active ∧ (on208 .run).station.leavePending = false ∧ (on208 .run).isRobot = true ∧
      (on208 .run).odo.entry ≠ none) ∧
    ((on208 .run).Keyed ∧ (on208 .run).channel.queue.length + (on208 .run).claims.own.length + 3 ≤ 8 ∧
      claim208 .holding ∈ (on208 .run).claims.own ∧ ∀ v, ¬ (on208 .run).TellsAgainst 208 .salt 160 v) ∧
    (∀ st, st = .holding ∨ st = .queued → ∀ s : State, s = { robot with claims := ⟨[claim208 st], [], 0⟩ } →
      s.station.state = .active ∧ s.station.leavePending = false ∧ s.odo.entry = none ∧ s.motion.state = .idle ∧
      s.channel.queue.length + s.claims.own.length < 8) := by
  refine ⟨rfl, rfl, by decide, ⟨by unfold State.Keyed; decide, by decide, by decide, ?_⟩, ?_⟩
  · rintro v ⟨h, -⟩
    exact nomatch h
  · rintro st (rfl | rfl) s rfl <;> decide
theorem test_leave_route : (after .leave (on208 .run)).channel.queue.map (·.payload) = [.release 208] ∧
    (after .leave (on208 .run)).claims.own = [] := by decide

/-- A Leave pending, with the RELEASE frames that it waits for. -/
def leaving (waits : List Nat) : State :=
  { flying true .claims (.release 208) with
    station := { robot.station with leavePending := true, leaveFrames := waits } }

/-- LISTENING and SILENT; one of its frames queued, none, and the last one in flight. -/
theorem witness_LeaveCompletes : robot.host.heldSel = false ∧
    ((leaving [0]).station.state = .active ∧ (∃ q ∈ (leaving [0]).channel.queue, q.entry ∈ (leaving [0]).station.leaveFrames) ∧
      (∀ q ∈ (leaving [1]).channel.queue, q.entry ∉ (leaving [1]).station.leaveFrames) ∧
      (leaving [0]).Flying (flight true (.release 208)) (entry .claims (.release 208)) ∧
      ∀ x ∈ (leaving [0]).channel.queue, x.entry ≠ 0 → x.entry ∉ (leaving [0]).station.leaveFrames) ∧
    ({ robot with station := { robot.station with state := .listening } }.station.state = .listening) ∧
    ({ robot with station := { robot.station with state := .silent } }.station.state = .silent) ∧
    ({ robot with station := { robot.station with leavePending := true } }.station.leavePending = true) := by
  refine ⟨rfl, ⟨rfl, by decide, by decide, ⟨rfl, rfl⟩, by decide⟩, rfl, rfl, rfl⟩
/-- R32: the last RELEASE frame gone, the station is OFFLINE. -/
theorem test_leave_sent : (after .sent (leaving [0])).station.state = .offline := by decide

/-- A robot with a PRESENCE frame that waits. -/
def waiting : State :=
  { robot with channel := { robot.channel with queue := [entry .station (.presence 0 1 0 3)], nextEntry := 1 } }

/-- A robot that listens; an ACTIVE one without a PRESENCE frame queued, with one in flight, and with one that waits. -/
theorem witness_PresenceIsQueued :
    (robot.channel.queue.length < 8 ∧ robot.station.state = .active ∧ robot.station.leavePending = false ∧
      ∀ q ∈ robot.channel.queue, q.payload.isPresence = true → robot.channel.flight.map (·.entry) = some q.entry) ∧
    ({ robot with station := { robot.station with state := .listening } }.channel.condition ≠ .jammed) ∧
    (∀ q ∈ (flying true .station (.presence 0 1 0 3)).channel.queue, q.payload.isPresence = true →
      (flying true .station (.presence 0 1 0 3)).channel.flight.map (·.entry) = some q.entry) ∧
    waiting.channel.queue.find? (fun x => x.payload.isPresence &&
      !(waiting.channel.flight.map (·.entry) == some x.entry)) = some (entry .station (.presence 0 1 0 3)) := by decide

/-- A robot whose neighbour table is full. -/
def crowded : State :=
  { robot with station := { robot.station with
    neighbours := (List.range 24).map fun n => ⟨n + 20, .robot, 3, none, none, 80 + n⟩ } }

theorem witness_PresenceTeachesANeighbour :
    robot.delivers 254 ∧ 1 < 2 ∧ 15 < 16 ∧ classOf 1 = some .depot ∧ 15 ≤ 15 ∧
    robot.station.neighbours.find? (·.station == 3) = some ⟨3, .depot, 0, none, some 0, 90⟩ ∧
    (robot.station.neighbours.find? (·.station == 254) = none ∧ robot.station.neighbours.length < 24) ∧
    (crowded.station.neighbours.find? (·.station == 254) = none ∧ 24 ≤ crowded.station.neighbours.length) := by
  unfold State.delivers
  decide

/-- One second before its time, and at it. -/
theorem witness_NeighbourLostAndDistance :
    (∀ x ∈ { robot with station := { robot.station with clock := 119 } }.station.neighbours, x.station = 3 →
      119 < x.lastHeard + 30) ∧
    (∃ x ∈ robot.station.neighbours, x.station = 3 ∧ x.lastHeard + 30 ≤ 120) ∧
    robot.station.configValid = true ∧ robot.station.config.cls = .robot := by decide
theorem test_neighbour_lost :
    (after (.neighbourLost 3) { robot with station := { robot.station with clock := 120 } }).station.distance = 15 := by
  decide

/-- A robot on a BUSY channel that has been quiet for 15 symbols. -/
def quiet : State := { robot with channel := { robot.channel with condition := .busy, idleCount := 15, assembler := .waitIdle } }

/-- Robot 12 in the start mark of its own frame. -/
def starting (won : Bool) (p : Payload) : State :=
  { flying won .group p with channel := { (flying won .group p).channel with assembler := .hunt } }

/-- The same start mark, its frame withdrawn. -/
def withdrawnMark : State :=
  { starting false (.go 3) with channel := { (starting false (.go 3)).channel with queue := [], flight := none } }

/-- Robot 12 in the gap of its own frame, which it has withdrawn. -/
def withdrawnGap : State :=
  { robot with channel := { robot.channel with condition := .busy, idleCount := 0, assembler := .gap, echo := true } }

theorem witness_ReceiverSenses : parked.station.state = .offline ∧ robot.station.state ≠ .offline ∧
    (quiet.channel.condition = .busy ∧ quiet.channel.atRest = true) ∧
    ({ robot with channel := { robot.channel with condition := .jammed } }.channel.condition = .jammed) ∧
    (robot.channel.flight = none ∧ robot.channel.condition = .idle ∧ robot.channel.assembler = .hunt) ∧
    ((starting false (.go 3)).channel.assembler = .hunt ∧ (starting false (.go 3)).channel.flight ≠ none ∧
      (flying false .group (.go 3)).channel.assembler ≠ .hunt) ∧ quiet.channel.condition ≠ .idle ∧ robot.channel.assembler.inFrame = false ∧
    (withdrawnMark.channel.flight = none ∧ withdrawnMark.channel.condition = .busy ∧ withdrawnMark.channel.assembler = .hunt) ∧
    (quiet.channel.assembler ≠ .hunt ∧ quiet.channel.flight = none ∧ quiet.channel.echo = false) ∧
    (withdrawnGap.channel.flight = none ∧ withdrawnGap.channel.echo = true) := by decide
/-- R10: the start mark of a withdrawn frame takes HUNT to HEADER, and the last spacer of one that was keyed whole
takes GAP to WAIT_IDLE. -/
theorem test_withdrawn : (after .startMark withdrawnMark).channel.assembler = .header ∧
    (after .sent withdrawnGap).channel.assembler = .waitIdle ∧ (after .sent withdrawnGap).channel.echo = false := by decide

theorem witness_FramesNotDelivered : frameSender (.go 0 3) = some 0 ∧ frameSender (.go 255 3) = some 255 ∧
    frameSender (.go 12 3) = some robot.station.config.station ∧ robot.station.state ≠ .offline ∧
    parked.station.state = .offline := by decide

theorem witness_SeizeStartsCaution : robot.station.state ≠ .offline ∧ robot.channel.flight = none ∧
    (depot.isRobot = false) ∧ (robot.isRobot = true ∧ robot.motion.state ≠ .run) ∧
    ((on208 .run).isRobot = true ∧ (on208 .run).motion.state = .run ∧ (on208 .run).channel.flight = none) ∧
    ({ robot.channel with seizeLeft := 24 }.seizeLeft ≠ 0) ∧ robot.channel.seizeLeft = 0 ∧
    ({ robot with channel := { robot.channel with seizeLeft := 24, run := 24 } }.seizeRunLength = 24) := by decide

/-- Robot 12 with a seize of its own, `n` dominant symbols sensed, in an assembler state. -/
def seizing (n : Nat) (a : Assembler) : State :=
  { robot with channel := { robot.channel with seizeLeft := 24, run := n, assembler := a } }

/-- A run of 23; one of 1 that no symbol has been added to, outside a frame and in one; one of 0. -/
theorem witness_SeizeStartsCaution_run : (seizing 23 .hunt).seizeRunLength = 23 ∧
    (Config.keyedUntil 0 % 23 = 0 → (seizing 1 .hunt).seizeRunLength = 1 ∧ (seizing 1 .body).seizeRunLength = 1) ∧
    (Config.keyedUntil 0 % 24 = 0 → (seizing 0 .body).seizeRunLength = 0) ∧
    (seizing 1 .hunt).channel.assembler.inFrame = false ∧ (seizing 1 .body).channel.assembler.inFrame = true := by
  simp [State.seizeRunLength, seizing, robot, Channel.reset, Assembler.inFrame, Nat.mod_one]
theorem test_seize : (after .seize (on208 .run)).motion.state = .caution ∧
    (after .seize (on208 .run)).motion.ceiling = 300 := by decide

theorem witness_FrameStartsAndWins :
    (∃ q r, { robot with channel := { robot.channel with queue := [entry .group (.go 3)] } }.channel.queue = q :: r) ∧
    (robot.station.state = .active ∧ robot.channel.condition = .idle ∧ robot.channel.flight = none ∧
      robot.channel.seizeLeft = 0) ∧ quiet.channel.condition ≠ .idle ∧
    ((flying false .group (.go 3)).Flying (flight false (.go 3)) (entry .group (.go 3)) ∧
      (flight false (.go 3)).won = false ∧ (Payload.go 3).plain = true) ∧
    ((flying false .claims (.claim 208 1 160 0)).Flying (flight false (.claim 208 1 160 0))
      (entry .claims (.claim 208 1 160 0))) ∧
    ((flying false .group (.go 3)).channel.assembler = .header ∧ (flying false .group (.go 3)).channel.seizeLeft = 0 ∧
      (starting false (.go 3)).channel.assembler = .hunt ∧
      { (flying false .group (.go 3)).channel with assembler := .gap }.assembler = .gap ∧
      [true, true] <+: frameSymbols (flight false (.go 3)).image ∧
      ¬ [true, false] <+: frameSymbols (flight false (.go 3)).image) :=
  ⟨⟨_, _, rfl⟩, by decide, by decide, ⟨⟨rfl, rfl⟩, rfl, rfl⟩, ⟨rfl, rfl⟩, rfl, rfl, rfl, rfl, by decide +kernel,
    by decide +kernel⟩
/-- R13, R14, R17: TXKEY in the first symbols of a frame, after a mismatch, and past the check byte. -/
theorem test_txkey : [[], [true, true, true, true], [true, true, true, true, false], [true, false]].map
      (flying false .group (.go 3)).txkey = [true, false, true, false] ∧
    (flying false .group (.go 3)).txkey (frameSymbols (flight false (.go 3)).image) = false ∧
    robot.txkey [] = false ∧ { robot with channel := { robot.channel with seizeLeft := 1 } }.txkey [] = true := by
  decide +kernel
/-- R17: the sender keys nothing in its own gap and field. -/
theorem test_txkey_gap : ([Assembler.gap, .response].map fun a => [0, 3, 30].map fun k =>
    { flying true .claims (.claim 208 1 160 0) with channel := { (flying true .claims (.claim 208 1 160 0)).channel with
      assembler := a } }.txkeyNow k) = [[false, false, false], [false, false, false]] := by decide
/-- R10: a frame starts in HUNT; its start mark takes it to HEADER. -/
theorem test_own_start_mark : (after .frameStart { robot with channel := { robot.channel with
      queue := [entry .group (.go 3)] } }).channel.assembler = .hunt ∧
    (after .startMark (starting false (.go 3))).channel.assembler = .header ∧
    { (starting false (.go 3)).channel with symbol := 4 }.advance.assembler = .header := by decide
/-- R10: the header is complete at symbol 53; an own CLAIM of 149 symbols up to its check byte is then in its gap. -/
theorem test_assembler_advances :
    ((flying true .group (.go 3)).channel.advance.assembler, { (flying true .group (.go 3)).channel with
      symbol := 49 }.advance.assembler) = (.header, .body) ∧
    (let c := { (flying true .claims (.claim 208 1 160 0)).channel with assembler := .body, symbol := 148 }
     (c.advance.assembler, c.advance.symbol, c.advance.advance.assembler)) = (.gap, 3, .response) := by decide +kernel

/-- A frame of the given payload in flight, robot 12 holding the claim 208 in a claim state. -/
def contested (won : Bool) (st : ClaimState) (p : Payload) : State :=
  { flying won .claims p with claims := ⟨[claim208 st], [], 0⟩ }

/-- Each command that stops a frame, at a plain frame, a REFRESH claim, a NEW claim, one with a release pending, and
an old frame; a hearer. -/
theorem witness_StoppedFrameKeepsItsPlace : robot.channel.flight = none ∧
    ((flying false .group (.go 3)).station.state ≠ .offline ∧
      (flying false .group (.go 3)).Flying (flight false (.go 3)) (entry .group (.go 3)) ∧
      (entry .group (.go 3)).age < (Payload.go 3).staleLimit ∧ (flight false (.go 3)).won = false ∧
      (Payload.go 3).plain = true ∧ (flying false .group (.go 3)).motion.state ≠ .run ∧
      ∀ n i r, (entry .group (.go 3)).payload ≠ .claim n i r 0) ∧
    (contested true .holding (.claim 208 1 160 1)).Flying (flight true (.claim 208 1 160 1))
      (entry .claims (.claim 208 1 160 1)) ∧
    ((contested true .contesting (.claim 208 1 160 0)).Flying (flight true (.claim 208 1 160 0))
        (entry .claims (.claim 208 1 160 0)) ∧
      (contested true .contesting (.claim 208 1 160 0)).claims.own.find? (·.segment == 208) =
        some (claim208 .contesting) ∧ (claim208 .contesting).releasePending = false ∧
      { claim208 .contesting with releasePending := true }.releasePending = true) ∧
    (Payload.go 3).staleLimit ≤ { entry .group (.go 3) with age := 2000 }.age ∧
    { (flying true .group (.go 3)).channel with seizeLeft := 24 }.seizeLeft ≠ 0 ∧
    ((flying true .group (.go 3)).channel.assembler.inFrame = true ∧ (starting true (.go 3)).channel.assembler = .hunt) :=
  ⟨rfl, ⟨by decide, ⟨rfl, rfl⟩, by decide, rfl, rfl, by decide, nofun⟩, ⟨rfl, rfl⟩, ⟨⟨rfl, rfl⟩, rfl, rfl, rfl⟩, by decide,
    by decide, rfl, rfl⟩
/-- R12: a collision counts the frame once, and a seize that cut it does not. -/
theorem test_collision_noise : (after .collided (flying true .group (.go 3))).channel.noiseCount = 1 ∧
    (after .collided (after (.frameDiscarded .codingViolation) (flying true .group (.go 3)))).channel.noiseCount = 1 ∧
    (after .seize (requestSeize (flying true .group (.go 3)))).channel.noiseCount = 0 := by decide
/-- R4, R10, R12: a dominant run of a frame in assembly and of no frame, by its length; one counted already. -/
theorem test_run_ends : ([0, 1, 2, 23, 24].map fun n => (Channel.ran n (flying true .group (.go 3)).channel).noiseCount) =
      [0, 0, 1, 1, 0] ∧
    ([1, 2, 4, 5].map fun n => (Channel.ran n robot.channel).assembler) = [.waitIdle, .waitIdle, .header, .waitIdle] ∧
    (Channel.ran 23 { robot.channel with runCounted := true }).noiseCount = 0 := by decide
/-- R4: an own seize stopped with 23 symbols sensed has ended a run of 23. -/
theorem test_seize_run (s : State) (h : s.channel.run = 23) : s.seizeRunLength = 23 := by
  simp [State.seizeRunLength, h, Nat.mod_one]
/-- R24: a frame past its stale limit does not come back to the queue. -/
theorem test_stopped_stale : (after .collided { flying true .group (.go 3) with channel := {
    (flying true .group (.go 3)).channel with queue := [{ entry .group (.go 3) with age := 2000 }] } }).channel.queue = [] := by
  decide
/-- R5: an own seize keyed onto a seize heard makes no second SEIZE; one keyed alone makes one, in its sixth
millisecond. -/
theorem test_one_seize_a_run :
    (tickMs (requestSeize (after .seize robot))).channel.run = 28 ∧
    reached 24 (requestSeize (after .seize robot)).channel.run 28 = false ∧
    ([0, 4, 8, 12, 16, 20, 24].map fun n => reached 24 n (n + 4)) =
      [false, false, false, false, false, true, false] := by decide
/-- R128: the period that reaches 10,000 ms in the millisecond of an own SEIZE has ended before it. -/
theorem test_caution_period_first :
    ((idle { on208 .caution with
      channel := { robot.channel with condition := .busy, assembler := .waitIdle, seizeLeft := 28, run := 20 },
      motion := { (on208 .caution).motion with
        seizePeriod := some 9999, rampMs := 1, scanMs := 1 } }).pending.filter fun c =>
          c = .seize ∨ c = .seizeCautionPeriod) = [.seizeCautionPeriod, .seize] := by decide +kernel

/-- The unheard count of a state at `n`. -/
def unheardAt (n : Nat) (s : State) : State := { s with channel := { s.channel with unheardCount := n } }

theorem test_unheard_silent : (after .txUnheard (unheardAt 2 (flying true .group (.go 3)))).station.state = .silent ∧
    (after .txUnheard (unheardAt 1 (flying true .group (.go 3)))).station.state = .active := by decide
/-- R30: the third unheard frame takes the seize with it that a guest asked for in its last symbols. -/
theorem test_unheard_seize : (after .txUnheard (unheardAt 2 (requestSeize (flying true .group (.go 3))))).channel.seizeLeft =
    0 ∧ (requestSeize (flying true .group (.go 3))).channel.seizeLeft = 48 := by decide

/-- A queue of one frame, in flight, is in order. -/
theorem flying_inOrder (won : Bool) (b : Block) (p : Payload) : (flying won b p).QueueInOrder := by
  refine ⟨List.pairwise_singleton _ _, (by decide : ([0] : List Nat).Nodup), ?_, ?_⟩
  · intro q h
    cases List.mem_singleton.mp h
    exact Nat.zero_lt_one
  · intro f h
    cases h
    exact ⟨_, List.mem_singleton.mpr rfl, rfl⟩

/-- The own callout of GUEST_BLOCKED with `n` attempts behind it. -/
def callout0 (n : Nat) : OwnCallout := ⟨1, 208, 2, 120, 0, n, .queued⟩

/-- Its frame in flight. -/
def calling (n : Nat) : State :=
  { flying true .callout (.callout 12 0 1 208 2 0 1 120) with callout := { robot.callout with own := [callout0 n] } }

/-- A relay entry with `n` attempts behind it. -/
def relay1 (n : Nat) : RelayEntry := ⟨31, 7, 1, 208, 2, 120, 1, n, .queued⟩

/-- Its forward frame in flight. -/
def relaying (n : Nat) : State :=
  { flying true .callout (.callout 31 7 1 208 2 1 1 120) with callout := { robot.callout with relay := [relay1 n] } }

/-- The first symbol of a start mark and a later one; a NEW claim, one with a release pending, a REFRESH, an own
callout and a relay; the third time, with and without a Leave pending. -/
theorem witness_SentOrUnheardFrameIsRemoved : (flying true .group (.go 3)).QueueInOrder ∧
    ((unheardAt 1 (flying true .group (.go 3))).Flying (flight true (.go 3)) (entry .group (.go 3)) ∧
      (unheardAt 1 (flying true .group (.go 3))).channel.unheardCount < 2 ∧ (Payload.go 3).plain = true) ∧
    ((starting true (.go 3)).channel.assembler = .hunt ∧ (flying true .group (.go 3)).channel.assembler ≠ .hunt ∧
      (flying true .group (.go 3)).channel.queue.length ≤ 8 ∧
      (flying true .group (.go 3)).station.state ≠ .offline) ∧
    ((contested true .contesting (.claim 208 1 160 0)).claims.own.find? (·.segment == 208) = some (claim208 .contesting) ∧
      (claim208 .contesting).releasePending = false ∧
      { claim208 .contesting with releasePending := true }.releasePending = true) ∧
    ((contested true .holding (.claim 208 1 160 1)).claims.own.find? (·.segment == 208) = some (claim208 .holding) ∧
      (claim208 .holding).state = .holding ∧ (contested true .holding (.claim 208 1 160 1)).Keyed) ∧
    ((calling 0).callout.own.find? (·.seq == 0) = some (callout0 0) ∧ (calling 0).Bounded ∧ (calling 0).Keyed) ∧
    ((relaying 0).callout.relay.find? (fun y => y.origin == 31 && y.seq == 7) = some (relay1 0) ∧
      31 ≠ (relaying 0).station.config.station) ∧
    ((unheardAt 2 (flying true .group (.go 3))).station.state = .active ∧
      2 ≤ (unheardAt 2 (flying true .group (.go 3))).channel.unheardCount ∧
      (unheardAt 2 (flying true .group (.go 3))).station.leavePending = false) ∧
    { (flying true .group (.go 3)).station with leavePending := true }.leavePending = true :=
  ⟨flying_inOrder _ _ _, ⟨⟨rfl, rfl⟩, by decide, rfl⟩, by decide, by decide,
    ⟨rfl, rfl, by unfold State.Keyed; decide⟩, ⟨rfl, by unfold State.Bounded; decide, by unfold State.Keyed; decide⟩,
    by decide, by decide, rfl⟩
/-- R3, R4: a start mark unheard at its first symbol leaves the channel idle; unheard after one, two and four symbols it
broke the count, was noise, and was sensed whole. -/
theorem test_unheard_after : ([0, 1, 2, 4].map fun n =>
      (((starting true (.go 3)).channel.markEnds n).condition, ((starting true (.go 3)).channel.markEnds n).assembler,
        ((starting true (.go 3)).channel.markEnds n).noiseCount)) =
    [(.idle, .hunt, 0), (.busy, .waitIdle, 0), (.busy, .waitIdle, 1), (.busy, .header, 0)] := by decide
theorem test_unheard_claim : (after .txUnheard (contested true .contesting (.claim 208 1 160 0))).claims.own.map (·.state) =
      [.queued] ∧
    (after .txUnheard (contested true .contesting (.claim 208 1 160 0))).channel.queue.map (·.entry) = [1] ∧
    (after .txUnheard (unheardAt 2 (relaying 0))).callout.recent.map (·.origin) = [31] := by decide

/-- Robot 12 on segment 208 with a frame of that claim in flight. -/
def contestedHere (m : MotionState) (p : Payload) : State :=
  { on208 m with channel := (flying true .claims p).channel }

/-- The value of a stronger station, this claim's own value, and one above it: 160 * 256 + 12 = 40972. A refresh, not
occupied and occupied, against an occupied objector of the number below and one not below, and one not occupied. -/
theorem witness_ContestEnds : (contested true .contesting (.claim 208 1 160 0)).QueueInOrder ∧
    (contested true .contesting (.claim 208 1 160 0)).Flying (flight true (.claim 208 1 160 0))
      (entry .claims (.claim 208 1 160 0)) ∧
    (contested true .contesting (.claim 208 1 160 0)).claims.own.find? (·.segment == 208) = some (claim208 .contesting) ∧
    (claim208 .contesting).state = .contesting ∧ (claim208 .contesting).releasePending = false ∧
    (contested true .contesting (.claim 208 1 160 0)).Keyed ∧ (contested true .contesting (.claim 208 1 160 0)).Bounded ∧
    40972 ≤ (claim208 .contesting).rank * 256 + 12 ∧ (claim208 .contesting).rank * 256 + 12 < 40973 ∧
    { claim208 .contesting with releasePending := true }.releasePending = true ∧
    ((contestedHere .run (.claim 208 1 160 1)).Flying (flight true (.claim 208 1 160 1))
        (entry .claims (.claim 208 1 160 1)) ∧
      (contestedHere .run (.claim 208 1 160 1)).currentSegment = some 208 ∧
      (contestedHere .run (.claim 208 1 160 1)).motion.state ≠ .idle ∧
      (contestedHere .idle (.claim 208 1 160 1)).motion.state = .idle) ∧
    ((11 / 256 = 0 ∧ 11 % 256 < 12) ∧ 12 ≤ 12 % 256 ∧ 256 / 256 ≠ 0) ∧
    (contestedHere .run (.claim 208 1 160 1)).mayRaise ∧
    (contestedHere .faultStop (.claim 208 1 160 1)).motion.state = .faultStop :=
  ⟨flying_inOrder _ _ _, ⟨rfl, rfl⟩, rfl, rfl, rfl, by unfold State.Keyed; decide, by unfold State.Bounded; decide,
    by decide, by decide, rfl, ⟨⟨rfl, rfl⟩, by decide, by decide, by decide⟩, by decide, by unfold State.mayRaise; decide, rfl⟩
theorem test_refresh_ends : (after (.sentResponded 11) (contestedHere .run (.claim 208 1 160 1))).motion.state = .faultStop ∧
    (after (.sentResponded 13) (contestedHere .run (.claim 208 1 160 1))).motion.state = .run ∧
    (after (.sentResponded 13) (contestedHere .idle (.claim 208 1 160 1))).claims.own = [] ∧
    (after .sent (contestedHere .run (.claim 208 1 160 1))).claims.own.map (·.lastSend) = [some 100] := by decide
theorem test_claim_lost : ((after (.sentResponded 11) (contestedHere .run (.claim 208 1 160 1))).callout.own.map
      fun c => (c.code, c.segment, c.cell, c.detail)) = [(3, 208, 0, 256)] := by decide
theorem test_contest_won :
    (after .sent (contested true .contesting (.claim 208 1 160 0))).claims.own.map (·.state) = [.holding] ∧
    (after (.sentResponded 40971) (contested true .contesting (.claim 208 1 160 0))).claims.own = [] ∧
    (after (.sentResponded 40971) (contested true .contesting (.claim 208 1 160 0))).claims.deferrals = 1 := by decide

theorem witness_OwnCalloutOutcome : (calling 3).QueueInOrder ∧
    (calling 3).Flying (flight true (.callout 12 0 1 208 2 0 1 120)) (entry .callout (.callout 12 0 1 208 2 0 1 120)) ∧
    (calling 3).station.config.station = 12 ∧ (calling 3).callout.own.find? (·.seq == 0) = some (callout0 3) ∧
    0x0003 ≠ 65535 ∧ (callout0 3).attempts < 4 ∧
    (calling 4).callout.own.find? (·.seq == 0) = some (callout0 4) ∧ (callout0 4).attempts = 4 ∧
    ((relaying 1).QueueInOrder ∧
      (relaying 1).Flying (flight true (.callout 31 7 1 208 2 1 1 120)) (entry .callout (.callout 31 7 1 208 2 1 1 120)) ∧
      (relaying 1).callout.relay.find? (fun y => y.origin == 31 && y.seq == 7) = some (relay1 1) ∧
      31 ≠ (relaying 1).station.config.station ∧ (relay1 1).attempts < 2 ∧ 2 ≤ (relay1 2).attempts ∧
      (relaying 2).callout.recent.length < 16) :=
  ⟨flying_inOrder true .callout (.callout 12 0 1 208 2 0 1 120), ⟨rfl, rfl⟩, rfl, rfl, by decide, by decide, rfl, rfl,
    flying_inOrder true .callout (.callout 31 7 1 208 2 1 1 120), ⟨rfl, rfl⟩, rfl, by decide, by decide, by decide, by decide⟩
theorem test_relay_sent : (after .sent (relaying 1)).callout.relay.map (·.attempts) = [2] ∧
    (after .sent (relaying 2)).callout.recent.map (·.expiry) = [220] := by decide

/-- A frame that waits, and one in flight. -/
theorem witness_StaleFrameIsRemoved : (waiting.QueueInOrder ∧ entry .station (.presence 0 1 0 3) ∈ waiting.channel.queue ∧
      waiting.channel.flight.map (·.entry) ≠ some 0 ∧ (Payload.presence 0 1 0 3).plain = true) ∧
    ({ robot with channel := { robot.channel with
        queue := [entry .claims (.claim 208 1 160 0)], nextEntry := 1 }, claims := ⟨[claim208 .queued], [], 0⟩
      }.claims.own.find? (·.segment == 208) = some (claim208 .queued) ∧ (claim208 .queued).state = .queued) ∧
    ((flying true .group (.go 3)).QueueInOrder ∧ entry .group (.go 3) ∈ (flying true .group (.go 3)).channel.queue ∧
      (flying true .group (.go 3)).channel.flight.map (·.entry) = some 0) :=
  ⟨⟨⟨by decide, by decide, by decide, nofun⟩, by decide, by decide, rfl⟩, ⟨rfl, rfl⟩, flying_inOrder _ _ _,
    by decide, rfl⟩

/-- Robot 12 with one CLAIM or CALLOUT frame queued and none in flight, and the records it may belong to. -/
def unsentOne (b : Block) (p : Payload) : State :=
  { contested false .holding p with
    channel := { robot.channel with queue := [entry b p], nextEntry := 1 }
    callout := { robot.callout with own := [callout0 3, { callout0 4 with seq := 1 }], relay := [relay1 1] } }

/-- A REFRESH claim; an own callout at its fourth and at its fifth attempt; a forward frame before and at its last. -/
theorem witness_StaleFrameIsRemoved_records : (unsentOne .claims (.claim 208 1 160 1)).QueueInOrder ∧
    entry .claims (.claim 208 1 160 1) ∈ (unsentOne .claims (.claim 208 1 160 1)).channel.queue ∧
    (unsentOne .claims (.claim 208 1 160 1)).channel.flight.map (·.entry) ≠ some 0 ∧
    (unsentOne .callout (.callout 12 0 1 208 2 0 1 120)).callout.own.find? (·.seq == (callout0 3).seq) = some (callout0 3) ∧
    (callout0 3).attempts < 4 ∧ 4 ≤ (callout0 4).attempts ∧
    (unsentOne .callout (.callout 31 7 1 208 2 1 1 120)).callout.relay.find? (fun y => y.origin == 31 && y.seq == 7) =
      some (relay1 1) ∧ (31 ≠ robot.station.config.station ∧ (relay1 1).attempts < 2 ∧ 2 ≤ (relay1 2).attempts) ∧
    robot.callout.recent.length < 16 :=
  ⟨⟨by decide, by decide, by decide, nofun⟩, by decide, by decide, rfl, by decide, by decide, rfl, by decide, by decide⟩
/-- R87, R172, R179: what STALE leaves at the record of its frame. -/
theorem test_stale_records :
    (after (.stale 0) (unsentOne .callout (.callout 12 0 1 208 2 0 1 120))).callout.own.map (·.attempts) = [4, 4] ∧
    (after (.stale 0) (unsentOne .callout (.callout 12 1 1 208 2 0 1 120))).callout.own.map (·.seq) = [0] ∧
    (after (.stale 0) (unsentOne .callout (.callout 31 7 1 208 2 1 1 120))).callout.relay.map (·.attempts) = [2] := by
  decide

/-- A full queue of PRESENCE frames, none in flight. -/
def full : State :=
  { robot with channel := { robot.channel with
    queue := (List.range 8).map fun n => ⟨.presence 0 1 0 3, 6, .station, 0, n⟩, nextEntry := 8 } }

/-- Room at seven frames; OFFLINE; a full queue with nothing to give up, and with the youngest of the highest value. -/
theorem witness_QueueingAFrame : { robot with channel := { full.channel with queue := full.channel.queue.take 7 } }.hasRoom ∧
    (parked.station.state = .offline ∧ (Payload.go 3).plain = true) ∧
    (full.station.state ≠ .offline ∧ 8 ≤ full.channel.queue.length ∧
      ∀ q ∈ full.channel.queue, q.priority ≤ (Payload.presence 0 1 0 3).priority ∨
        full.channel.flight.map (·.entry) = some q.entry) ∧
    (full.QueueInOrder ∧ (⟨.presence 0 1 0 3, 6, .station, 0, 7⟩ : Queued) ∈ full.channel.queue ∧
      (Payload.go 3).priority < 6 ∧ full.channel.flight.map (·.entry) ≠ some 7 ∧
      ∀ q ∈ full.channel.queue, full.channel.flight.map (·.entry) ≠ some q.entry →
        q.priority < 6 ∨ (q.priority = 6 ∧ q.entry ≤ 7)) :=
  ⟨⟨by decide, by decide⟩, by decide, by decide, ⟨by decide, by decide, by decide, nofun⟩, by decide, by decide, by decide,
    by decide⟩

/-- The first check fails, then the last; a new record with room, in place of one, and with none. -/
theorem witness_LoadAndReportTemperature : parked.station.state = .offline ∧
    (parked.host.heldSel = false ∧ ¬ LoadInRange { load209 with length := 99 } ∧
      FirstOut (loadField { load209 with length := 99 }) 8 2) ∧
    LoadInRange load209 ∧ LoadInRange { load209 with segment := 208, length := 100, adjacentCount := 0 } ∧
    parked.segs.records.find? (·.number == 209) = none ∧ parked.segs.records.length < 96 ∧
    parked.segs.records.find? (·.number == 208) ≠ none ∧
    (((List.range 96).map fun n => { seg208 with number := 300 + n }).find? (·.number == 209) = none ∧
      96 ≤ ((List.range 96).map fun n => { seg208 with number := 300 + n }).length) ∧
    ((on208 .run).odo.entry.map (·.segment) = some 208 ∧ (on208 .run).segs.pass = some ⟨0, 10, 10, 0, 15, 0⟩) ∧
    robot.odo.entry.map (·.segment) ≠ some 208 ∧ robot.segs.records.find? (·.number == 4000) = none ∧
    (-400 : Int) = max (-400) (min 200 (-401)) ∧ (200 : Int) = max (-400) (min 200 201) := by
  refine ⟨rfl, ⟨rfl, by unfold LoadInRange; decide, by decide, by decide, ?_, ?_⟩, ?_, ?_, by decide⟩
  · simp [loadField]
  · intro m h1 h2
    obtain rfl : m = 1 := by omega
    simp [loadField, load209]
  all_goals
    unfold LoadInRange
    decide
/-- Section 11.3: an adjacent segment that repeats is field 9. -/
theorem test_load_fault : (after (.loadSegment { load209 with adjacentCount := 2, adjacent := [208, 208, 0, 0] })
    parked).host.reply = some [0x02, 9] := by decide
theorem test_report_temperature : (after (.reportTemperature 208 (-401)) robot).segs.records.map (·.reported) =
    [some (-400, 100)] := by decide

theorem witness_ClearSegmentsRemovesEveryRecord : parked.host.heldSel = false ∧ parked.station.state = .offline ∧ parked.segs.records ≠ [] ∧
    robot.station.state ≠ .offline := by decide

/-- A fill by the host and by a frame of another station; ranges at their ends; the current segment in the range. -/
theorem witness_SnowfallFillsTheRange : busyRobot.host.heldSel = false ∧ flagOf 0 = some false ∧ flagOf 1 = some true ∧ (on208 .run).delivers 5 ∧
    (0 = 0 ∨ 4000 < 4000 ∨ 4000 < 0) ∧ (1 = 0 ∨ 4000 < 4001 ∨ 4001 < 1) ∧ (9 = 0 ∨ 4000 < 8 ∨ 8 < 9) ∧
    (1 ≤ 1 ∧ 1 ≤ 4000 ∧ 4000 ≤ 4000) ∧ busyRobot.QueueInOrder ∧
    (on208 .run).odo.entry.map (·.segment) = some 208 ∧ (208 ≤ 208 ∧ 208 ≤ 208) ∧
    (∀ n, robot.odo.entry.map (·.segment) = some n → ¬ (1 ≤ n ∧ n ≤ 4000)) ∧
    (robot.station.state = .active ∧ robot.channel.queue.length < 8) :=
  ⟨rfl, rfl, rfl, by unfold State.delivers; decide, by decide, by decide, by decide, by decide,
    witness_EveryStepKeepsTheQueueInOrder.1, by decide, by decide, nofun, by decide⟩
theorem test_snowfall : (after (.markSnowfall 1 4000 1 1) robot).channel.queue.map (·.payload) = [.snowfall 1 4000 1] := by
  decide

/-- A station without an entry, with room and in a full table; one with an entry, a depot at distance 0; the largest
distance and one above it. -/
theorem witness_ProgressIsApplied : robot.delivers 31 ∧ 15 < 16 ∧ 15 ≤ 15 ∧ workOf 0 = none ∧ workOf 4 = none ∧ 0 < 1 ∧
    robot.segs.records.find? (·.number == 209) = none ∧ robot.segs.records.find? (·.number == 208) = some seg208 ∧
    (1 ≤ 1 ∧ 1 ≤ 3) ∧ (1 ≤ 3 ∧ 3 ≤ 3) ∧
    (robot.delivers 3 ∧ robot.station.neighbours.find? (·.station == 3) = some ⟨3, .depot, 0, none, some 0, 90⟩) ∧
    (robot.station.neighbours.find? (·.station == 31) = none ∧ robot.station.neighbours.length < 24) ∧
    (crowded.delivers 254 ∧ crowded.station.neighbours.find? (·.station == 254) = none ∧
      24 ≤ crowded.station.neighbours.length) := by
  unfold State.delivers
  decide
/-- R41: an entry made by PROGRESS is a ROBOT's. -/
theorem test_progress_neighbour : (after (.progress 31 209 0 0 1 0 4) robot).station.neighbours =
    [⟨3, .depot, 0, none, some 0, 90⟩, ⟨31, .robot, 4, none, none, 100⟩] := by decide
/-- Section 3.7: robot 31 hears A; its four cells are PLOWED with dose 12. -/
theorem test_progress : (after (.progress 12 208 0 3 3 12 2)
    { robot with station := { robot.station with clock := 7310, config := { cfg12 with station := 31 } } }).segs.records.map
      (·.cells.map fun c => (c.plowed, c.dose, c.saltedAt)) = [List.replicate 4 (true, 12, some 7310)] := by decide

/-- Robot 12 in a motion state with a guest state on segment 208. -/
def guested (m : MotionState) (g : PeerGuest) : State :=
  { on208 m with segs := { (on208 m).segs with records := [{ seg208 with guest := some g }] } }

/-- A frame for a segment without a record and one with an unlisted zone; a state before and at its expiry; notices of
CLEAR and PROTECTIVE, the zone changing or not. -/
theorem witness_PeerGuestStates : (on208 .run).delivers 5 ∧ (on208 .run).segs.records.find? (·.number == 209) = none ∧
    zoneOf 3 = none ∧
    (∀ e, (e = 101 ∨ e = 100) → (guested .caution ⟨.warning, 5, e⟩).segs.records.find? (·.number == 208) =
      some { seg208 with guest := some ⟨.warning, 5, e⟩ }) ∧
    (guested .caution ⟨.warning, 5, 101⟩).station.clock < 101 ∧ 100 ≤ (guested .caution ⟨.warning, 5, 100⟩).station.clock ∧
    (on208 .run).segs.records.find? (·.number == 208) = some seg208 ∧ seg208.guest = none ∧
    guestZoneOf (some ⟨.protective, 5, 115⟩) ≠ guestZoneOf seg208.guest ∧
    guestZoneOf (some ⟨.warning, 5, 115⟩) = guestZoneOf (some ⟨.warning, 5, 101⟩) ∧
    ((on208 .run).motion.state = .run ∧ (on208 .idle).motion.state ≠ .run ∧ (on208 .idle).motion.state ≠ .caution) := by
  refine ⟨by unfold State.delivers; decide, by decide, by decide, ?_, by decide⟩
  rintro e (rfl | rfl) <;> decide
/-- R127: a guest on an adjacent segment that has a record is a caution cause. -/
theorem test_cause_peer : { on208 .run with segs := { (on208 .run).segs with
      records := [seg208, { seg208 with number := 209, guest := some ⟨.warning, 5, 101⟩ }] } }.causePeer = true ∧
    (on208 .run).causePeer = false := by decide
theorem test_guest : (after (.guest 5 208 1 2) (on208 .run)).motion.state = .caution ∧
    (after (.guestStateExpiry 208) (guested .caution ⟨.warning, 5, 100⟩)).motion.state = .run := by decide

/-- Robot 12 with a claim of another station in its view. -/
def viewing (v : ViewEntry) : State := { robot with claims := ⟨[], [v], 14⟩ }

/-- A full queue whose frames go before a claim. -/
def fullOfGroups : State :=
  { robot with channel := { robot.channel with
    queue := (List.range 8).map fun n => ⟨.go 3, 1, .group, 0, n⟩, nextEntry := 8 } }

/-- Segment 0, one above the last, and an intent that is not listed; a queue that takes no claim. -/
theorem witness_RequestClaimRanksAndQueues_refusals : (0 = 0 ∧ 4000 < 4001 ∧ 2 < 3) ∧
    (fullOfGroups.station.state = .active ∧ fullOfGroups.host.heldSel = false ∧ fullOfGroups.station.leavePending = false) ∧
    8 ≤ fullOfGroups.channel.queue.length ∧ fullOfGroups.QueueInOrder ∧
    (∀ q ∈ fullOfGroups.channel.queue, q.priority ≤ 3 ∨ fullOfGroups.channel.flight.map (·.entry) = some q.entry) ∧
    ∀ q ∈ fullOfGroups.channel.queue, ∀ j k m, q.payload ≠ .claim 208 j k m := by
  refine ⟨by decide, by decide, by decide, ⟨by decide, by decide, by decide, nofun⟩, by decide, ?_⟩
  intro q h j k m
  have all : ∀ q ∈ fullOfGroups.channel.queue, q.payload = .go 3 := by decide
  simp [all q h]
theorem test_request_stale : (after (.requestClaim 208 1 2) fullOfGroups).host.reply = some [0x00, 4, 96, 0] ∧
    (after (.requestClaim 208 3 2) robot).host.reply = some [0x02] := by decide

/-- Urgency 2 at 14 deferrals gives a SALT claim rank 82. An own record; no record and room; a full table; an entry of
rank 81; an entry of the claim's own rank and a higher station. -/
theorem witness_RequestClaimRanksAndQueues : robot.station.state = .active ∧ robot.host.heldSel = false ∧ robot.station.leavePending = false ∧
    (1 ≤ 1 ∧ 4000 ≤ 4000) ∧ intentOf 1 = some .salt ∧
    82 = 1 + (3 - min 3 2) * 64 + intentCode .salt * 16 + (15 - min 15 14) ∧
    (on208 .run).claims.own.find? (·.segment == 208) = some (claim208 .holding) ∧
    robot.claims.own.find? (·.segment == 208) = none ∧ robot.claims.own.length < 4 ∧
    4 ≤ (List.replicate 4 { claim208 .holding with segment := 9 }).length ∧
    (viewing ⟨208, 5, .plow, 81, 101⟩).TellsAgainst 208 .salt 82 ⟨208, 5, .plow, 81, 101⟩ ∧
    (∀ v, ¬ (viewing ⟨208, 13, .plow, 82, 101⟩).TellsAgainst 208 .salt 82 v) ∧ robot.channel.queue.length < 8 := by
  refine ⟨rfl, rfl, rfl, by decide, rfl, by decide, by decide, by decide, by decide, by decide, ?_, ?_, by decide⟩
  · unfold State.TellsAgainst
    decide
  · rintro v ⟨h, -, -, -, l⟩
    cases List.mem_singleton.mp h
    exact absurd l (by decide)
theorem test_request_claim : (after (.requestClaim 208 1 2) robot).host.reply = some [0x00, 0x00, 96, 0x00] := by decide

theorem witness_ReleaseClaimByState : robot.host.heldSel = false ∧ (robot.station.state = .active ∨ robot.station.state = .silent) ∧
    robot.claims.own.find? (·.segment == 208) = none ∧
    (contested true .contesting (.claim 208 1 160 0)).claims.own.find? (·.segment == 208) = some (claim208 .contesting) ∧
    (contested false .queued (.claim 208 1 160 0)).claims.own.find? (·.segment == 208) = some (claim208 .queued) ∧
    ((on208 .run).claims.own.find? (·.segment == 208) = some (claim208 .holding) ∧
      (on208 .run).odo.entry.map (·.segment) = some 208 ∧ (on208 .run).motion.state ≠ .idle) ∧
    ((on208 .idle).motion.state = .idle ∧ (on208 .idle).channel.queue.length < 8) ∧
    (contested false .queued (.claim 208 1 160 0)).channel.flight = some (flight false (.claim 208 1 160 0)) :=
  ⟨rfl, by decide, by decide, by decide, by decide, by decide, by decide, rfl⟩
theorem test_release_in_flight :
    (after (.releaseClaim 208) (contested false .queued (.claim 208 1 160 0))).channel.flight = none ∧
    (after (.releaseClaim 208) (contested false .queued (.claim 208 1 160 0))).channel.assembler = .header := by decide
theorem test_release_occupied : (after (.releaseClaim 208) (on208 .run)).host.reply = some [0x07] ∧
    (after (.releaseClaim 208) (on208 .idle)).claims.own = [] := by decide

/-- OBJECTION to a PLOW claim, ACKNOWLEDGEMENT at hop 11 from distance 2; and what neither answers: a claim of rank 0, one
without an own record, hop 12, the own distance, the own origin. -/
theorem witness_ResponsesInTheGap : (on208 .run).delivers 5 ∧ parked.station.state = .offline ∧
    (∀ i r, intentOf 0 = some i → robot.claims.own.find? (·.segment == 208) = some r → conflicts r.intent i = false) ∧
    (0 = 0 ∧ 12 ≤ 12 ∧ 1 ≤ robot.station.distance ∧ 12 = robot.station.config.station) ∧ intentOf 0 = some .plow ∧ (1 ≤ 208 ∧ 208 ≤ 4000) ∧
    (1 ≤ 1 ∧ 240 ≤ 240 ∧ 1 ≤ 1) ∧ (on208 .run).claims.own.find? (·.segment == 208) = some (claim208 .holding) ∧
    conflicts (claim208 .holding).intent .plow = true ∧
    (robot.station.leavePending = false ∧ robot.station.distance < 2 ∧ 254 ≠ robot.station.config.station ∧ 11 < 12 ∧
      robot.callout.relay.length < 8) ∧
    ((on208 .run).station.state = .active ∧ (on208 .run).channel.condition ≠ .jammed ∧ (on208 .run).channel.seizeLeft = 0) ∧
    { robot.channel with condition := .jammed }.condition = .jammed := by
  refine ⟨by unfold State.delivers; decide, rfl, nofun, by decide⟩
/-- R10, R19: a frame with the own number enters GAP and is not answered. -/
theorem test_own_number_gap : (after (.objection 12 208 0 1 0) (on208 .run)).channel.response = none ∧
    (after (.objection 12 208 0 1 0) (on208 .run)).channel.assembler = .gap := by decide
/-- R3: the channel is BUSY in the gap of another station's frame. -/
theorem test_gap_busy : (after (.objection 5 208 0 1 0) robot).channel.condition = .busy ∧
    (after (.objection 5 208 0 1 0) robot).channel.assembler = .gap := by decide
/-- An occupied segment answers with rank 0: 0 * 256 + 12. -/
theorem test_objection : (after (.objection 5 208 0 1 0) (on208 .run)).channel.response = some 12 ∧
    (after (.objection 5 208 0 1 0) (on208 .idle)).channel.response = some (160 * 256 + 12) := by decide

/-- A full view: the entry of segment 301 has the earliest expiry. -/
def fullView : List ViewEntry := (List.range 32).map fun n => ⟨300 + n, 7, .plow, 9, if n = 1 then 105 else 120⟩

/-- Robot 12 in the response field of another station's frame, keying a value. -/
def keying : State :=
  { on208 .idle with channel := { robot.channel with
    condition := .busy, idleCount := 0, assembler := .response, symbol := 20, response := some 40972 } }

/-- The same robot after a seize was asked for there and stopped at its first symbol. -/
def unheardSeize : State := (requestSeize keying).onChannel (Channel.seizeStopped 0)

/-- R18, R20: 160 * 256 + 12 keyed up to the end of its first byte. Sensed 160 * 256 + 3, it was still being keyed, and
the claim is not acted on; sensed 100 * 256 + 6, it had lost, and the claim is. -/
theorem test_abandoned : unheardSeize.channel.assembler = .response ∧ unheardSeize.channel.seizeLeft = 0 ∧
    (after (.claim 5 208 0 100 0 40963) unheardSeize).claims = keying.claims ∧
    (after (.claim 5 208 0 100 0 25606) unheardSeize).claims.own = [] ∧
    (after (.claim 5 208 0 100 0 40963) keying).claims.own = [] := by decide
/-- R20: a value whose field has ended stands, whatever is asked for then. -/
theorem test_field_over : (responseSymbols 40972).length + Config.gapSymbols = Config.fieldEnd ∧
    ([20, 35, 36].map fun n => (requestSeize (keying.onChannel fun c => { c with symbol := n })).channel.response) =
      [none, none, some 40972] := by decide

/-- A response taken from its field before and after it had lost; a field going on, one that has ended, and none. -/
theorem witness_OtherStationsClaims_abandoned : unheardSeize.delivers 5 ∧
    unheardSeize.channel.abandoned = some ⟨40972, 20⟩ ∧
    (responseSymbols 40972).take (20 - 4) = (responseSymbols 40963).take (20 - 4) ∧
    (responseSymbols 40972).take (20 - 4) ≠ (responseSymbols 25606).take (20 - 4) ∧ 100 * 256 + 5 < 25606 ∧
    (on208 .run).channel.abandoned = none ∧ keying.channel.assembler = .response ∧ keying.channel.symbol < 36 ∧
    keying.channel.response = some 40972 ∧ (keying.onChannel fun c => { c with symbol := 36 }).channel.symbol = 36 ∧
    unheardSeize.channel.response = none ∧ robot.channel.assembler ≠ .response := by
  unfold State.delivers
  decide

/-- A claim that stands by one, 100 * 256 + 5 = 25605, and one that does not. -/
theorem witness_OtherStationsClaims : (on208 .run).delivers 5 ∧ (1 ≤ 208 ∧ 208 ≤ 4000) ∧ intentOf 0 = some .plow ∧
    (1 ≤ 100 ∧ 100 ≤ 240) ∧ 25605 ≤ 100 * 256 + 5 ∧ 100 * 256 + 5 < 25606 ∧ (on208 .run).claims.view.length < 32 ∧
    (intentOf 3 = none ∧ 240 < 241 ∧ 4000 < 4001) ∧
    (32 ≤ fullView.length ∧ (∀ v ∈ fullView, ¬ (v.segment = 208 ∧ v.holder = 5)) ∧
      fullView.filter (fun v => !(v.segment == 208 && (v.holder == 5 || conflicts v.intent .plow))) = fullView ∧
      fullView = fullView.take 1 ++ ⟨301, 7, .plow, 9, 105⟩ :: fullView.drop 2 ∧
      (∀ x ∈ fullView.take 1, 105 < x.expiry) ∧ ∀ x ∈ fullView.drop 2, 105 ≤ x.expiry) ∧
    ((on208 .run).claims.own.find? (·.segment == 208) = some (claim208 .holding) ∧
      conflicts (claim208 .holding).intent .plow = true ∧ (claim208 .holding).state = .holding ∧
      (on208 .run).odo.entry.map (·.segment) = some 208 ∧ (on208 .run).motion.state ≠ .idle) ∧
    (on208 .idle).motion.state = .idle ∧ (claim208 .queued).state ≠ .holding := by
  unfold State.delivers
  decide
theorem test_claim_heard : (after (.claim 5 208 0 100 0 25606) (on208 .run)).claims.own.length = 1 ∧
    (after (.claim 5 208 0 100 0 25606) (on208 .idle)).claims.own = [] ∧
    (after (.claim 5 208 0 100 0 25605) (on208 .idle)).claims.view = [] ∧
    (after (.claim 5 208 0 100 0 25606) { robot with claims := ⟨[], fullView, 0⟩ }).claims.view.map (·.segment) =
      (List.range 32).map (fun n => if n = 0 then 300 else if n = 31 then 208 else 301 + n) := by decide

/-- Robot 12 on segment 208 at a work clock, its claim last sent at 95. -/
def atClock (n : Nat) (m : MotionState) : State :=
  { on208 m with station := { (on208 m).station with clock := n } }

/-- Beside each time and at it; a refresh queued; a view entry before its expiry and at it. -/
theorem witness_ClaimsInTime : (on208 .run).claims.own.find? (·.segment == 208) = some (claim208 .holding) ∧
    (claim208 .holding).state = .holding ∧ (claim208 .holding).lastSend = some 95 ∧
    (¬ ((atClock 116 .run).station.clock = 95 + 20 ∧ (claim208 .holding).refreshesOffered = 0) ∧
      ¬ ((atClock 116 .run).station.clock = 95 + 40 ∧ (claim208 .holding).refreshesOffered ≤ 1)) ∧
    ((atClock 115 .run).station.clock = 95 + 20 ∧ (atClock 135 .run).station.clock = 95 + 40 ∧
      (claim208 .holding).frame = .none ∧ (claim208 .holding).refreshesOffered < 1 ∧
      { claim208 .holding with frame := .refresh }.frame ≠ .none ∧
      (atClock 115 .run).channel.queue.length < 8 ∧ (atClock 115 .run).station.leavePending = false) ∧
    (atClock 144 .run).station.clock < 95 + 50 ∧ 95 + 50 ≤ (atClock 145 .run).station.clock ∧
    ((atClock 145 .idle).motion.state = .idle ∧ (atClock 145 .run).motion.state ≠ .idle ∧
      (atClock 145 .run).odo.entry.map (·.segment) = some 208) ∧
    (∃ v ∈ (viewing ⟨208, 5, .plow, 100, 100⟩).claims.view, v.segment = 208 ∧ v.holder = 5 ∧ v.expiry ≤ 100) ∧
    (∀ v ∈ (viewing ⟨208, 5, .plow, 100, 101⟩).claims.view, v.segment = 208 → v.holder = 5 → 100 < v.expiry) ∧
    ((atClock 145 .run).mayRaise ∧ (atClock 145 .run).channel.flight = none ∧
      (atClock 145 .faultStop).motion.state = .faultStop) := by
  unfold State.mayRaise
  decide
/-- R85: the offer is made at its second and not a second later; with a refresh queued only the time passes. -/
theorem test_refresh : (after (.refresh 208) (atClock 115 .run)).channel.queue.map (·.payload) = [.claim 208 1 160 1] ∧
    (after (.refresh 208) (atClock 116 .run)).channel.queue = [] ∧
    (after (.refresh 208) { atClock 135 .run with
      claims := ⟨[{ claim208 .holding with frame := .refresh, refreshesOffered := 1 }], [], 0⟩ }).claims.own.map
        (·.refreshesOffered) = [2] := by decide
theorem test_lapse_withdraws : (after (.lapse 208) { contestedHere .idle (.claim 208 1 160 1) with
    station := (atClock 145 .idle).station }).channel.flight = none := by decide
theorem test_lapse : (after (.lapse 208) (atClock 145 .run)).motion.state = .faultStop ∧
    (after (.lapse 208) (atClock 144 .run)).claims.own.length = 1 := by decide

/-- The shortest and the longest segment, the fewest and the most counts per metre; before, in and past the segment. -/
theorem witness_PositionsWithinASegment : (100 ≤ 100 ∧ 3200 ≤ 3200) ∧
    (100 ≤ { cfg12 with countsPerMetre := 100 }.countsPerMetre ∧ { cfg12 with countsPerMetre := 20000 }.countsPerMetre ≤ 20000) ∧
    (-1 : Int) < 0 ∧ ((0 : Int) ≤ 0 ∧ (0 : Int) < (100 * 100 / 10 : Nat)) ∧ (((100 * 100 / 10 : Nat) : Int) ≤ 1000) ∧
    accounting (inCounts { cfg12 with countsPerMetre := 20000 } 3200) 6400000 = 6399999 ∧
    positionMm { cfg12 with countsPerMetre := 20000 } 6399999 = 319999 := by decide

/-- Robot 12 that has completed segment 208 and still moves. -/
def arrived : State :=
  { on208 .stopping with odo := { (on208 .stopping).odo with entry := some ⟨208, .forward, 18000, 3, true⟩ } }

/-- Robot 12 that waits for its next segment in a motion state, its pass over the last cell open. -/
def between (m : MotionState) : State :=
  { on208 m with
    odo := { (on208 m).odo with entry := some ⟨208, .forward, 18000, 3, true⟩ }
    segs := { (on208 m).segs with pass := some ⟨3, 3000, 3000, 0, 15, 0⟩, report := some ⟨2, 2, .plowed, 0, 1⟩ } }

/-- An open pass and no stronger claim; RUN and CAUTION beyond completion; both ends of STOPPING, with and without the
latch and a hold; a claim and a record that permit salt, with room for the frames of an entry. -/
theorem witness_EnterSegmentOpensAnEntry_pass : (between .run).odo.entry = some ⟨208, .forward, 18000, 3, true⟩ ∧
    (between .run).segs.records.find? (·.number == 208) = some seg208 ∧
    (between .run).segs.pass = some ⟨3, 3000, 3000, 0, 15, 0⟩ ∧
    (∀ o v, (between .run).claims.own.find? (·.segment == 208) = some o → ¬ (between .run).TellsAgainst 208 o.intent o.rank v) ∧
    ((between .run).motion.state = .run ∧ (between .caution).motion.state = .caution ∧
      (between .run).odo.entry.map (·.done) = some true ∧ (between .caution).odo.entry.map (·.done) = some true) ∧
    ((between .stopping).motion.state = .stopping ∧ (between .stopping).motion.stopEnd = .idle ∧
      (between .stopping).motion.latch = false ∧ (between .stopping).group.holds = [] ∧
      { (between .stopping).motion with stopEnd := .groupHold }.stopEnd = .groupHold) ∧
    ((between .run).holds 208 = true ∧ (between .run).channel.queue.length < 7 ∧
      (between .run).claims.own.find? (·.segment == 208) = some (claim208 .holding)) := by
  refine ⟨rfl, by decide, rfl, ?_, by decide⟩
  rintro o v - ⟨h, -⟩
  exact nomatch h
/-- R53, R117: entering again after the last cell finalises its pass, and a robot that was stopping drives on. -/
theorem test_enter_drives_on : (after (.enterSegment 208 0) (between .stopping)).motion.state = .run ∧
    ((after (.enterSegment 208 0) (between .run)).segs.records.map fun r => r.cells.map (·.plowed)) =
      [[false, false, false, true]] ∧
    (after (.enterSegment 208 0) (between .run)).channel.queue.map (·.payload) = [.progress 208 2 3 1 0 1] := by decide

theorem witness_EnterSegmentOpensAnEntry : (on208 .idle).isRobot = true ∧ (on208 .idle).station.state = .active ∧
    (on208 .idle).station.leavePending = false ∧ (on208 .idle).host.heldSel = false ∧ (0 = 0 ∨ 4000 < 0) ∧ 4000 < 4001 ∧ 1 < 2 ∧ (1 ≤ 4000 ∧ 1 ≤ 1) ∧
    (on208 .idle).segs.records.find? (·.number == 4000) = none ∧
    (on208 .idle).segs.records.find? (·.number == 208) = some seg208 ∧ robot.holds 208 = false ∧
    (on208 .idle).holds 208 = true ∧ (on208 .guestStop).motion.state = .guestStop ∧
    ((on208 .run).motion.state = .run ∧ (on208 .run).odo.entry.map (·.done) ≠ some true) ∧
    (on208 .retained).motion.state = .retained ∧
    arrived.odo.entry.map (·.done) = some true := by decide
theorem test_enter_reverse : (after (.enterSegment 208 1) (on208 .idle)).odo.position = 18000 ∧
    (after (.enterSegment 208 1) (on208 .idle)).odo.entry = some ⟨208, .reverse, 18000, 3, false⟩ := by decide

/-- A rises with B low: one count forward in every mode (R97). -/
def up : Edge := ⟨.a, true, false⟩

/-- Robot 12 on segment 208 at a counter. -/
def atCount (p : Int) (cell : Nat) : State :=
  { on208 .run with odo := { (on208 .run).odo with position := p, entry := some ⟨208, .forward, 18000, cell, false⟩ } }

/-- A PROGRESS frame of segment 208 for cell 0 that waits. -/
def reporting : State :=
  { atCount 4999 0 with channel := { robot.channel with
    queue := [entry .segments (.progress 208 0 0 1 0 1)], nextEntry := 1 } }

/-- A station that is no robot; no segment; the count into the last count of cell 0; the count into cell 1; the last
count of the segment; a frame that a flush widens. -/
theorem witness_WheelCountsMoveTheRobot : depot.isRobot = false ∧ edgeCount .x1 ⟨.b, true, true⟩ = 0 ∧
    (robot.isRobot = true ∧ edgeCount .x4 up ≠ 0 ∧ robot.odo.entry = none) ∧
    (cellIndex cfg12 (accounting 18000 4999) = 0 ∧ (4999 : Int) < 18000) ∧
    (cellIndex cfg12 (accounting 18000 5000) ≠ 0 ∧
      (atCount 4999 0).segs.records.find? (·.number == 208) = some seg208) ∧
    ((atCount 17999 3).odo.entry = some ⟨208, .forward, 18000, 3, false⟩ ∧
      (18000 : Int) = max (-2147483648) (min 2147483647 ((atCount 17999 3).odo.position + 1)) ∧
      (atCount 17999 3).motion.state = .run) ∧
    ((atCount 4999 0).segs.pass = some ⟨0, 10, 10, 0, 15, 0⟩ ∧ seg208.cells[0]? = some freshCell ∧
      cellLength 180 0 = 50 ∧ passWorkIs cfg12 50 ⟨0, 0, 3999, 0, 15, 0⟩ none ∧
      passWorkIs cfg12 50 ⟨0, 0, 4000, 0, 15, 0⟩ (some .plowed) ∧ passWorkIs cfg12 50 ⟨0, 0, 3999, 1, 15, 0⟩ (some .salted) ∧
      passWorkIs cfg12 50 ⟨0, 0, 4000, 1, 15, 0⟩ (some .both)) ∧
    (cfg12.stride ≤ (reportWith 1 .plowed 0 (some ⟨0, 0, .plowed, 0, 1⟩)).count ∧
      (reportWith 1 .plowed 0 (some ⟨0, 0, .both, 0, 1⟩)).count = 1 ∧ (atCount 4999 0).hasRoom) ∧
    reporting.mayWiden 208 ⟨0, 1, .plowed, 0, 2⟩ (entry .segments (.progress 208 0 0 1 0 1)) ∧
    ∀ y, reporting.mayWiden 208 ⟨0, 1, .plowed, 0, 2⟩ y → y = entry .segments (.progress 208 0 0 1 0 1) := by
  refine ⟨by decide, by decide, by decide, by decide, by decide, by decide, by unfold passWorkIs; decide,
    by unfold State.hasRoom; decide, ⟨by decide, by decide, 0, 0, 0, 1, rfl, by decide, by decide⟩, ?_⟩
  rintro y ⟨h, -⟩
  exact List.mem_singleton.mp h
/-- R58: the report of cells 0 and 1 widens the frame that waits for cell 0. -/
theorem test_flush_widens : (after (.wheelCount up true) { reporting with
      odo := (atCount 9999 1).odo
      segs := { robot.segs with pass := some ⟨1, 5000, 4950, 0, 0, 0⟩, report := some ⟨0, 0, .plowed, 0, 1⟩ } }).channel.queue.map
    (·.payload) = [.progress 208 0 1 1 0 1] := by decide
/-- Section 3.7, cell 0: 4,950 blade-down counts and 230 pulses leave it PLOWED with dose 15. -/
theorem test_finalised : (after (.wheelCount up true) { atCount 4999 0 with
      segs := { robot.segs with pass := some ⟨0, 5000, 4950, 230, 15, 0⟩ } }).segs.records.map (·.cells.take 1) =
    [[⟨true, some 100, 15, some 100, false⟩]] ∧
    (after (.wheelCount up true) { atCount 4999 0 with
      segs := { robot.segs with pass := some ⟨0, 5000, 4950, 230, 15, 0⟩ } }).segs.report = some ⟨0, 0, .both, 15, 1⟩ := by decide
theorem test_crossing : (after (.wheelCount up true) (atCount 4999 0)).segs.pass.map (fun p => (p.cell, p.travel)) =
    some (1, 1) ∧ (after (.wheelCount up true) (atCount 4998 0)).segs.pass.map (fun p => (p.cell, p.travel)) =
    some (0, 11) := by decide
/-- R105: the completing count ends the pass and is charged to a fresh one. -/
theorem test_completion : (after (.wheelCount up true) (atCount 17999 3)).motion.state = .stopping ∧
    (after (.wheelCount up true) (atCount 17999 3)).segs.pass.map (fun p => (p.cell, p.travel)) = some (3, 1) := by decide

/-- Robot 12 with an odometer fault raised `n` whole windows ago. -/
def faulted (n : Nat) : State :=
  { on208 .idle with odo := { (on208 .idle).odo with fault := true, faultWindows := n } }

/-- Seven errors and six; 4,000 mm/s at the configured counts; a fault cleared and kept; the third sample over the limit;
the stuck counter at its threshold. -/
theorem witness_SamplesAndFaults : robot.isRobot = true ∧ { robot.odo with errors := 6 }.errors ≠ 7 ∧
    ({ robot.odo with errors := 7 }.errors = 7 ∧ robot.odo.fault = false) ∧ cfg12.countsPerMetre ≤ (-1000 : Int).natAbs ∧
    ((faulted 3).odo.fault = true ∧ (faulted 3).odo.faultFresh = false ∧ (faulted 3).odo.errors = 0 ∧
      3 ≤ (faulted 3).odo.faultWindows) ∧ (faulted 2).odo.faultWindows < 3 ∧
    ((overspeeding 2 338).motion.state ≠ .idle ∧ (overspeeding 2 338).motion.overspeedRun = 2 ∧
      [1200, 1200, 1200, 1200].foldl max 0 + max 100 ([1200, 1200, 1200, 1200].foldl max 0 / 8) < 1352) ∧
    ((overspeeding 0 4).permit = true ∧ 16 < 20 ∧ 100 ≤ (overspeeding 0 4).motion.ceiling ∧
      cfg12.stuckThreshold ≤ { (overspeeding 0 4).motion with stuck := 7 }.stuck + 1) ∧
    (faulted 3).motion.state = .idle ∧
    ((on208 .stopping).motion.state = .stopping ∧ (on208 .stopping).motion.ceiling ≠ 0 ∧
      { (on208 .stopping).motion with ceiling := 0 }.ceiling = 0 ∧ 16 < 20) ∧
    ((overspeeding 2 338).motion.holdSent = false ∧ (overspeeding 0 4).mayRaise ∧ (on208 .run).mayRaise ∧
      (overspeeding 0 4).motion.stuck < 40 ∧ (on208 .faultStop).motion.state = .faultStop) := by
  unfold State.mayRaise
  decide
/-- R132: ODOMETER has the detail 0, STUCK the ceiling, and overspeed raises nothing. -/
theorem test_fault_callouts :
    ((after .decodeError { on208 .run with odo := { (on208 .run).odo with errors := 7 } }).callout.own.map
      fun c => (c.code, c.detail)) = [(4, 0)] ∧
    ((after .speedSample { overspeeding 0 4 with motion := { (overspeeding 0 4).motion with stuck := 7 } }).callout.own.map
      fun c => (c.code, c.detail)) = [(2, 1200)] ∧
    (after .speedSample (overspeeding 2 338)).callout.own = [] := by decide
/-- R119: STOPPING ends at a sample below 20 mm/s with the ceiling at 0. -/
theorem test_stopped_at_sample : (after .speedSample { on208 .stopping with
    motion := { (on208 .stopping).motion with ceiling := 0 } }).motion.state = .idle := by decide

/-- Robot 12 stopped by an odometer fault that is still raised. -/
def odometerStopped : State :=
  { on208 .faultStop with
    odo := { (on208 .faultStop).odo with fault := true }
    motion := { (on208 .faultStop).motion with faults := ⟨false, false, true, false⟩ } }

theorem witness_MotionRequests : (on208 .idle).host.heldSel = false ∧ (on208 .idle).isRobot = true ∧ (on208 .idle).station.state = .active ∧
    ((on208 .idle).station.leavePending = false ∧ (on208 .idle).motion.state = .idle ∧ (on208 .idle).group.holds = [] ∧
      (on208 .idle).odo.entry.map (·.segment) = some 208 ∧ (on208 .idle).holds 208 = true) ∧
    (∀ n, robot.odo.entry.map (·.segment) = some n → robot.holds n = false) ∧
    { cfg12 with group := 0 }.group = 0 ∧ (on208 .idle).station.config.group ≠ 0 ∧
    ((on208 .faultStop).motion.state = .faultStop ∧ 20 ≤ { (on208 .faultStop).odo with speed := 20 }.speed ∧
      (on208 .faultStop).motion.faults ≠ FaultSet.empty ∧ (on208 .faultStop).odo.speed < 20 ∧
      (on208 .faultStop).motion.faults.odometer = false) ∧
    ((on208 .run).motion.state = .run ∧ (on208 .stopping).motion.state = .stopping ∧
      (on208 .groupHold).motion.state = .groupHold ∧ (on208 .guestStop).motion.state = .guestStop) ∧
    ((on208 .retained).motion.state ≠ .idle ∧ (on208 .retained).motion.state ≠ .faultStop ∧
      (on208 .faultStop).motion.state ≠ .idle) ∧
    (odometerStopped.motion.state = .faultStop ∧ odometerStopped.motion.faults.odometer = true ∧
      odometerStopped.odo.fault = true ∧ odometerStopped.odo.speed < 20) ∧
    (silent.isRobot = true ∧ silent.host.heldSel = false ∧ silent.station.state = .silent) := by
  refine ⟨rfl, rfl, rfl, by decide, nofun, by decide⟩
/-- R120, R133: STOP_ROUTE is taken in SILENT, and the odometer fault while it is raised keeps the robot in FAULT_STOP. -/
theorem test_stop_route_silent : (after .stopRoute silent).host.reply = some [0x00] ∧
    (after .start odometerStopped).host.reply = some [0x01, 0x04] := by decide
theorem test_start : (after .start (on208 .idle)).motion.state = .run ∧
    (after .armStart (on208 .idle)).motion.state = .retained ∧
    (after .stopRoute (on208 .run)).motion.state = .stopping := by decide

theorem witness_RampStepMovesTheCeiling : (on208 .run).motion.state ≠ .stopping ∧
    ((on208 .stopping).motion.state = .stopping ∧
      0 = (if 100 < (on208 .stopping).target then 150 else max (on208 .stopping).target (100 - cfg12.decel)) ∧
      (on208 .stopping).odo.speed < 20) ∧ 20 ≤ (feeding 800).odo.speed ∧
    ((on208 .run).odo.entry.map (·.segment) = some 208 ∧
      (on208 .run).segs.records.find? (·.number == 208) = some seg208) ∧ (on208 .run).dosing.active = false ∧
    ((feeding 800).dosing.active = true ∧ (feeding 800).dosing.vSalt = some 4000) ∧
    (on208 .caution).motion.state = .caution := by decide
/-- R112: PERMIT is on in RUN with the claim HOLDING, and off in GUEST_STOP and without the claim. -/
theorem test_permit : (on208 .run).permit = true ∧ (on208 .guestStop).permit = false ∧
    { on208 .run with claims := ⟨[], [], 0⟩ }.permit = false := by decide
theorem test_ramp : (after .rampStep { on208 .run with motion := { (on208 .run).motion with ceiling := 1170 } }).motion.ceiling
    = 1200 ∧ (after .rampStep (on208 .caution)).motion.ceiling = 1100 := by decide

/-- Robot 12 with its warning counter at `n`, the warning entered or not. -/
def warned (n : Nat) (w : Bool) (m : MotionState) : State :=
  { on208 m with motion := { (on208 m).motion with warnCounter := n, warning := w } }

/-- Robot 12 stopped for a guest that still stands there, the warning counter at 2, for `ms` milliseconds. -/
def blocked (ms : Nat) : State :=
  { warned 2 false .guestStop with motion := { (warned 2 false .guestStop).motion with
      latch := true, lastProt := true, guestBlockedMs := ms } }

/-- The sample before the threshold of 3 and the one that reaches it; the last of a warning; PROT_FIELD rising. -/
theorem witness_ScannerSamples : depot.isRobot = false ∧ (warned 1 false .run).isRobot = true ∧
    (2 = min 3 ((warned 1 false .run).motion.warnCounter + 1) ∧ ¬ 3 ≤ 2 ∧
      (warned 1 false .run).motion.warning = false) ∧
    (3 = min 3 ((warned 2 false .run).motion.warnCounter + 1) ∧ (warned 2 false .run).motion.warning = false ∧
      (warned 2 false .run).motion.state = .run) ∧
    (0 = (warned 1 true .caution).motion.warnCounter - 1 ∧ (warned 1 true .caution).motion.warning = true) ∧
    ((on208 .run).motion.lastProt = false ∧ (on208 .run).motion.latch = false ∧ (on208 .run).station.state = .active) ∧
    parked.station.state ≠ .active ∧ (on208 .retained).motion.state = .retained ∧
    ((on208 .run).channel.queue.length < 6 ∧ (on208 .run).station.leavePending = false ∧
      (on208 .run).station.config.sendHold = true ∧ (on208 .run).station.config.group ≠ 0 ∧ (on208 .run).ownHold? = none ∧
      (on208 .run).group.holds.length < 8) ∧
    ({ on208 .stopping with group := { robot.group with holds := [⟨12, .decelerate, .request, none, 1⟩] } }.ownHold? ≠ none) ∧
    ({ cfg12 with sendHold := false }.sendHold = false ∧ { cfg12 with group := 0 }.group = 0) := by decide
/-- A steady active PROT_FIELD in GUEST_STOP, its GUEST_BLOCKED due or not, with the warning as it is and with a change. -/
theorem witness_ScannerSamples_steady :
    (blocked 120000).isRobot = true ∧ (blocked 120000).motion.lastProt = true ∧
    (blocked 120000).motion.state = .guestStop ∧ (blocked 120000).motion.guestBlockedRaised = false ∧
    120000 ≤ (blocked 120000).motion.guestBlockedMs ∧ 120000 < 65536000 ∧ (blocked 120000).mayRaise ∧
    (blocked 119999).motion.guestBlockedMs < 120000 ∧ (blocked 120000).motion.latch = true ∧
    { (blocked 120000).motion with lastProt := false }.lastProt = false ∧
    (3 = min 3 ((blocked 120000).motion.warnCounter + 1) ∧ (blocked 120000).motion.warning = false) ∧
    0 = (blocked 120000).motion.warnCounter - 2 ∧ (warned 2 false .run).motion.latch = false := by
  unfold State.mayRaise
  decide
/-- R125: the active sample at 120 s raises the callout, 120 s in its detail, and one before it raises none. -/
theorem test_guest_blocked_sample :
    ([120000, 119999].map fun n => (after (.scannerSample false true) (blocked n)).callout.own.map fun c => (c.code, c.detail)) =
      [[(1, 120)], []] := by decide
theorem witness_ScannerSamples_order : (on208 .run).QueueInOrder :=
  ⟨by decide, by decide, by decide, nofun⟩
/-- R123, R126: the guest stop raises the own hold, and queues the notice and the hold. -/
theorem test_guest_hold : (after (.scannerSample false true) (on208 .run)).channel.queue.map (·.payload) =
      [.guest 208 0 2, .hold 3 0 0] ∧
    (after (.scannerSample false true) (on208 .run)).group.guestMark = true ∧
    (after (.scannerSample false true) (on208 .run)).motion.holdSent = true := by decide
theorem test_scanner : (after (.scannerSample true false) (warned 2 false .run)).motion.state = .caution ∧
    (after (.scannerSample false true) (on208 .run)).motion.state = .guestStop ∧
    (after (.scannerSample false true) (on208 .run)).channel.seizeLeft = 48 := by decide

/-- Robot 12 stopped for a guest, the last PROT_FIELD sample active or not. -/
def guestStopped (prot : Bool) : State :=
  { on208 .guestStop with motion := { (on208 .guestStop).motion with latch := true, lastProt := prot } }

/-- Robot 12 stopped for a guest, its hold sent for the guest, with a mark of the host or none. -/
def guestHeld (m : Option (HoldType × HoldReason)) : State :=
  { guestStopped false with
    motion := { (guestStopped false).motion with holdSent := true }
    group := { robot.group with guestMark := true, hostMark := m, holds := [⟨12, .immediate, .guest, none, 1⟩] } }

theorem witness_ScannerTimers : ((guestStopped false).motion.latch = true ∧ (guestStopped false).motion.lastProt = false ∧
      (guestStopped false).motion.warning = false ∧ (guestStopped false).motion.state = .guestStop ∧
      (guestStopped false).motion.holdSent = false ∧ (on208 .groupHold).motion.state ≠ .guestStop ∧
      (guestHeld none).motion.holdSent = true ∧ (guestHeld none).group.hostMark = none ∧
      (guestHeld (some (.decelerate, .request))).group.hostMark ≠ none ∧ (guestHeld none).channel.queue.length < 7) ∧
    ((guestStopped true).isRobot = true ∧ (guestStopped true).motion.guestBlockedRaised = false ∧
      (guestStopped true).motion.lastProt = true ∧ (guestStopped true).station.state = .active ∧
      (guestStopped true).callout.own.length < 4 ∧ (guestStopped true).channel.queue.length < 8 ∧
      { (guestStopped true).motion with guestBlockedMs := 65535999 }.guestBlockedMs < 65536000) ∧
    { (guestStopped true).motion with guestBlockedRaised := true }.guestBlockedRaised = true ∧
    ((guestStopped true).zone ≠ .clear ∧ (guestStopped true).hasRoom ∧
      ∀ q ∈ (guestStopped true).channel.queue, ∀ n k z, q.payload ≠ .guest n k z) ∧ robot.zone = .clear ∧
    { (on208 .caution).motion with seizePeriod := some 10000 }.seizePeriod = some 10000 :=
  ⟨by decide, by decide, rfl, ⟨by decide, ⟨by decide, by decide⟩, none_in rfl⟩, by decide, rfl⟩
/-- Section 6.10: the guest-blocked timer stops at 8.34 s when the robot drives on. -/
theorem test_guest_blocked_stops : (after .guestCleared { guestStopped false with
    motion := { (guestStopped false).motion with guestBlockedMs := 8340 } }).motion.guestBlockedMs = 8340 := by decide
/-- R123, R126: the hold of the guest goes with a RESUME, and the zone has its event; a mark of the host keeps it. -/
theorem test_guest_hold_released : (after .guestCleared (guestHeld none)).motion.state = .run ∧
    (after .guestCleared (guestHeld none)).channel.queue.map (·.payload) = [.guest 208 0 0, .resume 3] ∧
    (after .guestCleared (guestHeld none)).host.events.head?.map (·.event) = some (.guestZone .clear .protective (some (208, 0))) ∧
    (after .guestCleared (guestHeld (some (.decelerate, .request)))).motion.state = .groupHold := by decide
theorem test_guest_cleared : (after .guestCleared (guestStopped false)).motion.state = .run ∧
    (after .guestBlocked (guestStopped true)).callout.own.map (fun c => (c.code, c.segment, c.cell, c.detail)) =
      [(1, 208, 0, 120)] := by decide

/-- Robot 12 armed in a motion state. -/
def armed (m : MotionState) : State := { on208 m with group := { (on208 m).group with retained := true } }

theorem witness_GoReleasesTheRetained : (armed .retained).host.heldSel = false ∧ (armed .retained).delivers 5 ∧
    ((armed .retained).station.config.station = 12 ∧ (armed .retained).station.config.group = 3 ∧
      (armed .retained).station.state = .active ∧ (armed .retained).station.leavePending = false ∧
      (armed .retained).channel.queue.length < 8) ∧ 4 ≠ (armed .retained).station.config.group ∧
    ((armed .retained).motion.state = .retained ∧ (armed .retained).group.holds = []) ∧
    ((armed .groupHold).motion.state = .groupHold ∧ (armed .groupHold).group.retained = true) ∧
    ((on208 .guestStop).motion.state = .guestStop ∧ (on208 .guestStop).group.retained = false) ∧
    (on208 .idle).motion.state ≠ .retained := by
  unfold State.delivers
  decide
theorem test_go : (after (.go 5 3) (armed .retained)).motion.state = .run ∧
    (after .sendGo (armed .retained)).host.reply = some [0x00, 0x02] := by decide

/-- Robot 12 in a motion state with hold entries. -/
def held (m : MotionState) (hs : List HoldEntry) : State :=
  { on208 m with group := { (on208 m).group with holds := hs, nextStamp := 9 } }

/-- Robot 12 running at group 0. -/
def groupless : State := { on208 .run with station := { robot.station with config := { cfg12 with group := 0 } } }

/-- The own hold, raised by the host. -/
def ownHeld : State :=
  { held .groupHold [⟨12, .decelerate, .request, none, 1⟩] with
    group := { (held .groupHold [⟨12, .decelerate, .request, none, 1⟩]).group with hostMark := some (.decelerate, .request) } }

/-- A full hold set: the entry of 21 has the earliest expiry. -/
def fullHolds : List HoldEntry :=
  (List.range 8).map fun n => ⟨20 + n, .decelerate, .request, some (if n = 1 then 105 else 120), n⟩

/-- A change of an entry, a full set, and both marks beside the cases without a change. -/
theorem witness_HoldsHoldChangeAndReplacement :
    ((held .run [⟨5, .decelerate, .request, some 110, 1⟩]).group.holds.find? (·.originator == 5) =
        some ⟨5, .decelerate, .request, some 110, 1⟩ ∧ HoldType.decelerate ≠ .immediate) ∧
    ((held .groupHold fullHolds).Keyed ∧ (held .groupHold fullHolds).group.holds.find? (·.originator == 99) = none ∧
      (held .groupHold fullHolds).group.holds.length = 8 ∧ (⟨21, .decelerate, .request, some 105, 1⟩ : HoldEntry) ∈ fullHolds ∧
      ∀ y ∈ fullHolds, ∀ z, y.expiry = some z → y = ⟨21, .decelerate, .request, some 105, 1⟩ ∨ 105 < z) ∧
    (ownHeld.group.hostMark = some (.decelerate, .request) ∧ ownHeld.group.guestMark = false ∧
      ownHeld.station.leavePending = false ∧ ownHeld.channel.queue.length < 8 ∧
      (held .groupHold [⟨12, .immediate, .guest, none, 1⟩]).ownHold? = some ⟨12, .immediate, .guest, none, 1⟩) := by
  refine ⟨by decide, ⟨by unfold State.Keyed; decide, by decide, by decide, by decide, ?_⟩, by decide⟩
  intro y h z e
  have all : ∀ y ∈ fullHolds, y = ⟨21, .decelerate, .request, some 105, 1⟩ ∨ y.expiry = some 120 := by decide
  rcases all y h with rfl | k
  · exact .inl rfl
  · cases k.symm.trans e
    exact .inr (by decide)

theorem witness_HoldsHoldAndEnd : (robot.host.heldSel = false ∧ ownHeld.host.heldSel = false) ∧ robot.station.config.group ≠ 0 ∧ (on208 .run).delivers 5 ∧
    holdTypeOf 0 = some .immediate ∧ holdTypeOf 1 = some .decelerate ∧ holdReasonOf 2 = some .request ∧
    4 ≠ robot.station.config.group ∧ { cfg12 with holdResponse := false }.holdResponse = false ∧
    (robot.station.config.holdResponse = true ∧ (on208 .run).group.holds.find? (·.originator == 5) = none ∧
      (on208 .run).group.holds.length < 8 ∧ (on208 .run).motion.state = .run ∧
      robot.station.config.alwaysImmediate = false ∧ ∀ h ∈ (on208 .run).group.holds, h.holdType = .decelerate) ∧
    ((held .groupHold [⟨5, .decelerate, .request, some 100, 1⟩]).group.holds.find? (·.originator == 5) =
        some ⟨5, .decelerate, .request, some 100, 1⟩ ∧
      100 ≤ (held .groupHold [⟨5, .decelerate, .request, some 100, 1⟩]).station.clock ∧
      (held .groupHold [⟨5, .decelerate, .request, some 100, 1⟩]).motion.latch = false) ∧
    (robot.group.guestMark = false ∧ robot.ownHold? = none ∧ robot.channel.queue.length < 8 ∧
      ∀ q ∈ robot.channel.queue, ∀ g y z, q.payload ≠ .hold g y z) ∧
    (robot.group.hostMark = none ∧ { robot.group with guestMark := true }.guestMark = true) ∧
    (ownHeld.ownHold? = some ⟨12, .decelerate, .request, none, 1⟩ ∧ ownHeld.station.state = .active ∧
      ∀ q ∈ ownHeld.channel.queue, ∀ g y z, q.payload ≠ .hold g y z) ∧ parked.station.state ≠ .active :=
  ⟨by decide, by decide, by unfold State.delivers; decide, rfl, rfl, rfl, by decide, rfl, by decide, by decide,
    ⟨rfl, by decide, by decide, none_in rfl⟩, by decide, ⟨by decide, rfl, none_in rfl⟩, by decide⟩
/-- Group 0, another code, no entry; a refused state. -/
theorem witness_HoldsHoldAndEnd_groupless : (on208 .run).delivers 5 ∧ groupless.delivers 5 ∧
    groupless.station.config.group = 0 ∧ (holdTypeOf 2 = none ∧ holdReasonOf 3 = none ∧ 0 ≠ 1 ∧ 0 ≠ 2) ∧
    (on208 .run).group.holds.find? (·.originator == 5) = none ∧ groupless.host.heldSel = false ∧
    parked.station.state ≠ .active ∧ { robot.station with leavePending := true }.leavePending = true := by
  unfold State.delivers
  decide
/-- R137, R145, R146: a station of group 0 is in no echelon. -/
theorem test_groupless : (after (.hold 5 0 0 2) groupless).group.holds = [] ∧
    (after .sendResume groupless).host.reply = some [0x01] ∧ (after (.sendHold 0 2) groupless).host.reply = some [0x01] := by
  decide
theorem test_hold : (after (.hold 5 3 1 2) (on208 .run)).motion.state = .stopping ∧
    (after (.hold 5 3 0 2) (on208 .run)).motion.state = .groupHold ∧
    (after (.hold 5 3 0 2) (on208 .run)).group.holds.map (·.expiry) = [some 130] := by decide
theorem test_hold_changed :
    (after (.hold 5 3 0 2) (held .stopping [⟨5, .decelerate, .request, some 110, 1⟩])).motion.state = .groupHold ∧
    (after .sendResume ownHeld).channel.queue.map (·.payload) = [.resume 3] ∧
    (after (.hold 99 3 1 2) (held .groupHold fullHolds)).group.holds.map (·.originator) = [20, 22, 23, 24, 25, 26, 27, 99] := by
  decide
theorem test_hold_expiry : (after (.holdExpiry 5) (held .groupHold [⟨5, .decelerate, .request, some 100, 1⟩])).motion.state
    = .run := by decide

theorem witness_BeaconStockAndFeed : (robot.host.heldSel = false ∧ (feeding 1500).host.heldSel = false) ∧ 255 ≤ 255 ∧ 255 < 256 ∧ (on208 .run).motion.state = .run ∧
    (on208 .stopping).motion.state = .stopping ∧ (on208 .groupHold).motion.state = .groupHold ∧
    (on208 .faultStop).motion.state = .faultStop ∧ (on208 .retained).motion.state = .retained ∧
    4000000 = min 4000000 4000001 ∧ State.reset.station.configValid = false ∧
    ((feeding 800).dosing.active = true ∧ cfg12.feedCal ≤ (feeding 800).dosing.stock ∧ 0 < (feeding 800).dosing.rate ∧
      16000 ≤ (feeding 800).dosing.acc ∧ (feeding 800).dosing.pulsesNow = 0 ∧
      1 ≤ { (feeding 800).dosing with pulsesNow := 1 }.pulsesNow) ∧ robot.dosing.active = false ∧
    (feeding 799).dosing.stock < cfg12.feedCal ∧
    ((feeding 1500).isDepot = false ∧ (feeding 1500).station.state = .active ∧ (feeding 1500).channel.queue.length < 7 ∧
      (feeding 1500).callout.own.length < 3 ∧ (feeding 1500).dosing.low = false ∧ 1500 - 800 < cfg12.lowStock * 1000 ∧
      1500 - 800 < cfg12.feedCal) ∧
    (robot.station.configValid = true ∧ 19999 < cfg12.lowStock ∧ cfg12.feedCal ≤ (feeding 800).dosing.stock ∧
      0 * 1000 < cfg12.feedCal) ∧ { (feeding 800).dosing with acc := 15999 }.acc < 16000 ∧
    ((feeding 1500).mayRaise ∧ (feeding 1500).dosing.active = true ∧ cfg12.lowStock ≤ 20000) := by
  unfold State.mayRaise
  decide
/-- R163, R164: loading less than the threshold and less than a pulse raises both callouts. -/
theorem test_load_stock_callouts : (after (.loadStock 0) (feeding 1500)).callout.own.map (fun c => (c.code, c.detail)) =
    [(6, 0), (5, 0)] := by decide
/-- R158: two pulses of one millisecond, at 0 and at 500 µs, 100 µs each. -/
theorem test_feed_line : [0, 99, 100, 499, 500, 599, 600].map
    (after .feedPulse (after .feedPulse { feeding 1600 with dosing := { (feeding 1600).dosing with acc := 33000 } })).feedLine =
    [true, true, false, false, true, true, false] := by decide
/-- R158: a pulse for which the accumulator does not stand at 16,000 is the first of a later step. -/
theorem test_feed_line_restarts : [0, 500].map (after .feedPulse { feeding 1600 with
    dosing := { (feeding 1600).dosing with acc := 0, pulsesNow := 1 } }).feedLine = [true, false] := by decide
theorem test_beacon : (after (.setBeacon 255) (on208 .run)).beacon = 255 ∧ (on208 .caution).beacon = 192 := by decide

/-- The relay entry of section 9's forms. -/
def relay0 : RelayEntry := ⟨31, 7, 1, 208, 2, 120, 1, 1, .awaiting 2000⟩

/-- Fields out of range one by one and at their ends; a list with three records and with four; records that wait. -/
theorem witness_CalloutsRaisedAndRepeated : robot.host.heldSel = false ∧ robot.station.state = .active ∧ robot.station.leavePending = false ∧
    1 < 2 ∧ 4000 < 4001 ∧ 63 < 64 ∧ 65535 < 65536 ∧ (1 ≤ 1 ∧ 4000 ≤ 4000 ∧ 63 ≤ 63 ∧ 65535 ≤ 65535) ∧
    robot.isDepot = false ∧ (List.replicate 3 (callout0 0)).length < 4 ∧ 4 ≤ (List.replicate 4 (callout0 0)).length ∧
    depot.isDepot = true ∧ robot.channel.queue.length < 8 ∧ robot.hasRoom ∧
    ([{ callout0 1 with retry := .awaiting 2000 }].find? (·.seq == 0) = some { callout0 1 with retry := .awaiting 2000 }) ∧
    ([relay0].find? (fun x => x.origin == 31 && x.seq == 7) = some relay0) ∧ relay0.retry = .awaiting 2000 := by
  unfold State.hasRoom
  decide
theorem test_raise_callout : (after (.raiseCallout 1 4000 63 65535) robot).callout.own.map (·.code) = [8] ∧
    (after (.raiseCallout 1 4000 63 65535) depot).callout.own = [] := by decide

/-- A robot and a depot whose response field stands at their own value. -/
def answering (s : State) : State := { s with channel := { s.channel with response := some 268, condition := .busy } }

theorem witness_CalloutHeardAndTaken : (answering robot).delivers 31 ∧
    ((answering robot).channel.response ≠ some 267 ∧ robot.channel.response ≠ some 65535 ∧ 254 < 255 ∧ 8 < 9 ∧ 15 < 16) ∧
    ((answering robot).channel.response = some 268 ∧ 11 < 12 ∧ 254 ≠ robot.station.config.station ∧
      (∀ p ∈ (answering robot).callout.recent, ¬ (p.origin = 254 ∧ p.seq = 7)) ∧ (answering robot).isDepot = false ∧
      (∀ e ∈ (answering robot).callout.relay, ¬ (e.origin = 254 ∧ e.seq = 7)) ∧
      (answering robot).callout.relay.length < 8 ∧ (answering robot).channel.queue.length < 8) ∧
    ((answering depot).isDepot = true ∧ (answering depot).callout.recent.length < 16) ∧
    (∃ e ∈ [relay0], e.origin = 31 ∧ e.seq = 7) ∧
    (∃ p ∈ [(⟨31, 7, 220⟩ : RecentPair)], p.origin = 31 ∧ p.seq = 7) := by
  unfold State.delivers
  decide
theorem test_callout_relayed :
    (after (.callout 31 254 7 1 208 2 11 2 120 268) (answering robot)).callout.relay.map (·.hop) = [12] ∧
    (after (.callout 31 254 7 1 208 2 11 2 120 268) (answering depot)).callout.recent.map (·.expiry) = [220] := by decide

end Sys2Proof.Tests
end

/-! ## The station's life: Join (R28) -/

namespace Sys2Proof.Machine

/-- The meaning of JOIN is `execJoin`. -/
theorem exec_join (s : State) : exec .join s = execJoin s := rfl

/-- Forming a reply sets the last reply and nothing else (R184). -/
theorem reply_eq_answered (bs : List Byte) (s : State) : reply bs s = s.answered bs := rfl

/-- A refusal answers the status byte alone (R186). -/
theorem refuse_eq_answered (status : Byte) (s : State) : refuse status s = .next (s.answered [status]) := rfl

/-- The reply OK is status 0 and the result fields (R186). -/
theorem ok_eq_answered (fields : List Byte) (s : State) : ok fields s = s.answered (0x00 :: fields) := rfl

/-- One record joins the event queue as `post` puts it there (R190). -/
theorem withEvents_singleton (e : Event) (s : State) :
    s.withEvents [e] = joinRecords s.station.clock s.host.events e := rfl

/-- JOIN accepted: the station listens from 0, and its receiver waits for an idle channel (R28, R3, R10). -/
theorem execJoin_accepted (s : State) (hsel : s.host.heldSel = false) (hoff : s.station.state = .offline)
    (hvalid : s.station.configValid = true) :
    execJoin s = .next { s with
      station := { s.station with state := .listening, listenTimer := 0 }
      channel := { s.channel with condition := .busy, idleCount := 0, assembler := .waitIdle }
      host := { s.host with
        events := s.withEvents [.stationState .join .offline .listening], reply := some [0x00] } } := by
  rw [execJoin, whenTaken_taken _ _ hsel, if_pos ⟨hoff, hvalid⟩, ok_eq_answered, post_eq, withEvents_singleton]
  rfl

/-- JOIN out of OFFLINE or without a valid record is refused for the station's state (R28, R186). -/
theorem execJoin_refused (s : State) (hsel : s.host.heldSel = false)
    (hbar : s.station.state ≠ .offline ∨ s.station.configValid = false) :
    execJoin s = .next (s.answered [0x01]) := by
  have hnot : ¬ (s.station.state = .offline ∧ s.station.configValid = true) := by
    rintro ⟨hoff, hvalid⟩
    rcases hbar with hstate | hinvalid
    · exact hstate hoff
    · simp [hvalid] at hinvalid
  rw [execJoin, whenTaken_taken _ _ hsel, if_neg hnot, refuse_eq_answered]
  rfl

/-- Settles O22: JOIN is taken (R185), and its two arms are the accepted and the refused JOIN. -/
theorem joinEntersListening : Obligations.JoinEntersListening := by
  intro s hsel
  rw [exec_join]
  exact ⟨execJoin_accepted s hsel, execJoin_refused s hsel⟩

end Sys2Proof.Machine

/-! ## Segments and coverage cells: CLEAR_SEGMENTS (R46) -/

namespace Sys2Proof.Machine

/-- The meaning of CLEAR_SEGMENTS is `execClearSegments`. -/
theorem exec_clearSegments (s : State) : exec .clearSegments s = execClearSegments s := rfl

/-- CLEAR_SEGMENTS in OFFLINE: the table is empty, and the reply counts what it held (R46). -/
theorem execClearSegments_offline (s : State) (hsel : s.host.heldSel = false) (hoff : s.station.state = .offline) :
    execClearSegments s = .next (endOfStep { s with
      segs := { s.segs with records := [] }
      host := { s.host with reply := some [0x00, BitVec.ofNat 8 s.segs.records.length] } }) := by
  rw [execClearSegments, whenTaken_taken _ _ hsel, if_neg (not_not.2 hoff), ok_eq_answered]
  rfl

/-- CLEAR_SEGMENTS out of OFFLINE is refused for the station's state (R46, R186). -/
theorem execClearSegments_refused (s : State) (hsel : s.host.heldSel = false) (hon : s.station.state ≠ .offline) :
    execClearSegments s = .next (s.answered [0x01]) := by
  rw [execClearSegments, whenTaken_taken _ _ hsel, if_pos hon, refuse_eq_answered]
  rfl

/-- Settles O39: CLEAR_SEGMENTS is taken (R185), and its two arms are OFFLINE and the other station states. -/
theorem clearSegmentsRemovesEveryRecord : Obligations.ClearSegmentsRemovesEveryRecord := by
  intro s hsel
  rw [exec_clearSegments]
  exact ⟨execClearSegments_offline s hsel, execClearSegments_refused s hsel⟩

/-! ## The fields of a fill (R62, R64) -/

/-- The range of a fill is sound exactly where its segments are in 1..4000 and in order (R62, R64). -/
theorem fillRange_iff (first last : Nat) :
    fillRange first last = true ↔ 1 ≤ first ∧ first ≤ last ∧ last ≤ 4000 := by
  have hmax : Config.maxSegment = 4000 := rfl
  simp only [fillRange, within, Bool.and_eq_true, decide_eq_true_eq, hmax]
  omega

/-- The range of a fill is unsound where it leaves 1..4000 or runs backwards (R62, R64). -/
theorem fillRange_eq_false (first last : Nat) (hbad : first = 0 ∨ 4000 < last ∨ last < first) :
    fillRange first last = false := by
  rw [← Bool.not_eq_true, fillRange_iff]
  omega

/-! ## What a fill withdraws (R25, R63) -/

/-- The frames that a fill withdraws: PROGRESS frames for the range, but not the frame in flight (R63). -/
theorem isProgressIn_iff (inFlight : Option Nat) (first last : Nat) (q : Queued) :
    isProgressIn inFlight first last q = true ↔
      (∃ n f l w d x, q.payload = .progress n f l w d x ∧ first ≤ n ∧ n ≤ last) ∧ inFlight ≠ some q.entry := by
  unfold isProgressIn
  cases q.payload <;> simp [and_assoc]

/-- A withdrawal that spares the frame in flight changes the transmit queue alone (R25). -/
theorem withdraw_sparing_flight (p : Queued → Bool) (s : State) (hq : s.QueueInOrder)
    (hspare : ∀ q, s.channel.flightEntry = some q.entry → p q = false) :
    withdraw p s = { s with channel := { s.channel with queue := s.channel.queue.filter fun q => !p q } } := by
  cases hf : s.channel.flight with
  | none => simp [withdraw, State.onChannel, Channel.flightIn, hf]
  | some f =>
    have ⟨_, _, _, hflying⟩ := hq
    obtain ⟨q, hmem, hentry⟩ := hflying f hf
    obtain ⟨v, hv⟩ : ∃ v, s.channel.queue.find? (·.entry == f.entry) = some v :=
      Option.isSome_iff_exists.1 (List.find?_isSome.2 ⟨q, hmem, by simp [hentry]⟩)
    have hve : v.entry = f.entry := by simpa using List.find?_some hv
    have hpv : p v = false := hspare v (by simp [Channel.flightEntry, hf, hve])
    rw [withdraw_flying p s f v ⟨hf, hv⟩ hq]
    simp [hpv, hf]

/-! ## A fill (R63) -/

/-- A fill changes the segment table, withdraws its PROGRESS frames, and posts its event (R63). -/
theorem fill_eq (source first last : Nat) (k : Bool) (s : State) :
    fill source first last k s = { s with
      segs := (fill source first last k s).segs
      channel := (withdraw (isProgressIn s.channel.flightEntry first last) s).channel
      host := { s.host with events := s.withEvents [.snowfall source first last k (s.recordsIn first last)] } } := by
  simp only [fill, post_eq, withEvents_singleton]
  cases s.currentSegment with
  | none => rfl
  | some n => dsimp only; split <;> rfl

/-- Every record of the range has its cells filled, and no other record changes (R63). -/
theorem fill_records (source first last : Nat) (k : Bool) (s : State) :
    (fill source first last k s).segs.records = s.segs.records.map (fun r => if first ≤ r.number ∧ r.number ≤ last then
      { r with cells := r.cells.map (fun x => if k then ⟨false, none, 0, none, false⟩
        else { x with plowed := false, plowedAt := none }) } else r) := by
  have hrecords : (fill source first last k s).segs.records =
      updateIf (fun r => decide (first ≤ r.number) && decide (r.number ≤ last))
        (fun r => { r with cells := r.cells.map (filledCell k) }) s.segs.records := by
    unfold fill
    cases s.currentSegment with
    | none => simp
    | some n => by_cases hin : first ≤ n ∧ n ≤ last <;> simp [hin]
  rw [hrecords]
  simp only [updateIf, Bool.and_eq_true, decide_eq_true_eq]
  rfl

/-- With the current segment in the range the open pass starts its counts again, and the pending report goes (R63). -/
theorem fill_restarts_pass (source first last n : Nat) (k : Bool) (s : State) (hn : s.currentSegment = some n)
    (hin : first ≤ n ∧ n ≤ last) :
    (fill source first last k s).segs.report = none ∧
      (fill source first last k s).segs.pass = s.segs.pass.map (fun p =>
        { p with travel := 0, blade := 0, residual := if k then 0 else p.residual }) := by
  simp [fill, hn, hin]

/-- Without the current segment in the range the open pass and the pending report stay (R63). -/
theorem fill_keeps_pass (source first last : Nat) (k : Bool) (s : State)
    (hout : ∀ n, s.currentSegment = some n → ¬ (first ≤ n ∧ n ≤ last)) :
    (fill source first last k s).segs.report = s.segs.report ∧
      (fill source first last k s).segs.pass = s.segs.pass := by
  unfold fill
  cases hn : s.currentSegment with
  | none => simp
  | some n => simp [hout n hn]

/-- The transmit queue after a fill (R63). -/
theorem fill_queue (source first last : Nat) (k : Bool) (s : State) :
    (fill source first last k s).channel.queue =
      s.channel.queue.filter fun q => !isProgressIn s.channel.flightEntry first last q :=
  congrArg (fun t => t.channel.queue) (fill_eq source first last k s)

/-- Of the queued frames a fill leaves all but the PROGRESS frames for its range that are not in flight (R63). -/
theorem mem_fill_queue (source first last : Nat) (k : Bool) (s : State) (q : Queued) :
    q ∈ (fill source first last k s).channel.queue ↔ q ∈ s.channel.queue ∧
      ¬ ((∃ n f l w d x, q.payload = .progress n f l w d x ∧ first ≤ n ∧ n ≤ last) ∧
        s.channel.flightEntry ≠ some q.entry) := by
  rw [fill_queue, List.mem_filter, Bool.not_eq_true', ← Bool.not_eq_true, isProgressIn_iff]

/-- The event of a fill carries the number of records in the range (R63). -/
theorem fill_events (source first last : Nat) (k : Bool) (s : State) :
    (fill source first last k s).host.events =
      s.withEvents [.snowfall source first last k (s.recordsIn first last)] :=
  congrArg (fun t => t.host.events) (fill_eq source first last k s)

/-- A fill leaves the frame in flight to go out, so that it changes the transmit queue alone of the channel (R63). -/
theorem fill_channel (source first last : Nat) (k : Bool) (s : State) (hq : s.QueueInOrder) :
    (fill source first last k s).channel =
      { s.channel with queue := (fill source first last k s).channel.queue } := by
  have hspare (q : Queued) (hfly : s.channel.flightEntry = some q.entry) :
      isProgressIn s.channel.flightEntry first last q = false := by
    rw [← Bool.not_eq_true, isProgressIn_iff]
    rintro ⟨-, hnot⟩
    exact hnot hfly
  rw [fill_queue, fill_eq, withdraw_sparing_flight _ s hq hspare]

/-! ## MARK_SNOWFALL and SNOWFALL (R62 to R64) -/

/-- The meaning of MARK_SNOWFALL is `execMarkSnowfall`. -/
theorem exec_markSnowfall (first last flag broadcast : Nat) (s : State) :
    exec (.markSnowfall first last flag broadcast) s = execMarkSnowfall first last flag broadcast s := rfl

/-- The meaning of SNOWFALL is `execSnowfall`. -/
theorem exec_snowfall (source first last flag : Nat) (s : State) :
    exec (.snowfall source first last flag) s = execSnowfall source first last flag s := rfl

/-- MARK_SNOWFALL without broadcast, its range unsound, is refused (R62). -/
theorem execMarkSnowfall_refused (first last flag : Nat) (s : State) (hsel : s.host.heldSel = false)
    (hbad : fillRange first last = false) : execMarkSnowfall first last flag 0 s = .next (s.answered [0x02]) := by
  rw [execMarkSnowfall, whenTaken_taken _ _ hsel, if_neg (by simp), hbad]
  exact refuse_eq_answered _ s

/-- MARK_SNOWFALL without broadcast: the fill, and the reply with the number of records (R62). -/
theorem execMarkSnowfall_fills (first last flag : Nat) (k : Bool) (s : State) (hsel : s.host.heldSel = false)
    (hflag : flagOf flag = some k) (hrange : fillRange first last = true) :
    execMarkSnowfall first last flag 0 s = .next (endOfStep
      ((fill 0 first last k s).answered [0x00, BitVec.ofNat 8 (s.recordsIn first last)])) := by
  rw [execMarkSnowfall, whenTaken_taken _ _ hsel, if_neg (by simp), hflag, hrange]
  rfl

/-- MARK_SNOWFALL with broadcast in ACTIVE: the fill, and after it a SNOWFALL frame is queued (R62). -/
theorem execMarkSnowfall_broadcasts (first last flag : Nat) (k : Bool) (s : State) (hsel : s.host.heldSel = false)
    (hflag : flagOf flag = some k) (hrange : fillRange first last = true) (hactive : s.station.state = .active) :
    execMarkSnowfall first last flag 1 s = .next (endOfStep
      ((queueFrame .segments (.snowfall first last flag) (fill 0 first last k s)).answered
        [0x00, BitVec.ofNat 8 (s.recordsIn first last)])) := by
  rw [execMarkSnowfall, whenTaken_taken _ _ hsel, if_neg (by simp [hactive]), hflag, hrange]
  rfl

/-- A delivered SNOWFALL frame with an unsound range changes nothing but the receiver (R64). -/
theorem execSnowfall_ignored (source first last flag : Nat) (s : State) (hdel : s.delivers source)
    (hbad : fillRange first last = false) :
    execSnowfall source first last flag s = .next (endOfStep { s with channel := s.channel.frameOver }) := by
  rw [execSnowfall, receive_delivers source _ s hdel, hearSnowfall, hbad]
  rfl

/-- A delivered SNOWFALL frame with sound fields is a fill by its sender (R64). -/
theorem execSnowfall_fills (source first last flag : Nat) (k : Bool) (s : State) (hdel : s.delivers source)
    (hflag : flagOf flag = some k) (hrange : fillRange first last = true) :
    execSnowfall source first last flag s = .next (endOfStep
      { fill source first last k s with channel := (fill source first last k s).channel.frameOver }) := by
  rw [execSnowfall, receive_delivers source _ s hdel, hearSnowfall, hflag, hrange]
  rfl

/-- A fill by either command: the state before the end of its step is that of the fill, the frame heard being over or
the request answered (R62, R64). -/
theorem exec_fills (source first last flag : Nat) (k : Bool) (c : Instr) (s : State) (hsel : s.host.heldSel = false)
    (hflag : flagOf flag = some k) (hrange : fillRange first last = true) (hq : s.QueueInOrder)
    (hc : (c = .markSnowfall first last flag 0 ∧ source = 0) ∨
      (c = .snowfall source first last flag ∧ s.delivers source)) :
    exec c s = .next (endOfStep { fill source first last k s with
      channel := { (if c = .markSnowfall first last flag 0 then s.channel else s.channel.frameOver) with
        queue := (fill source first last k s).channel.queue }
      host := { (fill source first last k s).host with
        reply := if c = .markSnowfall first last flag 0 then some [0x00, BitVec.ofNat 8 (s.recordsIn first last)]
          else s.host.reply } }) := by
  have hchannel := fill_channel source first last k s hq
  rcases hc with ⟨rfl, rfl⟩ | ⟨rfl, hdel⟩
  · rw [exec_markSnowfall, execMarkSnowfall_fills first last flag k s hsel hflag hrange, if_pos rfl, if_pos rfl,
      ← hchannel]
    rfl
  · have hreply : (fill source first last k s).host.reply = s.host.reply := by simp
    rw [exec_snowfall, execSnowfall_fills source first last flag k s hdel hflag hrange, if_neg (by simp),
      if_neg (by simp), ← hreply, hchannel]
    rfl

/-- A frame queued where there is room waits in the queue with age 0 (R22, R23). -/
theorem queueFrame_waits (b : Block) (p : Payload) (s : State) (hroom : s.hasRoom) :
    ∃ q ∈ (queueFrame b p s).channel.queue, q.payload = p ∧ q.age = 0 ∧ q.owner = b := by
  obtain ⟨⟨before, behind, -, hjoined, -, -⟩, -⟩ := queueFrame_queues b p s hroom
  exact ⟨⟨p, p.priority, b, 0, s.channel.nextEntry⟩, by simp [hjoined], rfl, rfl, rfl⟩

/-- After a fill there is room for a frame where there was room before it, since a fill queues nothing (R63). -/
theorem fill_hasRoom (source first last : Nat) (k : Bool) (s : State) (hroom : s.hasRoom) :
    (fill source first last k s).hasRoom := by
  obtain ⟨hstate, hlen⟩ := hroom
  refine ⟨by simpa using hstate, ?_⟩
  rw [fill_queue]
  exact (List.length_filter_le _ _).trans_lt hlen

/-- Settles O40: both commands come to one fill (`exec_fills`), and the lemmas about `fill` say what it does; with
broadcast the SNOWFALL frame joins the queue that the fill has left. -/
theorem snowfallFillsTheRange : Obligations.SnowfallFillsTheRange := by
  intro source first last flag k s hflag hsel
  refine ⟨fun c hc => ⟨fun hbad => ?refused, fun hfirst horder hlast hq => ?filled⟩,
    fun hactive hlen hfirst horder hlast => ?broadcast⟩
  case refused =>
    have hrange := fillRange_eq_false first last hbad
    rcases hc with ⟨rfl, -⟩ | ⟨rfl, hdel⟩
    · exact ⟨fun _ => execMarkSnowfall_refused first last flag s hsel hrange, nofun⟩
    · exact ⟨nofun, fun _ => execSnowfall_ignored source first last flag s hdel hrange⟩
  case filled =>
    have hrange := (fillRange_iff first last).2 ⟨hfirst, horder, hlast⟩
    exact ⟨_, exec_fills source first last flag k c s hsel hflag hrange hq hc, by rw [fill_eq],
      fill_records source first last k s,
      fun n hn hlow hhigh => fill_restarts_pass source first last n k s hn ⟨hlow, hhigh⟩,
      fill_keeps_pass source first last k s, mem_fill_queue source first last k s, rfl,
      fill_events source first last k s, rfl⟩
  case broadcast =>
    have hrange := (fillRange_iff first last).2 ⟨hfirst, horder, hlast⟩
    have hroom := fill_hasRoom 0 first last k s ⟨by simp [hactive], hlen⟩
    refine ⟨_, execMarkSnowfall_broadcasts first last flag k s hsel hflag hrange hactive, ?_,
      queueFrame_waits .segments (.snowfall first last flag) _ hroom⟩
    rw [queueFrame_room _ _ _ hroom]
    exact fill_records 0 first last k s

end Sys2Proof.Machine

/-! ## Odometry: positions within a segment (R101, R102) -/

namespace Sys2Proof.Machine

/-! ### The counter held within the segment (R101) -/

/-- A counter below the segment's start is taken as 0. -/
theorem accounting_before (len : Nat) (position : Int) (hbefore : position < 0) : accounting len position = 0 :=
  if_pos hbefore

/-- A counter within the segment is the accounting position itself. -/
theorem accounting_within (len : Nat) (position : Int) (hstart : 0 ≤ position) (hend : position < len) :
    (accounting len position : Int) = position := by
  rw [accounting, if_neg (by omega)]
  omega

/-- A counter at or past the segment's end is taken as the largest accounting position. -/
theorem accounting_beyond (len : Nat) (position : Int) (hpast : len ≤ position) :
    accounting len position = len - 1 := by
  rw [accounting, if_neg (by omega)]
  omega

/-- The accounting position is below a segment's length in counts. -/
theorem accounting_lt (len : Nat) (position : Int) (hlen : 0 < len) : accounting len position < len := by
  unfold accounting
  split <;> omega

/-! ### The cells of a segment in counts (R47, R101) -/

/-- The end of the last cell, in counts of full cells, is not before the segment's end. -/
theorem inCounts_le_full_cells (cfg : Configuration) (L : Nat) :
    inCounts cfg L ≤ cellCount L * (5 * cfg.countsPerMetre) := by
  have hcells : L ≤ cellCount L * 50 := by unfold cellCount; omega
  calc inCounts cfg L = L * cfg.countsPerMetre / 10 := rfl
    _ ≤ cellCount L * 50 * cfg.countsPerMetre / 10 := Nat.div_le_div_right (Nat.mul_le_mul_right _ hcells)
    _ = cellCount L * (5 * cfg.countsPerMetre) := Nat.div_eq_of_eq_mul_left (by decide) (by ring)

/-- The last cell starts before the segment's end: even a last cell of 1 dm has a count, since a metre has 10. -/
theorem full_cells_before_last_lt (cfg : Configuration) (L : Nat) (hL : 0 < L) (hcal : 10 ≤ cfg.countsPerMetre) :
    (cellCount L - 1) * (5 * cfg.countsPerMetre) < inCounts cfg L := by
  have hcells : (cellCount L - 1) * 50 + 1 ≤ L := by unfold cellCount; omega
  have hcounts := Nat.mul_le_mul_right cfg.countsPerMetre hcells
  have hstart : ((cellCount L - 1) * 50 + 1) * cfg.countsPerMetre =
      10 * ((cellCount L - 1) * (5 * cfg.countsPerMetre)) + cfg.countsPerMetre := by ring
  unfold inCounts
  omega

/-- Every position within a segment lies in one of its cells (R101). -/
theorem cellIndex_lt_cellCount (cfg : Configuration) (L p : Nat) (hp : p < inCounts cfg L) :
    cellIndex cfg p < cellCount L :=
  Nat.div_lt_of_lt_mul ((hp.trans_le (inCounts_le_full_cells cfg L)).trans_eq (Nat.mul_comm _ _))

/-- The largest position of a segment lies in its last cell (R101). -/
theorem cellIndex_largest (cfg : Configuration) (L : Nat) (hL : 0 < L) (hcal : 10 ≤ cfg.countsPerMetre) :
    cellIndex cfg (inCounts cfg L - 1) = cellCount L - 1 := by
  have hstarts := full_cells_before_last_lt cfg L hL hcal
  have hbelow : cellIndex cfg (inCounts cfg L - 1) < cellCount L := cellIndex_lt_cellCount cfg L _ (by omega)
  have hreached : cellCount L - 1 ≤ cellIndex cfg (inCounts cfg L - 1) :=
    (Nat.le_div_iff_mul_le (by omega)).2 (by omega)
  omega

/-! ### The position in mm (R102) -/

/-- The whole metres and the rest, converted apart, are the exact quotient rounded down. -/
theorem positionMm_eq_quotient (cfg : Configuration) (p : Nat) (hcal : 0 < cfg.countsPerMetre) :
    positionMm cfg p = p * 1000 / cfg.countsPerMetre := by
  have hsplit : p * 1000 = p % cfg.countsPerMetre * 1000 + p / cfg.countsPerMetre * 1000 * cfg.countsPerMetre := by
    calc p * 1000 = (p % cfg.countsPerMetre + cfg.countsPerMetre * (p / cfg.countsPerMetre)) * 1000 := by
          rw [Nat.mod_add_div]
      _ = _ := by ring
  rw [hsplit, Nat.add_mul_div_right _ _ hcal, Nat.add_comm, positionMm]

/-- The cell index is the position in mm over the 5000 mm of a full cell (R101). -/
theorem cellIndex_eq_positionMm_div (cfg : Configuration) (p : Nat) (hcal : 0 < cfg.countsPerMetre) :
    cellIndex cfg p = positionMm cfg p / 5000 :=
  calc cellIndex cfg p = p * 1000 / (5 * cfg.countsPerMetre * 1000) := (Nat.mul_div_mul_right _ _ (by decide)).symm
    _ = p * 1000 / (cfg.countsPerMetre * 5000) := by rw [Nat.mul_right_comm, Nat.mul_comm (5 * 1000)]
    _ = p * 1000 / cfg.countsPerMetre / 5000 := (Nat.div_div_eq_div_mul _ _ _).symm
    _ = positionMm cfg p / 5000 := by rw [positionMm_eq_quotient cfg p hcal]

/-- A position within a segment of `L` dm is less than `100 * L` mm (R102). -/
theorem positionMm_lt (cfg : Configuration) (L p : Nat) (hcal : 0 < cfg.countsPerMetre) (hp : p < inCounts cfg L) :
    positionMm cfg p < 100 * L := by
  have hdm : inCounts cfg L * 10 ≤ L * cfg.countsPerMetre := Nat.div_mul_le_self _ _
  rw [positionMm_eq_quotient cfg p hcal]
  apply Nat.div_lt_of_lt_mul
  have hmm : cfg.countsPerMetre * (100 * L) = 100 * (L * cfg.countsPerMetre) := by ring
  omega

/-- Settles O48: the counter is held within the segment (the `accounting` lemmas), the bounds of the last cell in counts
give the cell index, and the exact quotient gives the position in mm. -/
theorem positionsWithinASegment : Obligations.PositionsWithinASegment := by
  rintro cfg L counter p hshortest hlongest hfewest - rfl
  have hL : 0 < L := by omega
  have hcal : 0 < cfg.countsPerMetre := by omega
  have hcounts : 0 < inCounts cfg L :=
    Nat.zero_lt_of_lt (full_cells_before_last_lt cfg L hL (by omega))
  have hwithin := accounting_lt _ counter hcounts
  have hmm := positionMm_lt cfg L _ hcal hwithin
  refine ⟨accounting_before _ counter, accounting_within _ counter, fun hpast => ?beyond, rfl,
    cellIndex_lt_cellCount cfg L _ hwithin, cellIndex_eq_positionMm_div cfg _ hcal, rfl,
    positionMm_eq_quotient cfg _ hcal, by omega⟩
  case beyond =>
    have hlargest := accounting_beyond (inCounts cfg L) counter hpast
    exact ⟨hlargest, hlargest ▸ cellIndex_largest cfg L hL (by omega)⟩

end Sys2Proof.Machine

/-! ## Answers of commands -/

namespace Sys2Proof.Machine

/-- The answer is a next state, and that state satisfies `P`. -/
def Answers (r : Result) (P : State → Prop) : Prop := ∃ t, r = .next t ∧ P t

theorem answers_next {P : State → Prop} {t : State} (h : P t) : Answers (.next t) P := ⟨t, rfl, h⟩

theorem answers_finish {P : State → Prop} {t : State} (h : P (endOfStep t)) : Answers (finish t) P := ⟨_, rfl, h⟩

theorem answers_refuse {P : State → Prop} {b : Byte} {s : State} (h : P (reply [b] s)) : Answers (refuse b s) P :=
  ⟨_, rfl, h⟩

/-- A request is lost where the port waits for SEL, and answers what its meaning answers else (R185, R195). -/
theorem answers_whenTaken {P : State → Prop} {s : State} {r : Result} (lost : P (nothingTaken s)) (taken : Answers r P) :
    Answers (whenTaken s r) P := by
  unfold whenTaken
  split
  · exact answers_next lost
  · exact taken

theorem Answers.mono {P Q : State → Prop} {r : Result} (h : Answers r P) (hpq : ∀ t, P t → Q t) : Answers r Q := by
  obtain ⟨t, hr, ht⟩ := h
  exact ⟨t, hr, hpq t ht⟩

/-- An answer that is known to be `t` gives what it says of `t`. -/
theorem Answers.of_eq {P : State → Prop} {r : Result} {t : State} (h : Answers r P) (ht : r = .next t) : P t := by
  obtain ⟨u, hu, hP⟩ := h
  rw [ht] at hu
  cases hu
  exact hP

end Sys2Proof.Machine

/-! ## The machine and its resets (tier 1) -/

namespace Sys2Proof.Machine

/-- Settles O1: with a command waiting, `step` is by definition `exec` on the rest of the queue. -/
theorem stepTakesFrontCommand : Obligations.StepTakesFrontCommand := by
  intro c rest s hpending
  rw [step, hpending]

/-- An idle step is the 500 µs up to a second FEED pulse exactly where one is due (R158). -/
theorem idle_of_secondPulse (s : State) (hdue : s.secondPulseDue = true) : idle s = s.setPending [.feedPulse] := by
  simp [idle, hdue]

/-- Without a second FEED pulse due an idle step is a millisecond. -/
theorem idle_of_noSecondPulse (s : State) (hnot : s.secondPulseDue = false) :
    idle s = (tickMs s).setPending (dueCommands s (tickMs s)) := by
  simp [idle, hnot]

/-- A millisecond makes every queued frame a millisecond older and changes no other part of the queue (R22). -/
theorem tickChannel_queue (on : Bool) (c : Channel) :
    (tickChannel on c).queue = c.queue.map fun q => { q with age := q.age + 1 } := rfl

/-- Settles O2: the tick is one command, and an idle step splits on whether a second FEED pulse is due. -/
theorem timePasses : Obligations.TimePasses := by
  intro s
  have hidle (hempty : s.pending = []) : step s = .next (idle s) := by rw [step, hempty]
  refine ⟨⟨_, rfl, rfl, fun hlt => ?_, fun htop => ?_⟩, fun hempty hactive hstock hrate hpulse hacc => ?_,
    fun hempty hnone => ?_⟩
  · simp only [State.onStation, Config.maxWord32]; omega
  · simp [State.onStation, Config.maxWord32, htop]
  · have hdue : s.secondPulseDue = true :=
      (secondPulseDue_iff s).2 ⟨(emitsPulse_iff s).2 ⟨hactive, hstock, hrate⟩, hpulse, hacc⟩
    rw [hidle hempty, idle_of_secondPulse s hdue]
  · have hnot : s.secondPulseDue = false := by
      rw [← Bool.not_eq_true, secondPulseDue_iff, emitsPulse_iff]
      rintro ⟨⟨hactive, hstock, hrate⟩, hpulse, hacc⟩
      have hcfg : s.cfg = s.station.config := rfl
      rw [hcfg] at hstock
      rcases hnone with h | h | h | h | h
      · simp [hactive] at h
      all_goals omega
    rw [hidle hempty, idle_of_noSecondPulse s hnot]
    exact ⟨_, rfl, rfl, rfl, rfl, rfl, rfl, rfl, rfl, rfl⟩

/-- Settles O11: every table of the reset state is empty and every flag it speaks of clear. -/
theorem resetSatisfiesTheLaws : Obligations.ResetSatisfiesTheLaws := by
  refine ⟨?_, ?_, ?_, ?_, ?_, ?_⟩
  · simp [State.Bounded, State.reset, Channel.reset, Station.reset, Segments.reset, Claims.reset, Group.reset,
      Callouts.reset, HostPort.reset]
  · simp [State.Keyed, State.reset, Station.reset, Claims.reset, Group.reset, Callouts.reset]
  · simp [State.QueueInOrder, State.reset, Channel.reset]
  · simp [State.MotionLaw, State.reset, Motion.reset, Group.reset, State.currentRecord, State.currentSegment, Odo.reset]
  · simp [State.OffTheAir, State.reset, Channel.reset, Station.reset, Claims.reset]
  · refine ⟨by decide, by decide, by decide, by decide⟩

/-- A block whose blocks of the route stand at their reset values, but for stock and low flag, is at the values that
every reset gives (section 5.6, R136, R149, R166). -/
theorem routeReset_of_blocks (t : State) (a b k w p : Bool) (stock : Nat) (low : Bool)
    (hodo : t.odo = { Odo.reset with lineA := a, lineB := b, blade := k })
    (hmotion : t.motion = { Motion.reset with warnLine := w, protLine := p }) (hgroup : t.group = Group.reset)
    (hdosing : t.dosing = { Dosing.reset with stock := stock, low := low }) : t.RouteReset := by
  simp [State.RouteReset, hodo, hmotion, hgroup, hdosing, Odo.reset, Motion.reset, Group.reset, Dosing.reset,
    State.target, State.permit, State.zone, State.beacon]

/-- A channel controller with no frame in flight, no response and no seize keys nothing (R1). -/
theorem txkey_off (t : State) (sensed : List Bool) (hflight : t.channel.flight = none)
    (hresponse : t.channel.response = none) (hseize : t.channel.seizeLeft = 0) : t.txkey sensed = false := by
  simp [State.txkey, State.keyedSymbols, keyNext, hflight, hresponse, hseize]

/-- FEED is low in a millisecond without a pulse (R159). -/
theorem feedLine_low (t : State) (us : Nat) (hnone : t.dosing.pulsesNow = 0) : t.feedLine us = false := by
  simp [State.feedLine, hnone]

/-- Settles O12: both resets give the same state but for the reset cause, and its fields are those of the reset blocks. -/
theorem powerOnAndResetLine : Obligations.PowerOnAndResetLine := by
  intro s
  refine ⟨s.afterReset, _, rfl, rfl, rfl, rfl, rfl, rfl, rfl, rfl, rfl, rfl, rfl, rfl, rfl, rfl, rfl, rfl, rfl, rfl, rfl,
    rfl, rfl, rfl, ?_, rfl, rfl, rfl, rfl, rfl, rfl, fun sensed => txkey_off _ sensed rfl rfl rfl,
    fun us => feedLine_low _ us rfl, rfl, rfl⟩
  exact routeReset_of_blocks _ false false false false false 0 false rfl rfl rfl rfl

/-- RESTART that the port takes: every block at its Restart values, the one record, and OK (R33, R194). -/
theorem execRestart_taken (s : State) (hsel : s.host.heldSel = false) :
    execRestart s = .next { s.restarted with
      host := { s.restarted.host with
        events := [⟨.stationState .restart s.station.state .offline, 0, false⟩], reply := some [0x00] } } := by
  rw [execRestart, whenTaken_taken _ _ hsel, ok_eq_answered, post_eq]
  rfl

/-- Settles O13: the state after RESTART is `State.restarted` with its one record and the reply. -/
theorem restartValues : Obligations.RestartValues := by
  intro s hsel
  refine ⟨_, execRestart_taken s hsel, rfl, rfl, rfl, rfl, rfl, rfl, rfl, rfl, rfl, rfl, rfl, rfl, fun hvalid hdepot => ?_,
    fun hrobot => ?_, rfl, rfl, rfl, rfl, rfl, ?_, rfl, rfl, rfl, rfl, rfl, fun sensed => txkey_off _ sensed rfl rfl rfl,
    fun us => feedLine_low _ us rfl, rfl, rfl⟩
  · simp [State.restarted, Station.restarted, restartDistance, hvalid, hdepot]
  · simp [State.restarted, Station.restarted, restartDistance, hrobot]
  · exact routeReset_of_blocks _ s.odo.lineA s.odo.lineB s.odo.blade s.motion.warnLine s.motion.protLine s.dosing.stock
      s.dosing.low rfl rfl rfl rfl

end Sys2Proof.Machine

/-! ## What shared operations keep

`Keeps s t` says once what a step may do to `s` where it owns none of the values of R27, R35, R37, R162 and R184, none
of the samples of Chapters 5 and 6 and no key of a table: the three laws about tables, queue and channel then follow for
every command from one lemma per operation. -/

namespace Sys2Proof.Machine

/-! ### The laws block by block -/

/-- The transmit queue is in order, its entry numbers given out, the frame in flight among them (R13, R22). -/
def Channel.InOrder (c : Channel) : Prop :=
  c.queue.Pairwise (fun a b => a.priority < b.priority ∨ (a.priority = b.priority ∧ a.entry < b.entry))
    ∧ (c.queue.map (·.entry)).Nodup
    ∧ (∀ q ∈ c.queue, q.entry < c.nextEntry)
    ∧ ∀ f, c.flight = some f → ∃ q ∈ c.queue, q.entry = f.entry

theorem queueInOrder_iff (s : State) : s.QueueInOrder ↔ s.channel.InOrder := Iff.rfl

/-- The channel's share of `State.OffTheAir` in a station state. -/
def Channel.Quiet (st : StationState) (c : Channel) : Prop :=
  (st ≠ .active → c.flight = none ∧ c.response = none ∧ c.seizeLeft = 0)
    ∧ (st = .offline →
      c.queue = [] ∧ c.condition = .busy ∧ c.idleCount = 0 ∧ c.assembler = .off ∧ c.echo = false)

theorem offTheAir_iff (s : State) : s.OffTheAir ↔ s.channel.Quiet s.station.state ∧
    (s.station.state = .offline → s.station.neighbours = [] ∧ s.claims.own = [] ∧ s.claims.view = []) := by
  simp only [State.OffTheAir, Channel.Quiet]
  tauto

/-- The neighbour table's share of the table laws (R40). -/
def NeighboursSound (l : List Neighbour) : Prop := l.length ≤ 24 ∧ (l.map (·.station)).Nodup

/-- The segment table's share (R44). -/
def RecordsSound (l : List Segment) : Prop := l.length ≤ 96 ∧ l.Pairwise (fun a b => a.number < b.number)

/-- The claim controller's share (R71, R89). -/
def Claims.Sound (c : Claims) : Prop :=
  c.own.length ≤ 4 ∧ c.view.length ≤ 32 ∧ (c.own.map (·.segment)).Nodup
    ∧ (c.view.map fun v => (v.segment, v.holder)).Nodup

/-- Group control's share (R140). -/
def Group.Sound (g : Group) : Prop := g.holds.length ≤ 8 ∧ (g.holds.map (·.originator)).Nodup

/-- The callout unit's share (R168, R171, R178, R181). -/
def Callouts.Sound (u : Callouts) : Prop :=
  u.own.length ≤ 4 ∧ u.relay.length ≤ 8 ∧ u.recent.length ≤ 16
    ∧ (u.relay.map fun e => (e.origin, e.seq)).Nodup ∧ (u.own.map (·.seq)).Nodup
    ∧ (u.recent.map fun p => (p.origin, p.seq)).Nodup
    ∧ ∀ e ∈ u.relay, ∀ p ∈ u.recent, ¬ (e.origin = p.origin ∧ e.seq = p.seq)

/-- The table laws of O6, block by block. -/
structure State.Tables (s : State) : Prop where
  queue : s.channel.queue.length ≤ 8
  neighbours : NeighboursSound s.station.neighbours
  records : RecordsSound s.segs.records
  claims : s.claims.Sound
  group : s.group.Sound
  callout : s.callout.Sound
  events : s.host.events.length ≤ 32
  noRelay : (s.isDepot = true ∨ s.station.state = .offline) → s.callout.relay = []

theorem tables_iff (s : State) : s.Tables ↔ s.Bounded ∧ s.Keyed := by
  constructor
  · rintro ⟨hqueue, ⟨hn, hnk⟩, ⟨hr, hrk⟩, ⟨ho, hv, hok, hvk⟩, ⟨hh, hhk⟩, ⟨hco, hcr, hcp, hrk', hsk, hpk, hdis⟩, he, hno⟩
    exact ⟨⟨hqueue, hn, hr, hrk, ho, hv, hh, hco, hcr, hcp, he⟩, ⟨hnk, hok, hvk, hhk, hrk', hsk, hpk, hdis, hno⟩⟩
  · rintro ⟨⟨hqueue, hn, hr, hrk, ho, hv, hh, hco, hcr, hcp, he⟩, ⟨hnk, hok, hvk, hhk, hrk', hsk, hpk, hdis, hno⟩⟩
    exact ⟨hqueue, ⟨hn, hnk⟩, ⟨hr, hrk⟩, ⟨ho, hv, hok, hvk⟩, ⟨hh, hhk⟩, ⟨hco, hcr, hcp, hrk', hsk, hpk, hdis⟩, he, hno⟩

/-! ### The relation -/

/-- The values that have owners are as they were (R27, R35, R37, R162, R184). -/
structure Owned (s t : State) : Prop where
  pending : t.pending = s.pending
  clock : t.station.clock = s.station.clock
  resetCause : t.station.resetCause = s.station.resetCause
  configValid : t.station.configValid = s.station.configValid
  config : t.station.config = s.station.config
  stock : t.dosing.stock = s.dosing.stock
  transaction : t.host.transaction = s.host.transaction

/-- The loaded fields of a segment record (R44). -/
def Segment.loaded (r : Segment) : Nat × Nat × Nat × Surface × Bool × Int × List Nat :=
  (r.number, r.length, r.speedLimit, r.surface, r.saltPermitted, r.defaultTemp, r.adjacent)

/-- An own claim with the same segment, intent, urgency and rank (R71). -/
def SameClaim (x r : OwnClaim) : Prop :=
  x.segment = r.segment ∧ x.intent = r.intent ∧ x.urgency = r.urgency ∧ x.rank = r.rank

theorem SameClaim.refl (x : OwnClaim) : SameClaim x x := ⟨rfl, rfl, rfl, rfl⟩

theorem SameClaim.trans {x y z : OwnClaim} (h : SameClaim x y) (k : SameClaim y z) : SameClaim x z :=
  ⟨h.1.trans k.1, h.2.1.trans k.2.1, h.2.2.1.trans k.2.2.1, h.2.2.2.trans k.2.2.2⟩

/-- The scanner's latch and samples and the ceiling history are as they were (R121, R122, R130). -/
def SameScanner (m n : Motion) : Prop :=
  n.history = m.history ∧ n.warning = m.warning ∧ n.warnCounter = m.warnCounter ∧ n.lastProt = m.lastProt
    ∧ n.latch = m.latch

/-- No sample, latch or loaded record has changed, no own claim is new and no entry number is taken back. -/
structure Sampled (s t : State) : Prop where
  scanner : SameScanner s.motion t.motion
  loaded : t.segs.records.map Segment.loaded = s.segs.records.map Segment.loaded
  own : ∀ r ∈ t.claims.own, ∃ x ∈ s.claims.own, SameClaim x r
  nextEntry : s.channel.nextEntry ≤ t.channel.nextEntry

/-- The laws about tables, queue and channel go on holding. -/
structure Lawful (s t : State) : Prop where
  tables : s.Tables → t.Tables
  inOrder : s.QueueInOrder → t.QueueInOrder
  offTheAir : s.OffTheAir → t.OffTheAir

/-- What an operation without an owner's rights keeps. -/
structure Keeps (s t : State) : Prop where
  owned : Owned s t
  sampled : Sampled s t
  lawful : Lawful s t

theorem Owned.refl (s : State) : Owned s s := ⟨rfl, rfl, rfl, rfl, rfl, rfl, rfl⟩

theorem Owned.trans {s t u : State} (h : Owned s t) (k : Owned t u) : Owned s u :=
  ⟨k.pending.trans h.pending, k.clock.trans h.clock, k.resetCause.trans h.resetCause,
    k.configValid.trans h.configValid, k.config.trans h.config, k.stock.trans h.stock,
    k.transaction.trans h.transaction⟩

theorem SameScanner.trans {m n k : Motion} (h : SameScanner m n) (i : SameScanner n k) : SameScanner m k :=
  ⟨i.1.trans h.1, i.2.1.trans h.2.1, i.2.2.1.trans h.2.2.1, i.2.2.2.1.trans h.2.2.2.1, i.2.2.2.2.trans h.2.2.2.2⟩

theorem Sampled.refl (s : State) : Sampled s s :=
  ⟨⟨rfl, rfl, rfl, rfl, rfl⟩, rfl, fun r hr => ⟨r, hr, .refl r⟩, le_rfl⟩

theorem Sampled.trans {s t u : State} (h : Sampled s t) (k : Sampled t u) : Sampled s u :=
  ⟨h.scanner.trans k.scanner, k.loaded.trans h.loaded,
    fun r hr =>
      have ⟨y, hy, hyr⟩ := k.own r hr
      have ⟨x, hx, hxy⟩ := h.own y hy
      ⟨x, hx, hxy.trans hyr⟩,
    h.nextEntry.trans k.nextEntry⟩

theorem Lawful.refl (s : State) : Lawful s s := ⟨id, id, id⟩

theorem Lawful.trans {s t u : State} (h : Lawful s t) (k : Lawful t u) : Lawful s u :=
  ⟨k.tables ∘ h.tables, k.inOrder ∘ h.inOrder, k.offTheAir ∘ h.offTheAir⟩

theorem Keeps.refl (s : State) : Keeps s s := ⟨.refl s, .refl s, .refl s⟩

theorem Keeps.trans {s t u : State} (h : Keeps s t) (k : Keeps t u) : Keeps s u :=
  ⟨h.owned.trans k.owned, h.sampled.trans k.sampled, h.lawful.trans k.lawful⟩

/-- An update outside station, dosing unit and host port owns nothing. -/
theorem owned_of_blocks {s t : State} (hpending : t.pending = s.pending) (hstation : t.station = s.station)
    (hdosing : t.dosing = s.dosing) (hhost : t.host = s.host) : Owned s t := by
  refine ⟨hpending, ?_, ?_, ?_, ?_, ?_, ?_⟩ <;> simp only [hstation, hdosing, hhost]

/-- An update outside channel, segments, claims and motion changes no sample. -/
theorem sampled_of_blocks {s t : State} (hchannel : t.channel = s.channel) (hsegs : t.segs = s.segs)
    (hclaims : t.claims = s.claims) (hmotion : t.motion = s.motion) : Sampled s t := by
  refine ⟨?_, by rw [hsegs], ?_, by rw [hchannel]⟩
  · rw [hmotion]; exact (Sampled.refl s).scanner
  · rw [hclaims]; exact (Sampled.refl s).own

/-! ### One rule for the update of each block -/

theorem onHost_lawful (f : HostPort → HostPort) (s : State)
    (hevents : s.host.events.length ≤ 32 → (f s.host).events.length ≤ 32) : Lawful s (s.onHost f) :=
  ⟨fun h => { h with events := hevents h.events }, id, id⟩

theorem onHost_keeps (f : HostPort → HostPort) (s : State)
    (hevents : s.host.events.length ≤ 32 → (f s.host).events.length ≤ 32)
    (htransaction : (f s.host).transaction = s.host.transaction) : Keeps s (s.onHost f) :=
  ⟨⟨rfl, rfl, rfl, rfl, rfl, rfl, htransaction⟩, sampled_of_blocks rfl rfl rfl rfl, onHost_lawful f s hevents⟩

theorem onDosing_lawful (f : Dosing → Dosing) (s : State) : Lawful s (s.onDosing f) :=
  ⟨fun h => { h with }, id, id⟩

theorem onDosing_keeps (f : Dosing → Dosing) (s : State) (hstock : (f s.dosing).stock = s.dosing.stock) :
    Keeps s (s.onDosing f) :=
  ⟨⟨rfl, rfl, rfl, rfl, rfl, hstock, rfl⟩, sampled_of_blocks rfl rfl rfl rfl, onDosing_lawful f s⟩

theorem onOdo_keeps (f : Odo → Odo) (s : State) : Keeps s (s.onOdo f) :=
  ⟨owned_of_blocks rfl rfl rfl rfl, sampled_of_blocks rfl rfl rfl rfl, ⟨fun h => { h with }, id, id⟩⟩

theorem onMotion_lawful (f : Motion → Motion) (s : State) : Lawful s (s.onMotion f) :=
  ⟨fun h => { h with }, id, id⟩

theorem onMotion_keeps (f : Motion → Motion) (s : State) (hscanner : SameScanner s.motion (f s.motion)) :
    Keeps s (s.onMotion f) :=
  ⟨owned_of_blocks rfl rfl rfl rfl, ⟨hscanner, rfl, (Sampled.refl s).own, le_rfl⟩, onMotion_lawful f s⟩

theorem onGroup_keeps (f : Group → Group) (s : State) (hsound : s.group.Sound → (f s.group).Sound) :
    Keeps s (s.onGroup f) :=
  ⟨owned_of_blocks rfl rfl rfl rfl, sampled_of_blocks rfl rfl rfl rfl, ⟨fun h => { h with group := hsound h.group }, id, id⟩⟩

theorem onCallout_keeps (f : Callouts → Callouts) (s : State) (hsound : s.callout.Sound → (f s.callout).Sound)
    (hrelay : s.callout.relay = [] → (f s.callout).relay = []) : Keeps s (s.onCallout f) :=
  ⟨owned_of_blocks rfl rfl rfl rfl, sampled_of_blocks rfl rfl rfl rfl, ⟨fun h => { h with callout := hsound h.callout, noRelay := fun k => hrelay (h.noRelay k) }, id, id⟩⟩

theorem onClaims_lawful (f : Claims → Claims) (s : State) (hsound : s.claims.Sound → (f s.claims).Sound)
    (hown : s.station.state = .offline → s.claims.own = [] → (f s.claims).own = [])
    (hview : s.station.state = .offline → s.claims.view = [] → (f s.claims).view = []) : Lawful s (s.onClaims f) := by
  refine ⟨fun h => { h with claims := hsound h.claims }, id, fun h => ?_⟩
  rw [offTheAir_iff] at h ⊢
  obtain ⟨hchannel, hoff⟩ := h
  refine ⟨hchannel, fun hst => ?_⟩
  obtain ⟨hn, ho, hv⟩ := hoff hst
  exact ⟨hn, hown hst ho, hview hst hv⟩

theorem onClaims_keeps (f : Claims → Claims) (s : State) (hsound : s.claims.Sound → (f s.claims).Sound)
    (hown : ∀ r ∈ (f s.claims).own, ∃ x ∈ s.claims.own, SameClaim x r)
    (hview : s.station.state = .offline → s.claims.view = [] → (f s.claims).view = []) : Keeps s (s.onClaims f) := by
  refine ⟨owned_of_blocks rfl rfl rfl rfl, ⟨(Sampled.refl s).scanner, rfl, hown, le_rfl⟩, onClaims_lawful f s hsound (fun _ hnil => ?_) hview⟩
  rw [List.eq_nil_iff_forall_not_mem]
  intro r hr
  obtain ⟨x, hx, -⟩ := hown r hr
  simp [hnil] at hx

/-- The loaded fields give the number of records and their order. -/
theorem recordsSound_of_loaded {l m : List Segment} (h : m.map Segment.loaded = l.map Segment.loaded)
    (hl : RecordsSound l) : RecordsSound m := by
  have hnumbers (l : List Segment) : l.map (·.number) = (l.map Segment.loaded).map Prod.fst := by
    simp [Segment.loaded]
  obtain ⟨hlen, hsorted⟩ := hl
  refine ⟨?_, ?_⟩
  · have := congrArg List.length h
    simp only [List.length_map] at this
    omega
  · have hpair (l : List Segment) : l.Pairwise (fun a b => a.number < b.number) ↔ (l.map (·.number)).Pairwise (· < ·) :=
      List.pairwise_map.symm
    rw [hpair] at hsorted ⊢
    rwa [hnumbers, h, ← hnumbers]

theorem onSegs_keeps (f : Segments → Segments) (s : State)
    (hloaded : (f s.segs).records.map Segment.loaded = s.segs.records.map Segment.loaded) : Keeps s (s.onSegs f) :=
  ⟨owned_of_blocks rfl rfl rfl rfl, ⟨(Sampled.refl s).scanner, hloaded, (Sampled.refl s).own, le_rfl⟩,
    ⟨fun h => { h with records := recordsSound_of_loaded hloaded h.records }, id, id⟩⟩

/-- A change of the station controller that leaves state, table and the owned values alone. -/
theorem onStation_keeps (f : Station → Station) (s : State)
    (howned : Owned s (s.onStation f)) (hstate : (f s.station).state = s.station.state)
    (hneighbours : (f s.station).neighbours = s.station.neighbours) : Keeps s (s.onStation f) := by
  refine ⟨howned, sampled_of_blocks rfl rfl rfl rfl, fun h => { h with
    neighbours := hneighbours.symm ▸ h.neighbours, noRelay := fun k => ?_ }, id, fun h => ?_⟩
  · have hdepot : (s.onStation f).isDepot = s.isDepot := by
      simp only [State.isDepot, State.cfg, howned.configValid, howned.config]
    exact h.noRelay (by rwa [hdepot, onStation_station, hstate] at k)
  · rw [offTheAir_iff] at h ⊢
    simpa only [onStation_channel, onStation_station, hstate, hneighbours, onStation_claims] using h

/-- A change of the channel controller. -/
theorem onChannel_keeps (f : Channel → Channel) (s : State)
    (hlen : (f s.channel).queue.length ≤ s.channel.queue.length ∨ (f s.channel).queue.length ≤ 8)
    (horder : s.channel.InOrder → (f s.channel).InOrder) (hnext : s.channel.nextEntry ≤ (f s.channel).nextEntry)
    (hquiet : s.channel.Quiet s.station.state → (f s.channel).Quiet s.station.state) : Keeps s (s.onChannel f) := by
  refine ⟨owned_of_blocks rfl rfl rfl rfl, ⟨(Sampled.refl s).scanner, rfl, (Sampled.refl s).own, hnext⟩, fun h => ?_, horder, fun h => ?_⟩
  · have := h.queue
    exact { h with queue := by rw [onChannel_channel]; omega }
  · rw [offTheAir_iff] at h ⊢
    exact ⟨hquiet h.1, h.2⟩

/-- What a receiver's operation keeps: as `Keeps`, but that it may not come in a station that is OFFLINE, whose receiver
is off (R10). -/
structure KeepsOn (s t : State) : Prop where
  owned : Owned s t
  sampled : Sampled s t
  tables : s.Tables → t.Tables
  inOrder : s.QueueInOrder → t.QueueInOrder
  offTheAir : s.station.state ≠ .offline → s.OffTheAir → t.OffTheAir

/-- A receiver's operation keeps the law of the air where the station cannot be OFFLINE. -/
theorem KeepsOn.keeps {s t : State} (h : KeepsOn s t) (hon : s.OffTheAir → s.station.state ≠ .offline) : Keeps s t :=
  ⟨h.owned, h.sampled, h.tables, h.inOrder, fun k => h.offTheAir (hon k) k⟩

/-- A receiver's operation at the end of one that keeps the station state. -/
theorem Keeps.trans_on {s t u : State} (h : Keeps s t) (k : KeepsOn t u) (hstate : t.station.state = s.station.state)
    (hon : s.OffTheAir → s.station.state ≠ .offline) : Keeps s u :=
  ⟨h.owned.trans k.owned, h.sampled.trans k.sampled, k.tables ∘ h.lawful.tables, k.inOrder ∘ h.lawful.inOrder,
    fun a => k.offTheAir (hstate ▸ hon a) (h.lawful.offTheAir a)⟩

/-- A receiver's change of the channel controller: queue, entry numbers and flight stay, and nothing new is keyed. -/
theorem onChannel_keepsOn (f : Channel → Channel) (s : State) (hqueue : (f s.channel).queue = s.channel.queue)
    (hnext : (f s.channel).nextEntry = s.channel.nextEntry)
    (hflight : (f s.channel).flightEntry = s.channel.flightEntry ∨ (f s.channel).flight = none)
    (hresponse : (f s.channel).response = s.channel.response ∨ (f s.channel).response = none)
    (hseize : (f s.channel).seizeLeft = s.channel.seizeLeft ∨ (f s.channel).seizeLeft = 0) :
    KeepsOn s (s.onChannel f) := by
  refine ⟨owned_of_blocks rfl rfl rfl rfl, ⟨(Sampled.refl s).scanner, rfl, (Sampled.refl s).own, hnext.ge⟩,
    fun h => { h with queue := hqueue.symm ▸ h.queue }, fun h => ?_, fun hon h => ?_⟩
  · obtain ⟨hsorted, hnodup, hlt, hin⟩ := h
    rw [queueInOrder_iff, onChannel_channel]
    refine ⟨hqueue.symm ▸ hsorted, hqueue.symm ▸ hnodup, by rwa [hqueue, hnext], fun g hg => ?_⟩
    rw [hqueue]
    rcases hflight with hf | hf
    · simp only [Channel.flightEntry, hg, Option.map_some] at hf
      obtain ⟨g', hg', hentry⟩ := Option.map_eq_some_iff.1 hf.symm
      rw [← hentry]
      exact hin g' hg'
    · rw [hf] at hg; cases hg
  · rw [offTheAir_iff] at h ⊢
    obtain ⟨⟨hkeyed, -⟩, htables⟩ := h
    refine ⟨⟨fun hst => ?_, fun hoff => absurd hoff hon⟩, htables⟩
    obtain ⟨hf, hr, hs⟩ := hkeyed hst
    refine ⟨hflight.elim (fun he => ?_) id, hresponse.elim (·.trans hr) id, hseize.elim (·.trans hs) id⟩
    simpa [Channel.flightEntry, hf] using he

end Sys2Proof.Machine

/-! ## What the shared operations keep: host port, queue, claims, callouts, neighbours -/

namespace Sys2Proof.Machine

/-! ### Host port -/

/-- A record that joins a queue within its capacity leaves it within it (R190). -/
theorem joinRecords_length (now : Nat) (l : List EventRecord) (e : Event) (h : l.length ≤ 32) :
    (joinRecords now l e).length ≤ 32 := by
  unfold joinRecords
  split <;> simp <;> omega

theorem withEvents_length (s : State) (es : List Event) (h : s.host.events.length ≤ 32) :
    (s.withEvents es).length ≤ 32 := by
  unfold State.withEvents
  induction es generalizing s with
  | nil => exact h
  | cons e es ih =>
    exact ih { s with host := { s.host with events := joinRecords s.station.clock s.host.events e } }
      (joinRecords_length _ _ _ h)

theorem post_keeps (e : Event) (s : State) : Keeps s (post e s) := by
  have h : post e s = s.onHost fun p => { p with events := joinRecords s.station.clock s.host.events e } := post_eq e s
  rw [h]
  exact onHost_keeps _ s (joinRecords_length _ _ _) rfl

theorem reply_keeps (bs : List Byte) (s : State) : Keeps s (reply bs s) := onHost_keeps _ s id rfl

theorem ok_keeps (bs : List Byte) (s : State) : Keeps s (ok bs s) := reply_keeps _ s

theorem nothingTaken_keeps (s : State) : Keeps s (nothingTaken s) := onHost_keeps _ s id rfl

/-! ### Service distance -/

theorem recomputeDistance_keeps (s : State) : Keeps s (recomputeDistance s) := by
  unfold recomputeDistance
  dsimp only
  split
  · exact .refl s
  · exact (onStation_keeps _ s ⟨rfl, rfl, rfl, rfl, rfl, rfl, rfl⟩ rfl rfl).trans (post_keeps _ _)

/-! ### The transmit queue -/

/-- A queue from which frames are filtered stays in order; the frame in flight leaves the flight with its entry (R25). -/
theorem Channel.InOrder.filter {c d : Channel} (p : Queued → Bool) (h : c.InOrder)
    (hqueue : d.queue = c.queue.filter p) (hnext : d.nextEntry = c.nextEntry)
    (hflight : ∀ f, d.flight = some f → d.queue.any (·.entry == f.entry) = true) : d.InOrder := by
  obtain ⟨hsorted, hnodup, hlt, -⟩ := h
  refine ⟨hqueue ▸ hsorted.sublist List.filter_sublist, hqueue ▸ hnodup.sublist (List.filter_sublist.map _),
    fun q hq => ?_, fun f hf => ?_⟩
  · rw [hqueue] at hq
    rw [hnext]
    exact hlt q (List.mem_of_mem_filter hq)
  · simpa using hflight f hf

/-- A frame that is still in flight after a withdrawal is still queued (R13, R25). -/
theorem flightIn_queued (q : List Queued) (c : Channel) (f : Flight) (h : c.flightIn q = some f) :
    c.flight = some f ∧ q.any (·.entry == f.entry) = true := by
  simpa [Channel.flightIn, Option.filter_eq_some_iff] using h

theorem withdraw_inOrder (p : Queued → Bool) (s : State) (h : s.channel.InOrder) : (withdraw p s).channel.InOrder :=
  h.filter (fun q => !p q) rfl rfl fun f hf => (flightIn_queued _ _ f hf).2

/-- A withdrawal takes nothing onto the air (R25). -/
theorem withdraw_quiet (p : Queued → Bool) (s : State) (st : StationState) (h : s.channel.Quiet st) :
    (withdraw p s).channel.Quiet st := by
  obtain ⟨hkeyed, hoff⟩ := h
  refine ⟨fun hst => ?_, fun hst => ?_⟩
  · obtain ⟨hf, hr, hs⟩ := hkeyed hst
    exact ⟨by simp [withdraw, Channel.flightIn, hf], hr, hs⟩
  · obtain ⟨hq, hc, hi, ha, he⟩ := hoff hst
    exact ⟨by simp [withdraw, hq], hc, hi, ha, by simp [withdraw, he, ha, Assembler.inField]⟩

theorem withdraw_keeps (p : Queued → Bool) (s : State) : Keeps s (withdraw p s) :=
  onChannel_keeps _ s (.inl (List.length_filter_le _ _)) (withdraw_inOrder p s) le_rfl (withdraw_quiet p s _)

theorem noteOutcome_keeps (s : State) : Keeps s (noteOutcome s) :=
  onChannel_keeps _ s (.inl le_rfl) id le_rfl id

/-- A frame put in its place joins the members of the queue (R22). -/
theorem insertFrame_perm (f : Queued) (l : List Queued) : (insertFrame f l).Perm (f :: l) := by
  induction l with
  | nil => exact .refl _
  | cons q r ih =>
    unfold insertFrame
    split
    · exact (ih.cons q).trans (.swap f q r)
    · exact .refl _

theorem insertFrame_length (f : Queued) (l : List Queued) : (insertFrame f l).length = l.length + 1 :=
  (insertFrame_perm f l).length_eq

/-- The order of the transmit queue: by priority value, then entry number (R22). -/
def Queued.before (a b : Queued) : Prop := a.priority < b.priority ∨ (a.priority = b.priority ∧ a.entry < b.entry)

/-- A frame with a greater entry number than all others, put in its place, leaves the queue in order (R22). -/
theorem insertFrame_sorted (f : Queued) (l : List Queued) (hsorted : l.Pairwise Queued.before)
    (hlt : ∀ q ∈ l, q.entry < f.entry) : (insertFrame f l).Pairwise Queued.before := by
  induction l with
  | nil => simp [insertFrame]
  | cons q r ih =>
    obtain ⟨hq, hr⟩ := List.pairwise_cons.1 hsorted
    unfold insertFrame
    split
    · next hle =>
      refine List.pairwise_cons.2 ⟨fun x hx => ?_, ih hr fun x hx => hlt x (by simp [hx])⟩
      rcases List.mem_cons.1 ((insertFrame_perm f r).mem_iff.1 hx) with rfl | hx
      · rcases Nat.lt_or_eq_of_le hle with h | h
        · exact .inl h
        · exact .inr ⟨h, hlt q (by simp)⟩
      · exact hq x hx
    · next hgt =>
      refine List.pairwise_cons.2 ⟨fun x hx => ?_, hsorted⟩
      rcases List.mem_cons.1 hx with rfl | hx
      · exact .inl (by omega)
      · rcases hq x hx with h | h
        · exact .inl (by omega)
        · exact .inl (by omega)

theorem enterQueue_inOrder (b : Block) (p : Payload) (s : State) (h : s.channel.InOrder) :
    (enterQueue b p s).channel.InOrder := by
  obtain ⟨hsorted, hnodup, hlt, hin⟩ := h
  let f : Queued := ⟨p, p.priority, b, 0, s.channel.nextEntry⟩
  have hperm : (enterQueue b p s).channel.queue.Perm (f :: s.channel.queue) := insertFrame_perm f _
  refine ⟨insertFrame_sorted f _ hsorted hlt, ?_, fun q hq => ?_, fun g hg => ?_⟩
  · rw [(hperm.map _).nodup_iff, List.map_cons, List.nodup_cons]
    refine ⟨fun hmem => ?_, hnodup⟩
    obtain ⟨q, hq, he⟩ := List.mem_map.1 hmem
    have hold : q.entry < s.channel.nextEntry := hlt q hq
    have hnew : q.entry = s.channel.nextEntry := he
    omega
  · have hnext : (enterQueue b p s).channel.nextEntry = s.channel.nextEntry + 1 := rfl
    rw [hnext]
    rcases List.mem_cons.1 (hperm.mem_iff.1 hq) with rfl | hq
    · exact Nat.lt_succ_self _
    · exact (hlt q hq).trans (Nat.lt_succ_self _)
  · obtain ⟨q, hq, he⟩ := hin g hg
    exact ⟨q, hperm.mem_iff.2 (by simp [hq]), he⟩

/-- A station that is not OFFLINE may queue a frame without keying it. -/
theorem enterQueue_quiet (b : Block) (p : Payload) (s : State) (hon : s.station.state ≠ .offline)
    (h : s.channel.Quiet s.station.state) : (enterQueue b p s).channel.Quiet s.station.state :=
  ⟨h.1, fun hoff => absurd hoff hon⟩

theorem enterQueue_keeps (b : Block) (p : Payload) (s : State) (hon : s.station.state ≠ .offline)
    (hroom : s.channel.queue.length < 8) : Keeps s (enterQueue b p s) := by
  refine onChannel_keeps _ s (.inr ?_) (enterQueue_inOrder b p s) (Nat.le_succ _) (enterQueue_quiet b p s hon)
  rw [insertFrame_length]
  omega

/-- A frame takes the place that another of the queue has given up (R23). -/
theorem displace_keeps (b : Block) (p : Payload) (v : Queued) (s : State) (hon : s.station.state ≠ .offline)
    (hv : v ∈ s.channel.queue) : Keeps s (enterQueue b p (withdraw (·.entry == v.entry) s)) := by
  refine onChannel_keeps (fun c => (enterQueue b p (withdraw (·.entry == v.entry) { s with channel := c })).channel) s
    (.inl ?_) (fun h => enterQueue_inOrder b p _ (withdraw_inOrder _ s h)) (Nat.le_succ _)
    (fun h => enterQueue_quiet b p (withdraw (·.entry == v.entry) s) hon (withdraw_quiet _ s _ h))
  have hless : (s.channel.queue.filter fun q => !(q.entry == v.entry)).length < s.channel.queue.length :=
    List.length_filter_lt_length_iff_exists.2 ⟨v, hv, by simp⟩
  have hnew : (enterQueue b p (withdraw (·.entry == v.entry) s)).channel.queue.length =
      (s.channel.queue.filter fun q => !(q.entry == v.entry)).length + 1 := insertFrame_length _ _
  exact hnew.trans_le hless

/-- A queue whose frames change nothing but payload and age stays in order. -/
theorem Channel.InOrder.map {c d : Channel} (f : Queued → Queued) (h : c.InOrder) (hqueue : d.queue = c.queue.map f)
    (hnext : d.nextEntry = c.nextEntry) (hflight : d.flightEntry = c.flightEntry)
    (hpriority : ∀ q, (f q).priority = q.priority) (hentry : ∀ q, (f q).entry = q.entry) : d.InOrder := by
  obtain ⟨hsorted, hnodup, hlt, hin⟩ := h
  refine ⟨?_, ?_, ?_, fun g hg => ?_⟩
  · rw [hqueue, List.pairwise_map]
    simpa only [hpriority, hentry] using hsorted
  · rw [hqueue, List.map_map]
    simpa only [Function.comp_def, hentry] using hnodup
  · rw [hqueue, hnext]
    simpa [hentry] using hlt
  · obtain ⟨g', hg', he⟩ : ∃ g', c.flight = some g' ∧ g'.entry = g.entry := by
      simpa [Channel.flightEntry, hg, eq_comm] using hflight
    obtain ⟨q, hq, hqe⟩ := hin g' hg'
    exact ⟨f q, hqueue ▸ List.mem_map_of_mem hq, by rw [hentry, hqe, he]⟩

theorem updateIf_length {α : Type} (p : α → Bool) (f : α → α) (l : List α) : (updateIf p f l).length = l.length := by
  simp [updateIf]

/-- A change of some entries that leaves a key leaves the list of the keys. -/
theorem updateIf_map {α β : Type} (p : α → Bool) (f : α → α) (key : α → β) (l : List α) (h : ∀ x, key (f x) = key x) :
    (updateIf p f l).map key = l.map key := by
  simp only [updateIf, List.map_map]
  refine List.map_congr_left fun x _ => ?_
  simp only [Function.comp_apply]
  split
  · exact h x
  · rfl

/-- A change of queued frames that leaves priority value and entry number (R25). -/
theorem updateQueue_keeps (p : Queued → Bool) (f : Queued → Queued) (s : State)
    (hpriority : ∀ q, (f q).priority = q.priority) (hentry : ∀ q, (f q).entry = q.entry) :
    Keeps s (s.onChannel fun c => { c with queue := updateIf p f c.queue }) := by
  refine onChannel_keeps _ s (.inl (updateIf_length ..).le) (fun h => ?_) le_rfl (fun h => ⟨h.1, fun hoff => ?_⟩)
  · refine h.map (fun x => if p x then f x else x) rfl rfl rfl (fun q => ?_) (fun q => ?_)
    · split
      · exact hpriority q
      · rfl
    · split
      · exact hentry q
      · rfl
  · obtain ⟨hq, hrest⟩ := h.2 hoff
    exact ⟨by simp [hq, updateIf], hrest⟩

theorem changePayload_keeps (n : Nat) (p : Payload) (s : State) : Keeps s (changePayload n p s) :=
  updateQueue_keeps _ _ s (fun _ => rfl) (fun _ => rfl)

/-! ### Own claims -/

/-- Own claims of a list that is part of the old, up to changes of state, frame and times. -/
theorem onOwn_keeps (s : State) (own : List OwnClaim) (deferrals : Nat)
    (hsub : (own.map (·.segment)).Sublist (s.claims.own.map (·.segment)))
    (hsame : ∀ r ∈ own, ∃ x ∈ s.claims.own, SameClaim x r) :
    Keeps s (s.onClaims fun c => { c with own := own, deferrals := deferrals }) := by
  refine onClaims_keeps _ s (fun h => ?_) hsame (fun _ hv => hv)
  obtain ⟨hlen, hview, hnodup, hviewNodup⟩ := h
  refine ⟨?_, hview, hnodup.sublist hsub, hviewNodup⟩
  have := hsub.length_le
  simp only [List.length_map] at this
  dsimp only
  omega

theorem endOwn_keeps (n : Nat) (k : ClaimChange) (w : Option (Nat × Nat)) (s : State) : Keeps s (endOwn n k w s) := by
  unfold endOwn
  split
  · exact .refl s
  · refine .trans (.trans ?_ (withdraw_keeps _ _)) (post_keeps _ _)
    exact onOwn_keeps s _ _ (List.filter_sublist.map _) fun r hr => ⟨r, List.mem_of_mem_filter hr, .refl r⟩

theorem updateOwn_keeps (n : Nat) (f : OwnClaim → OwnClaim) (s : State) (h : ∀ x, SameClaim x (f x)) :
    Keeps s (updateOwn n f s) := by
  refine onOwn_keeps s _ _ ?_ fun r hr => ?_
  · rw [updateIf_map _ _ _ _ fun x => (h x).1.symm]
  · obtain ⟨x, hx, rfl⟩ := List.mem_map.1 hr
    refine ⟨x, hx, ?_⟩
    split
    · exact h x
    · exact .refl x

/-! ### Callouts -/

/-- Own callouts of a list whose numbers are part of the old ones. -/
theorem onOwnCallouts_keeps (s : State) (f : List OwnCallout → List OwnCallout)
    (hsub : ((f s.callout.own).map (·.seq)).Sublist (s.callout.own.map (·.seq))) :
    Keeps s (s.onCallout fun u => { u with own := f u.own }) := by
  refine onCallout_keeps _ s (fun h => ?_) id
  obtain ⟨hown, hrelay, hrecent, hpairs, hseqs, hold, hdisjoint⟩ := h
  refine ⟨?_, hrelay, hrecent, hpairs, hseqs.sublist hsub, hold, hdisjoint⟩
  have := hsub.length_le
  simp only [List.length_map] at this
  dsimp only
  omega

theorem endCallout_keeps (c : OwnCallout) (o : CalloutOutcome) (w : Option (Nat × Nat)) (s : State) :
    Keeps s (endCallout c o w s) :=
  (onOwnCallouts_keeps s (fun l => l.filter fun x => !(x.seq == c.seq)) (List.filter_sublist.map _)).trans
    (post_keeps _ _)

/-- A change of own callouts that leaves their numbers. -/
theorem updateOwnCallouts_keeps (p : OwnCallout → Bool) (f : OwnCallout → OwnCallout) (s : State)
    (h : ∀ x, (f x).seq = x.seq) : Keeps s (s.onCallout fun u => { u with own := updateIf p f u.own }) :=
  onOwnCallouts_keeps s (updateIf p f) (by rw [updateIf_map _ _ _ _ h])

theorem ownAttempt_keeps (n : Nat) (s : State) : Keeps s (ownAttempt n s) := by
  unfold ownAttempt
  split
  · exact .refl s
  · split
    · exact updateOwnCallouts_keeps _ _ s fun _ => rfl
    · exact endCallout_keeps _ _ _ s

/-- The pair of a relay entry (R178). -/
def RelayEntry.pair (e : RelayEntry) : Nat × Nat := (e.origin, e.seq)

/-- The pair of an entry of the recent-relay list (R181). -/
def RecentPair.pair (p : RecentPair) : Nat × Nat := (p.origin, p.seq)

theorem RelayEntry.isPair_iff (e : RelayEntry) (o n : Nat) : e.isPair o n = true ↔ e.pair = (o, n) := by
  simp [RelayEntry.isPair, RelayEntry.pair]

theorem RecentPair.isPair_iff (p : RecentPair) (o n : Nat) : p.isPair o n = true ↔ p.pair = (o, n) := by
  simp [RecentPair.isPair, RecentPair.pair]

/-- The callout unit's laws in terms of pairs. -/
theorem Callouts.sound_iff (u : Callouts) : u.Sound ↔
    u.own.length ≤ 4 ∧ u.relay.length ≤ 8 ∧ u.recent.length ≤ 16 ∧ (u.relay.map (·.pair)).Nodup
      ∧ (u.own.map (·.seq)).Nodup ∧ (u.recent.map (·.pair)).Nodup
      ∧ ∀ e ∈ u.relay, ∀ p ∈ u.recent, e.pair ≠ p.pair := by
  simp only [Callouts.Sound, RelayEntry.pair, RecentPair.pair, Prod.mk.injEq, ne_eq]

theorem dropEarliest_sublist {α : Type} (key : α → Nat) (l : List α) : (dropEarliest key l).Sublist l := by
  unfold dropEarliest
  split
  · exact .refl l
  · exact List.eraseP_sublist

/-- Of a list that is not empty the earliest entry goes. -/
theorem dropEarliest_length {α : Type} (key : α → Nat) (l : List α) (h : l ≠ []) :
    (dropEarliest key l).length + 1 = l.length := by
  unfold dropEarliest
  split
  · next hnone => simp [h] at hnone
  · next m hm =>
    obtain ⟨hmem, -⟩ := List.min?_eq_some_iff.1 hm
    obtain ⟨x, hx, hkey⟩ := List.mem_map.1 hmem
    have hpos := List.length_pos_of_mem hx
    rw [List.length_eraseP_of_mem hx (by simp [hkey])]
    omega

/-- The recent-relay list once a pair has joined it (R181). -/
def recentWith (o n now : Nat) (l : List RecentPair) : List RecentPair :=
  (if l.length < Config.recentCap then l else dropEarliest (·.expiry) l) ++ [⟨o, n, now + Config.recentLife⟩]

theorem addRecent_eq (o n : Nat) (s : State) :
    addRecent o n s = s.onCallout fun u => { u with recent := recentWith o n s.now u.recent } := rfl

/-- A pair that is new to the recent-relay list joins it within its capacity (R181). -/
theorem recentWith_sound (o n now : Nat) (l : List RecentPair) (hlen : l.length ≤ 16) (hnodup : (l.map (·.pair)).Nodup)
    (hnew : ∀ p ∈ l, p.pair ≠ (o, n)) :
    (recentWith o n now l).length ≤ 16 ∧ ((recentWith o n now l).map (·.pair)).Nodup
      ∧ ∀ p ∈ recentWith o n now l, p ∈ l ∨ p.pair = (o, n) := by
  unfold recentWith
  set kept := if l.length < Config.recentCap then l else dropEarliest (·.expiry) l with hkept
  have hsub : kept.Sublist l := by
    rw [hkept]; split
    · exact .refl l
    · exact dropEarliest_sublist _ l
  have hroom : kept.length ≤ 15 := by
    rw [hkept]; split
    · next h => simp only [Config.recentCap] at h; omega
    · next h =>
      simp only [Config.recentCap, not_lt] at h
      have hne : l ≠ [] := by rintro rfl; simp at h
      have := dropEarliest_length (·.expiry) l hne
      omega
  refine ⟨by simp only [List.length_append, List.length_singleton]; omega, ?_, fun p hp => ?_⟩
  · rw [List.map_append, List.map_singleton]
    refine (hnodup.sublist (hsub.map _)).append (List.nodup_singleton _) ?_
    rintro x hx hy
    obtain ⟨p, hp, rfl⟩ := List.mem_map.1 hx
    exact hnew p (hsub.subset hp) (by simpa [RecentPair.pair] using hy)
  · rcases List.mem_append.1 hp with h | h
    · exact .inl (hsub.subset h)
    · right; rw [List.mem_singleton.1 h]; rfl

/-- A pair that neither list of pairs holds is remembered (R181). -/
theorem addRecent_keeps (o n : Nat) (s : State) (hrelay : ∀ e ∈ s.callout.relay, e.pair ≠ (o, n))
    (hrecent : ∀ p ∈ s.callout.recent, p.pair ≠ (o, n)) : Keeps s (addRecent o n s) := by
  rw [addRecent_eq]
  refine onCallout_keeps _ s (fun h => ?_) id
  rw [Callouts.sound_iff] at h ⊢
  obtain ⟨hown, hlen, hlenr, hpairs, hseqs, hnodup, hdisjoint⟩ := h
  obtain ⟨hlen', hnodup', hmem⟩ := recentWith_sound o n s.now s.callout.recent hlenr hnodup hrecent
  refine ⟨hown, hlen, hlen', hpairs, hseqs, hnodup', fun e he p hp => ?_⟩
  rcases hmem p hp with hold | hnew
  · exact hdisjoint e he p hold
  · rw [hnew]; exact hrelay e he

/-- An entry leaves the relay queue for the recent-relay list (R179). -/
theorem leaveRelay_keeps (o n : Nat) (s : State) : Keeps s (leaveRelay o n s) := by
  unfold leaveRelay
  split
  · next hany =>
    refine onCallout_keeps (fun u => { u with
      relay := u.relay.filter fun x => !x.isPair o n, recent := recentWith o n s.now u.recent }) s (fun h => ?_)
      (fun h => by simp [h])
    rw [Callouts.sound_iff] at h ⊢
    obtain ⟨hown, hlen, hlenr, hpairs, hseqs, hnodup, hdisjoint⟩ := h
    obtain ⟨e, he, hpair⟩ := List.any_eq_true.1 hany
    rw [RelayEntry.isPair_iff] at hpair
    have hnew (p : RecentPair) (hp : p ∈ s.callout.recent) : p.pair ≠ (o, n) := by
      rw [← hpair]; exact (hdisjoint e he p hp).symm
    obtain ⟨hlen', hnodup', hmem⟩ := recentWith_sound o n s.now s.callout.recent hlenr hnodup hnew
    refine ⟨hown, (List.length_filter_le _ _).trans hlen, hlen', hpairs.sublist (List.filter_sublist.map _), hseqs,
      hnodup', fun x hx p hp => ?_⟩
    obtain ⟨hxmem, hxnot⟩ := List.mem_filter.1 hx
    rcases hmem p hp with hold | hfresh
    · exact hdisjoint x hxmem p hold
    · rw [hfresh]
      intro heq
      simp [(RelayEntry.isPair_iff x o n).2 heq] at hxnot
  · exact .refl s

/-- A change of relay entries that leaves their pairs. -/
theorem updateRelay_keeps (p : RelayEntry → Bool) (f : RelayEntry → RelayEntry) (s : State)
    (h : ∀ x, (f x).pair = x.pair) : Keeps s (s.onCallout fun u => { u with relay := updateIf p f u.relay }) := by
  refine onCallout_keeps _ s (fun hs => ?_) (fun hs => by simp [updateIf, hs])
  rw [Callouts.sound_iff] at hs ⊢
  obtain ⟨hown, hlen, hlenr, hpairs, hseqs, hnodup, hdisjoint⟩ := hs
  have hkeys := updateIf_map p f (·.pair) s.callout.relay h
  refine ⟨hown, (updateIf_length p f _).trans_le hlen, hlenr, hkeys.symm ▸ hpairs, hseqs, hnodup, fun x hx q hq => ?_⟩
  obtain ⟨y, hy, heq⟩ := List.mem_map.1 (hkeys ▸ List.mem_map_of_mem (f := RelayEntry.pair) hx)
  rw [← heq]
  exact hdisjoint y hy q hq

theorem relayAttempt_keeps (o n : Nat) (s : State) : Keeps s (relayAttempt o n s) := by
  unfold relayAttempt
  split
  · exact .refl s
  · split
    · exact updateRelay_keeps _ _ s fun _ => rfl
    · exact leaveRelay_keeps o n s

theorem calloutAttempt_keeps (o n : Nat) (s : State) : Keeps s (calloutAttempt o n s) := by
  unfold calloutAttempt
  split
  · exact ownAttempt_keeps n s
  · exact relayAttempt_keeps o n s

/-! ### A frame that leaves the queue unsent, or joins it -/

theorem unsent_keeps (p : Payload) (s : State) : Keeps s (unsent p s) := by
  unfold unsent
  split
  · split
    · exact (noteOutcome_keeps s).trans (endOwn_keeps _ _ _ _)
    · exact (noteOutcome_keeps s).trans (updateOwn_keeps _ _ _ fun _ => ⟨rfl, rfl, rfl, rfl⟩)
  · exact (noteOutcome_keeps s).trans (calloutAttempt_keeps _ _ _)
  · exact noteOutcome_keeps s

theorem queueFrame_keeps (b : Block) (p : Payload) (s : State) : Keeps s (queueFrame b p s) := by
  unfold queueFrame
  split
  · exact unsent_keeps p s
  · next hon =>
    split
    · next hroom => exact enterQueue_keeps b p s hon hroom
    · split
      · exact unsent_keeps p s
      · next v hv =>
        have ⟨hmem, _⟩ := (giveUp_spec s.channel.flightEntry s.channel.queue).2 v hv
        split
        · exact (displace_keeps b p v s hon hmem).trans (unsent_keeps _ _)
        · exact unsent_keeps p s

theorem offerFrame_keeps (b : Block) (same : Payload → Bool) (p : Payload) (s : State) :
    Keeps s (offerFrame b same p s) := by
  unfold offerFrame
  split
  · exact changePayload_keeps _ _ s
  · exact queueFrame_keeps b p s

/-! ### Raising a callout -/

theorem takeSeq_keeps (n : Nat) (s : State) : Keeps s (takeSeq n s) := onCallout_keeps _ s id id

theorem queueOwnCallout_keeps (c : OwnCallout) (s : State) : Keeps s (queueOwnCallout c s) := queueFrame_keeps _ _ s

theorem queueRelay_keeps (e : RelayEntry) (s : State) : Keeps s (queueRelay e s) := queueFrame_keeps _ _ s

/-- A search for a free number that ends at a held one has found every number on its way held (R168). -/
theorem freeSeq_mem (fuel : Nat) (held : List Nat) (n : Nat) (hn : n < 256) (h : freeSeq fuel held n ∈ held) :
    ∀ j ≤ fuel, (n + j) % 256 ∈ held := by
  induction fuel generalizing n with
  | zero =>
    intro j hj
    rw [Nat.le_zero.1 hj, Nat.add_zero, Nat.mod_eq_of_lt hn]
    exact h
  | succ fuel ih =>
    rw [freeSeq] at h
    split at h
    · next hheld =>
      have hnext := ih ((n + 1) % 256) (Nat.mod_lt _ (by decide)) h
      rintro (_ | j) hj
      · simpa [Nat.mod_eq_of_lt hn] using hheld
      · have := hnext j (by omega)
        rwa [Nat.mod_add_mod, Nat.add_assoc, Nat.add_comm 1] at this
    · next hfree => simp [h] at hfree

/-- With fewer than 255 numbers held the search finds a free one: there are more numbers on its way than held (R168). -/
theorem freeSeq_free (held : List Nat) (n : Nat) (hn : n < 256) (hfew : held.length < 256) :
    freeSeq held.length held n ∉ held := by
  intro h
  have hall := freeSeq_mem held.length held n hn h
  have hmaps : Set.MapsTo (fun j => (n + j) % 256) (Finset.range (held.length + 1)) held.toFinset := by
    intro j hj
    have hj : j < held.length + 1 := by simpa using hj
    simpa using hall j (by omega)
  have hinj : Set.InjOn (fun j => (n + j) % 256) (Finset.range (held.length + 1)) := by
    intro a ha b hb heq
    simp only [Finset.coe_range, Set.mem_Iio] at ha hb heq
    omega
  have hcard := Finset.card_le_card_of_injOn _ hmaps hinj
  have hdedup := held.toFinset_card_le
  simp only [Finset.card_range] at hcard
  omega

/-- The number that the next callout takes is held by no record (R168). -/
theorem nextSeq_free (s : State) (hfew : s.callout.own.length < 256) : s.nextSeq ∉ s.callout.own.map (·.seq) := by
  have h := freeSeq_free (s.callout.own.map (·.seq)) (s.callout.seq % 256) (Nat.mod_lt _ (by decide)) (by simpa)
  exact h

/-- A new own callout record under a number that none holds (R168, R171). -/
theorem addCallout_keeps (c : OwnCallout) (s : State) (hroom : s.callout.own.length < 4)
    (hfree : c.seq ∉ s.callout.own.map (·.seq)) : Keeps s (s.onCallout fun u => { u with own := u.own ++ [c] }) := by
  refine onCallout_keeps _ s (fun h => ?_) id
  obtain ⟨hown, hrelay, hrecent, hpairs, hseqs, hold, hdisjoint⟩ := h
  refine ⟨by simp only [List.length_append, List.length_singleton]; omega, hrelay, hrecent, hpairs, ?_, hold, hdisjoint⟩
  rw [List.map_append, List.map_singleton]
  exact hseqs.append (List.nodup_singleton _) (by simpa using hfree)

theorem raise_keeps (c n k d : Nat) (s : State) : Keeps s (raise c n k d s) := by
  unfold raise
  split
  · exact ((takeSeq_keeps _ s).trans (post_keeps _ _)).trans (post_keeps _ _)
  · split
    · next hmay =>
      obtain ⟨-, hroom⟩ := hmay
      have hroom4 : s.callout.own.length < 4 := hroom
      refine .trans (.trans (takeSeq_keeps _ s) (addCallout_keeps _ _ hroom4 ?_)) (queueOwnCallout_keeps _ _)
      exact nextSeq_free s (by omega)
    · exact post_keeps _ s

theorem raiseHere_keeps (c d : Nat) (s : State) : Keeps s (raiseHere c d s) := raise_keeps _ _ _ _ s

/-! ### The neighbour table -/

/-- A sound neighbour table takes the place of the old in a station that is not OFFLINE. -/
theorem onNeighbours_keepsOn (l : List Neighbour) (s : State)
    (hsound : NeighboursSound s.station.neighbours → NeighboursSound l) :
    KeepsOn s (s.onStation fun t => { t with neighbours := l }) := by
  refine ⟨⟨rfl, rfl, rfl, rfl, rfl, rfl, rfl⟩, sampled_of_blocks rfl rfl rfl rfl,
    fun h => { h with neighbours := hsound h.neighbours }, id, fun hon h => ?_⟩
  rw [offTheAir_iff] at h ⊢
  exact ⟨h.1, fun hoff => absurd hoff hon⟩

/-- The table with the entry of `n` last is sound: its old entry has gone, or a full table has lost one (R40, R41). -/
theorem neighboursSound_learn (n : Neighbour) (l : List Neighbour) (h : NeighboursSound l) :
    NeighboursSound ((match l.find? (·.station == n.station) with
      | some _ => l.filter (fun x => !(x.station == n.station))
      | none => if l.length < 24 then l else l.drop 1) ++ [n]) := by
  obtain ⟨hlen, hnodup⟩ := h
  have hadd (m : List Neighbour) (hsub : m.Sublist l) (hroom : m.length < 24) (hnew : ∀ x ∈ m, x.station ≠ n.station) :
      NeighboursSound (m ++ [n]) := by
    refine ⟨by simp only [List.length_append, List.length_singleton]; omega, ?_⟩
    rw [List.map_append, List.map_singleton]
    refine (hnodup.sublist (hsub.map _)).append (List.nodup_singleton _) ?_
    rintro k hk hk'
    obtain ⟨x, hx, rfl⟩ := List.mem_map.1 hk
    exact hnew x hx (by simpa using hk')
  split
  · next old hold =>
    have hfewer : (l.filter fun x => !(x.station == n.station)).length < l.length :=
      List.length_filter_lt_length_iff_exists.2
        ⟨old, List.mem_of_find?_eq_some hold, by simpa using List.find?_some hold⟩
    exact hadd _ List.filter_sublist (by omega) fun x hx => by simpa using (List.mem_filter.1 hx).2
  · next hnone =>
    have hnew : ∀ x ∈ l, x.station ≠ n.station := fun x hx => by simpa using List.find?_eq_none.1 hnone x hx
    split
    · next hroom => exact hadd l (.refl l) hroom hnew
    · refine hadd _ (List.drop_sublist 1 l) ?_ fun x hx => hnew x (List.mem_of_mem_drop hx)
      rw [List.length_drop]; omega

theorem KeepsOn.trans_keeps {s t u : State} (h : KeepsOn s t) (k : Keeps t u) : KeepsOn s u :=
  ⟨h.owned.trans k.owned, h.sampled.trans k.sampled, k.lawful.tables ∘ h.tables, k.lawful.inOrder ∘ h.inOrder,
    fun hon a => k.lawful.offTheAir (h.offTheAir hon a)⟩

theorem hearNeighbour_keepsOn (n : Neighbour) (s : State) : KeepsOn s (hearNeighbour n s) := by
  rw [hearNeighbour_eq]
  refine .trans_keeps (.trans_keeps
    (onNeighbours_keepsOn _ s (neighboursSound_learn n s.station.neighbours)) ?_) (recomputeDistance_keeps _)
  exact onHost_keeps (fun p => { p with events := s.withEvents _ }) _ (withEvents_length s _) rfl

end Sys2Proof.Machine

/-! ## What the shared operations keep: motion, group, segments, the feed -/

namespace Sys2Proof.Machine

/-! ### Changes of motion state -/

theorem endOccupancy_keeps (n : Nat) (s : State) : Keeps s (endOccupancy n s) := by
  unfold endOccupancy
  split
  · exact .refl s
  · split
    · split
      · exact endOwn_keeps _ _ _ s
      · exact .refl s
    · exact .refl s

/-- A change of group control that keeps the hold set. -/
theorem onGroup_same_keeps (f : Group → Group) (s : State) (h : (f s.group).holds = s.group.holds) :
    Keeps s (s.onGroup f) :=
  onGroup_keeps f s fun hs => by simpa only [Group.Sound, h] using hs

theorem moveTo_keeps (new : MotionState) (k : MotionCause) (f : FaultSet) (s : State) : Keeps s (moveTo new k f s) := by
  have moved : Keeps s ((s.onMotion fun m => m.moved new f s.cfg.crawl).onGroup fun g =>
      { g with retained := g.retained && keepsRetained new }) :=
    (onMotion_keeps _ s ⟨rfl, rfl, rfl, rfl, rfl⟩).trans (onGroup_same_keeps _ _ rfl)
  unfold moveTo
  dsimp only
  split
  · exact .refl s
  · split
    · exact (moved.trans (post_keeps _ _)).trans (endOccupancy_keeps _ _)
    · exact moved.trans (post_keeps _ _)

theorem move_keeps (new : MotionState) (k : MotionCause) (s : State) : Keeps s (move new k s) := moveTo_keeps _ _ _ s

theorem enterMoving_keeps (k : MotionCause) (s : State) : Keeps s (enterMoving k s) := by
  unfold enterMoving
  (repeat' split) <;> exact move_keeps _ _ s

theorem evalCaution_keeps (s : State) : Keeps s (evalCaution s) := by
  unfold evalCaution
  split
  · exact move_keeps _ _ s
  · split
    · exact move_keeps _ _ s
    · exact .refl s

theorem enterStopping_keeps (e : StopEnd) (k : MotionCause) (s : State) : Keeps s (enterStopping e k s) :=
  (onMotion_keeps _ s ⟨rfl, rfl, rfl, rfl, rfl⟩).trans (move_keeps _ _ _)

theorem checkStopped_keeps (s : State) : Keeps s (checkStopped s) := by
  unfold checkStopped
  split
  · split <;> exact move_keeps _ _ s
  · exact .refl s

theorem offerNotice_keeps (s : State) : Keeps s (offerNotice s) := offerFrame_keeps _ _ _ s

theorem zoneChanged_keeps (z : Zone) (s : State) : Keeps s (zoneChanged z s) := by
  unfold zoneChanged
  split
  · exact .refl s
  · exact ((onMotion_keeps _ s ⟨rfl, rfl, rfl, rfl, rfl⟩).trans (post_keeps _ _)).trans (offerNotice_keeps _)

/-! ### The hold set -/

theorem holdsEmptied_keeps (s : State) : Keeps s (holdsEmptied s) := by
  unfold holdsEmptied
  split
  · split
    · exact move_keeps _ _ s
    · split
      · exact enterMoving_keeps _ s
      · exact move_keeps _ _ s
  · split
    · split
      · exact enterMoving_keeps _ s
      · exact onMotion_keeps _ s ⟨rfl, rfl, rfl, rfl, rfl⟩
    · exact .refl s
  · exact .refl s

/-- A hold set whose originators are part of the old ones is sound (R140). -/
theorem Group.Sound.sublist {g h : Group} (hs : g.Sound)
    (hsub : (h.holds.map (·.originator)).Sublist (g.holds.map (·.originator))) : h.Sound := by
  have hlen := hsub.length_le
  simp only [List.length_map] at hlen
  exact ⟨hlen.trans hs.1, hs.2.sublist hsub⟩

theorem dropHold_keeps (o : Nat) (k : HoldRemoval) (s : State) : Keeps s (dropHold o k s) := by
  unfold dropHold
  split
  · exact .refl s
  · exact (onGroup_keeps (fun g => { g with holds := g.holds.filter fun x => !(x.originator == o) }) s
      fun hs => hs.sublist (List.filter_sublist.map _)).trans (post_keeps _ _)

theorem removeHold_keeps (o : Nat) (k : HoldRemoval) (s : State) : Keeps s (removeHold o k s) := by
  unfold removeHold
  dsimp only
  split
  · split
    · exact (dropHold_keeps o k s).trans (holdsEmptied_keeps _)
    · exact dropHold_keeps o k s
  · exact .refl s

theorem applyHold_keeps (s : State) : Keeps s (applyHold s) := by
  unfold applyHold
  split
  · split
    · exact move_keeps _ _ s
    · exact enterStopping_keeps _ _ s
  · split
    · exact move_keeps _ _ s
    · exact enterStopping_keeps _ _ s
  · split
    · exact move_keeps _ _ s
    · exact onMotion_keeps _ s ⟨rfl, rfl, rfl, rfl, rfl⟩
  · exact move_keeps _ _ s
  · exact .refl s

theorem makeHoldRoom_keeps (s : State) : Keeps s (makeHoldRoom s) := by
  unfold makeHoldRoom
  split
  · exact .refl s
  · split
    · exact .refl s
    · exact dropHold_keeps _ _ s

/-- Dropping a hold leaves every other entry as it was (R140). -/
theorem dropHold_holds (o : Nat) (k : HoldRemoval) (s : State) :
    (dropHold o k s).group.holds = s.group.holds.filter fun x => !(x.originator == o) := by
  unfold dropHold
  split
  · next hnone =>
    rw [List.find?_eq_none] at hnone
    symm
    rw [List.filter_eq_self]
    simpa using hnone
  · simp

/-- Making room takes entries away and adds none (R140). -/
theorem makeHoldRoom_sublist (s : State) : (makeHoldRoom s).group.holds.Sublist s.group.holds := by
  unfold makeHoldRoom
  split
  · exact .refl _
  · split
    · exact .refl _
    · rw [dropHold_holds]; exact List.filter_sublist

/-- An originator without an entry gets one at the end of the set (R140). -/
theorem createHold_keeps (o : Nat) (t : HoldType) (r : HoldReason) (e : Option Nat) (s : State)
    (hnew : s.group.holds.find? (·.originator == o) = none) : Keeps s (createHold o t r e s) := by
  unfold createHold
  dsimp only
  split
  · next hroom =>
    refine .trans (.trans (makeHoldRoom_keeps s) ?_) (post_keeps _ _)
    refine onGroup_keeps _ _ fun hs => ⟨?_, ?_⟩
    · simp only [List.length_append, List.length_singleton]
      exact hroom
    · rw [List.map_append, List.map_singleton]
      refine hs.2.append (List.nodup_singleton _) ?_
      rintro k hk hk'
      obtain ⟨x, hx, rfl⟩ := List.mem_map.1 hk
      have := List.find?_eq_none.1 hnew x ((makeHoldRoom_sublist s).subset hx)
      simp at hk' this
      exact this hk'
  · exact makeHoldRoom_keeps s

theorem changeHold_keeps (h : HoldEntry) (t : HoldType) (r : HoldReason) (e : Option Nat) (s : State) :
    Keeps s (changeHold h t r e s) := by
  have changed : Keeps s (s.onGroup fun g =>
      { g with
        holds := updateIf (·.originator == h.originator)
          (fun x => { x with holdType := t, reason := r, expiry := e, stamp := g.nextStamp }) g.holds
        nextStamp := g.nextStamp + 1 }) :=
    onGroup_keeps _ s fun hs => hs.sublist (by
      dsimp only
      rw [updateIf_map]
      exact fun _ => rfl)
  unfold changeHold
  dsimp only
  split
  · split
    · exact (changed.trans (post_keeps _ _)).trans (applyHold_keeps _)
    · exact changed.trans (applyHold_keeps _)
  · split
    · exact changed.trans (post_keeps _ _)
    · exact changed

theorem receiveHold_keeps (o : Nat) (t : HoldType) (r : HoldReason) (s : State) : Keeps s (receiveHold o t r s) := by
  unfold receiveHold
  split
  · exact changeHold_keeps _ _ _ _ s
  · next hnone => exact (createHold_keeps o t r _ s hnone).trans (applyHold_keeps _)

/-! ### The own hold -/

theorem offerHold_keeps (s : State) : Keeps s (offerHold s) := by
  unfold offerHold
  split
  · exact .refl s
  · split
    · exact (onGroup_same_keeps _ s rfl).trans (offerFrame_keeps _ _ _ _)
    · exact .refl s

theorem queueResume_keeps (s : State) : Keeps s (queueResume s) := queueFrame_keeps _ _ s

theorem raiseOwnHold_keeps (s : State) : Keeps s (raiseOwnHold s) := by
  unfold raiseOwnHold
  split
  · exact .refl s
  · split
    · next hnone =>
      exact (((createHold_keeps _ _ _ _ s hnone).trans (onGroup_same_keeps _ _ rfl)).trans (offerHold_keeps _)).trans
        (applyHold_keeps _)
    · split
      · exact (changeHold_keeps _ _ _ _ s).trans (offerHold_keeps _)
      · exact .refl s

theorem lowerOwnHold_keeps (send : Bool) (s : State) : Keeps s (lowerOwnHold send s) := by
  unfold lowerOwnHold
  split
  · split
    · exact .refl s
    · split
      · exact (changeHold_keeps _ _ _ _ s).trans (offerHold_keeps _)
      · exact .refl s
  · have removed := (removeHold_keeps s.cfg.station .ownCleared s).trans
      (onGroup_same_keeps (fun g => { g with repeatMs := 0 }) _ rfl)
    dsimp only
    split
    · exact removed.trans (queueResume_keeps _)
    · exact removed

theorem releaseGuestHold_keeps (send : Bool) (s : State) : Keeps s (releaseGuestHold send s) := by
  unfold releaseGuestHold
  split
  · exact ((onMotion_keeps _ s ⟨rfl, rfl, rfl, rfl, rfl⟩).trans (onGroup_same_keeps _ _ rfl)).trans
      (lowerOwnHold_keeps _ _)
  · exact .refl s

/-! ### Fault stops and lost claims -/

theorem faultStop_keeps (k : FaultCause) (s : State) : Keeps s (faultStop k s) := by
  unfold faultStop
  dsimp only
  split
  · exact (onMotion_keeps _ s ⟨rfl, rfl, rfl, rfl, rfl⟩).trans (post_keeps _ _)
  · split
    · exact (releaseGuestHold_keeps true s).trans (moveTo_keeps _ _ _ _)
    · exact moveTo_keeps _ _ _ s

theorem endClaim_keeps (n : Nat) (k : ClaimChange) (w : Option (Nat × Nat)) (s : State) : Keeps s (endClaim n k w s) := by
  unfold endClaim
  dsimp only
  split
  · exact ((endOwn_keeps n k w s).trans (faultStop_keeps _ _)).trans (raiseHere_keeps _ _ _)
  · exact endOwn_keeps n k w s

/-! ### Segments -/

/-- A change of records that leaves their loaded fields (R44). -/
theorem updateSegment_keeps (n : Nat) (f : Segment → Segment) (s : State) (h : ∀ r, (f r).loaded = r.loaded) :
    Keeps s (updateSegment n f s) :=
  onSegs_keeps _ s (updateIf_map _ f Segment.loaded _ h)

/-- A change of the segment table that leaves the records (R51, R57). -/
theorem onSegs_same_keeps (f : Segments → Segments) (s : State) (h : (f s.segs).records = s.segs.records) :
    Keeps s (s.onSegs f) :=
  onSegs_keeps f s (by rw [h])

theorem settleFeed_keeps (s : State) : Keeps s (settleFeed s) := by
  unfold settleFeed
  split
  · split
    · exact .refl s
    · exact onDosing_keeps _ s rfl
  · split
    · exact onDosing_keeps _ s rfl
    · exact .refl s

theorem lowTest_keeps (s : State) : Keeps s (lowTest s) := by
  unfold lowTest
  split
  · exact ((onDosing_keeps (fun d => { d with low := true }) s rfl).trans (post_keeps _ _)).trans (raiseHere_keeps _ _ _)
  · exact .refl s

theorem emptyTest_keeps (before : Nat) (s : State) : Keeps s (emptyTest before s) := by
  unfold emptyTest
  dsimp only
  split
  · split
    · exact (post_keeps _ s).trans (raiseHere_keeps _ _ _)
    · exact post_keeps _ s
  · exact .refl s

theorem openPass_keeps (cell : Nat) (s : State) : Keeps s (openPass cell s) := by
  unfold openPass
  split
  · exact .refl s
  · exact (onDosing_keeps _ s rfl).trans (onSegs_same_keeps _ _ rfl)

theorem flush_keeps (n : Nat) (s : State) : Keeps s (flush n s) := by
  have cleared : Keeps s (s.onSegs fun t => { t with report := none }) := onSegs_same_keeps _ s rfl
  unfold flush
  dsimp only
  split
  · exact .refl s
  · split
    · split
      · exact cleared.trans (changePayload_keeps _ _ _)
      · exact cleared
    · exact cleared.trans (queueFrame_keeps _ _ _)

theorem flushAtStride_keeps (n : Nat) (s : State) : Keeps s (flushAtStride n s) := by
  unfold flushAtStride
  split
  · exact .refl s
  · split
    · exact flush_keeps n s
    · exact .refl s

theorem addReport_keeps (n cell : Nat) (w : Work) (dose : Nat) (s : State) : Keeps s (addReport n cell w dose s) := by
  unfold addReport
  dsimp only
  split
  · exact (onSegs_same_keeps _ s rfl).trans (flushAtStride_keeps n _)
  · split
    · exact (onSegs_same_keeps _ s rfl).trans (flushAtStride_keeps n _)
    · exact ((flush_keeps n s).trans (onSegs_same_keeps _ _ rfl)).trans (flushAtStride_keeps n _)

theorem finalise_keeps (s : State) : Keeps s (finalise s) := by
  unfold finalise
  split
  · next p r _ _ =>
    have closed := (updateSegment_keeps r.number (fun x => { x with cells := updateCell p.cell (fun _ =>
      finalisedCell s.cfg s.now r.length p (r.cells.getD p.cell freshCell)) x.cells }) s fun _ => rfl).trans
      (onSegs_same_keeps (fun t => { t with pass := none }) _ rfl)
    dsimp only
    split
    · exact closed
    · exact closed.trans (addReport_keeps _ _ _ _ _)
  · exact .refl s

theorem finaliseAndFlush_keeps (s : State) : Keeps s (finaliseAndFlush s) := by
  unfold finaliseAndFlush
  split
  · exact .refl s
  · exact (finalise_keeps s).trans (flush_keeps _ _)

theorem endEntry_keeps (s : State) : Keeps s (endEntry s) := by
  have ended : Keeps s (((finaliseAndFlush s).onOdo fun o => { o with entry := none }).onDosing
      fun d => { d with need := 0, pulsesNow := 0 }) :=
    ((finaliseAndFlush_keeps s).trans (onOdo_keeps _ _)).trans (onDosing_keeps _ _ rfl)
  unfold endEntry
  dsimp only
  split
  · exact .refl s
  · split
    · exact ended
    · exact ended.trans (endOccupancy_keeps _ _)

theorem fill_keeps (source first last : Nat) (clear : Bool) (s : State) : Keeps s (fill source first last clear s) := by
  have filled : Keeps s (s.onSegs fun t =>
      { t with
        records := updateIf (fun r => decide (first ≤ r.number) && decide (r.number ≤ last))
          (fun r => { r with cells := r.cells.map (filledCell clear) }) t.records }) :=
    onSegs_keeps _ s (updateIf_map _ _ Segment.loaded _ fun _ => rfl)
  unfold fill
  refine .trans (.trans ?_ (withdraw_keeps _ _)) (post_keeps _ _)
  split
  · exact filled
  · split
    · exact filled.trans (onSegs_same_keeps _ _ rfl)
    · exact filled

end Sys2Proof.Machine

/-! ## What the shared operations keep: the channel, SILENT and OFFLINE -/

namespace Sys2Proof.Machine

/-! ### Frames heard -/

theorem frameOver_keepsOn (s : State) : KeepsOn s (s.onChannel Channel.frameOver) :=
  onChannel_keepsOn _ s rfl rfl (.inl rfl) (.inr rfl) (.inl rfl)

theorem noise_keepsOn (s : State) : KeepsOn s (s.onChannel fun c => c.frameOver.addNoise) :=
  onChannel_keepsOn _ s rfl rfl (.inl rfl) (.inr rfl) (.inl rfl)

theorem KeepsOn.trans_on {s t u : State} (h : KeepsOn s t) (k : KeepsOn t u)
    (hstate : t.station.state = s.station.state) : KeepsOn s u :=
  ⟨h.owned.trans k.owned, h.sampled.trans k.sampled, k.tables ∘ h.tables, k.inOrder ∘ h.inOrder,
    fun hon a => k.offTheAir (hstate ▸ hon) (h.offTheAir hon a)⟩

theorem Keeps.keepsOn {s t : State} (h : Keeps s t) : KeepsOn s t :=
  ⟨h.owned, h.sampled, h.lawful.tables, h.lawful.inOrder, fun _ => h.lawful.offTheAir⟩

/-- The receiver is on in every station state but OFFLINE (section 2.1). -/
theorem receiverOn_iff (s : State) : s.receiverOn = true ↔ s.station.state ≠ .offline := by
  simp [State.receiverOn]

/-- A frame heard keeps what its delivery keeps (R10, R11). -/
theorem receive_keeps (sender : Nat) (deliver : State → State) (s : State) (hdeliver : KeepsOn s (deliver s))
    (hstate : (deliver s).station.state = s.station.state) : Keeps s (receive sender deliver s) := by
  unfold receive
  split
  · exact .refl s
  · next hon =>
    have hon : s.station.state ≠ .offline := by simpa [State.receiverOn] using hon
    split
    · exact (noise_keepsOn s).keeps fun _ => hon
    · split
      · exact ((frameOver_keepsOn s).trans_keeps (post_keeps _ _)).keeps fun _ => hon
      · exact (hdeliver.trans_on (frameOver_keepsOn _) hstate).keeps fun _ => hon

/-- A seize is asked for in ACTIVE alone (R18). -/
theorem requestSeize_keeps (s : State) : Keeps s (requestSeize s) := by
  unfold requestSeize
  split
  · next hactive =>
    exact onChannel_keeps _ s (.inl le_rfl) id le_rfl fun _ =>
      ⟨fun hst => absurd hactive hst, fun hoff => by rw [hactive] at hoff; cases hoff⟩
  · exact .refl s

/-! ### Claims at the end of a contest -/

/-- A change of the claim view alone that takes entries away. -/
theorem filterView_keeps (p : ViewEntry → Bool) (s : State) :
    Keeps s (s.onClaims fun c => { c with view := c.view.filter p }) := by
  refine onClaims_keeps _ s (fun h => ?_) (fun r hr => ⟨r, hr, .refl r⟩) fun _ hnil => by simp [hnil]
  obtain ⟨hown, hview, hnodup, hviewNodup⟩ := h
  exact ⟨hown, (List.length_filter_le _ _).trans hview, hnodup, hviewNodup.sublist (List.filter_sublist.map _)⟩

theorem clearView_keeps (n : Nat) (i : Intent) (s : State) : Keeps s (clearView n i s) := filterView_keeps _ s

theorem releaseHeld_keeps (n : Nat) (s : State) : Keeps s (releaseHeld n s) :=
  ((withdraw_keeps _ s).trans (queueFrame_keeps _ _ _)).trans (endOwn_keeps _ _ _ _)

/-- A change of the deferral count alone (R70). -/
theorem onDeferrals_keeps (f : Nat → Nat) (s : State) :
    Keeps s (s.onClaims fun c => { c with deferrals := f c.deferrals }) :=
  onClaims_keeps _ s id (fun r hr => ⟨r, hr, .refl r⟩) fun _ h => h

theorem newClaimStands_keeps (r : OwnClaim) (s : State) : Keeps s (newClaimStands r s) := by
  have stands : Keeps s (clearView r.segment r.intent ((updateOwn r.segment (fun x => { x with
      state := .holding, frame := .none, lastSend := some s.now, refreshesOffered := 0 }) s).onClaims fun c =>
        { c with deferrals := 0 })) :=
    .trans (.trans (updateOwn_keeps _ _ s (by exact fun _ => ⟨rfl, rfl, rfl, rfl⟩)) (onDeferrals_keeps (fun _ => 0) _))
      (clearView_keeps _ _ _)
  unfold newClaimStands
  dsimp only
  split
  · exact (stands.trans (post_keeps _ _)).trans (releaseHeld_keeps _ _)
  · exact stands.trans (post_keeps _ _)

theorem claimSettled_keeps (n mode sensed : Nat) (s : State) : Keeps s (claimSettled n mode sensed s) := by
  have noFrame : Keeps s (updateOwn n (fun x => { x with frame := .none }) s) :=
    updateOwn_keeps _ _ s fun _ => ⟨rfl, rfl, rfl, rfl⟩
  unfold claimSettled
  dsimp only
  split
  · exact .refl s
  · split
    · split
      · exact newClaimStands_keeps _ s
      · exact endOwn_keeps _ _ _ s
    · split
      · exact .trans (noFrame.trans (updateOwn_keeps _ _ _ (by exact fun _ => ⟨rfl, rfl, rfl, rfl⟩))) (clearView_keeps _ _ _)
      · split
        · exact noFrame.trans (endClaim_keeps _ _ _ _)
        · split
          · exact noFrame.trans (endClaim_keeps _ _ _ _)
          · exact noFrame

theorem claimReturns_keeps (n : Nat) (s : State) : Keeps s (claimReturns n s) := by
  unfold claimReturns
  split
  · exact .refl s
  · split
    · exact endOwn_keeps _ _ _ s
    · exact updateOwn_keeps _ _ s fun _ => ⟨rfl, rfl, rfl, rfl⟩

/-! ### Transmit outcomes -/

theorem endFlight_keeps (s : State) : Keeps s (endFlight s) := by
  refine onChannel_keeps _ s (.inl le_rfl) (fun h => ⟨h.1, h.2.1, h.2.2.1, nofun⟩) le_rfl fun h => ⟨fun hst => ?_, h.2⟩
  exact ⟨rfl, (h.1 hst).2⟩

theorem frameReturns_keeps (reported : Bool) (s : State) : Keeps s (frameReturns reported s) := by
  unfold frameReturns
  split
  · exact endFlight_keeps s
  · next q _ =>
    have returned : Keeps s (if reported then noteOutcome (endFlight s) else endFlight s) := by
      split
      · exact (endFlight_keeps s).trans (noteOutcome_keeps _)
      · exact endFlight_keeps s
    dsimp only
    split
    · exact ((endFlight_keeps s).trans (withdraw_keeps _ _)).trans (unsent_keeps _ _)
    · split
      · split
        · exact returned.trans (claimReturns_keeps _ _)
        · exact returned
      · exact returned

theorem wonNotice_keeps (p : Payload) (s : State) : Keeps s (wonNotice p s) := by
  unfold wonNotice
  split
  · split
    · refine updateOwn_keeps _ _ s fun x => ?_
      split
      · exact ⟨rfl, rfl, rfl, rfl⟩
      · exact .refl x
    · exact .refl s
  · exact .refl s

theorem ownCalloutSent_keeps (n v : Nat) (s : State) : Keeps s (ownCalloutSent n v s) := by
  unfold ownCalloutSent
  split
  · exact ownAttempt_keeps n s
  · split
    · exact .refl s
    · exact endCallout_keeps _ _ _ s

theorem relaySent_keeps (o n v : Nat) (s : State) : Keeps s (relaySent o n v s) := by
  unfold relaySent
  split
  · exact relayAttempt_keeps o n s
  · exact leaveRelay_keeps o n s

/-- A station that is OFFLINE by the law of the air has an empty queue, so that it has no frame in flight there. -/
theorem online_of_flightFrame {s : State} {q : Queued} (h : s.flightFrame = some q) (ha : s.OffTheAir) :
    s.station.state ≠ .offline := by
  intro hoff
  obtain ⟨hkeyed, -⟩ := ha
  have hflight : s.channel.flight = none := (hkeyed (by simp [hoff])).1
  simp [State.flightFrame, hflight] at h

/-- An echo goes on in no station that is OFFLINE (R10). -/
theorem echoEnds_keeps (s : State) : Keeps s (echoEnds s) := by
  unfold echoEnds
  split
  · next hecho =>
    refine (frameOver_keepsOn s).keeps fun h hoff => ?_
    obtain ⟨-, hoffline⟩ := h
    obtain ⟨-, -, -, -, hnone, -⟩ := hoffline hoff
    simp [hnone] at hecho
  · exact .refl s

theorem frameSent_keeps (sensed : Nat) (s : State) : Keeps s (frameSent sensed s) := by
  unfold frameSent
  split
  · exact echoEnds_keeps s
  · next q hq =>
    have withdrawn : Keeps s (withdraw (·.entry == q.entry) (wonNotice q.payload s)) :=
      (wonNotice_keeps _ s).trans (withdraw_keeps _ _)
    have ended := withdrawn.trans_on (frameOver_keepsOn _) (by simp) (online_of_flightFrame hq)
    have removed := ended.trans (noteOutcome_keeps _)
    dsimp only
    split
    · exact removed.trans (claimSettled_keeps _ _ _ _)
    · split
      · exact removed.trans (ownCalloutSent_keeps _ _ _)
      · exact removed.trans (relaySent_keeps _ _ _ _)
    · exact removed

theorem ownCalloutUnheard_keeps (third : Bool) (n : Nat) (s : State) : Keeps s (ownCalloutUnheard third n s) := by
  unfold ownCalloutUnheard
  split
  · exact .refl s
  · split
    · exact endCallout_keeps _ _ _ s
    · exact queueOwnCallout_keeps _ s

theorem relayUnheard_keeps (third : Bool) (o n : Nat) (s : State) : Keeps s (relayUnheard third o n s) := by
  unfold relayUnheard
  split
  · exact .refl s
  · split
    · exact leaveRelay_keeps o n s
    · exact queueRelay_keeps _ s

theorem claimUnheard_keeps (third : Bool) (p : Payload) (n mode : Nat) (s : State) :
    Keeps s (claimUnheard third p n mode s) := by
  unfold claimUnheard
  split
  · exact .refl s
  · split
    · split
      · exact endOwn_keeps _ _ _ s
      · split
        · exact endOwn_keeps _ _ _ s
        · exact .trans (updateOwn_keeps _ _ s (by exact fun _ => ⟨rfl, rfl, rfl, rfl⟩)) (queueFrame_keeps _ _ _)
    · split
      · exact updateOwn_keeps _ _ s fun _ => ⟨rfl, rfl, rfl, rfl⟩
      · exact queueFrame_keeps _ _ s

theorem unheard_keeps (third : Bool) (p : Payload) (s : State) : Keeps s (unheard third p s) := by
  unfold unheard
  split
  · exact claimUnheard_keeps _ _ _ _ s
  · split
    · exact ownCalloutUnheard_keeps _ _ s
    · exact relayUnheard_keeps _ _ _ s
  · exact .refl s

/-! ### SILENT -/

theorem silenceClaim_keeps (s : State) (r : OwnClaim) : Keeps s (silenceClaim s r) := by
  unfold silenceClaim
  split
  · exact endOwn_keeps _ _ _ s
  · split
    · exact (withdraw_keeps _ s).trans (updateOwn_keeps _ _ _ fun _ => ⟨rfl, rfl, rfl, rfl⟩)
    · exact .refl s

theorem silenceCallout_keeps (s : State) (c : OwnCallout) : Keeps s (silenceCallout s c) :=
  (withdraw_keeps _ s).trans (endCallout_keeps _ _ _ _)

theorem silenceRelay_keeps (s : State) (e : RelayEntry) : Keeps s (silenceRelay s e) :=
  (withdraw_keeps _ s).trans (leaveRelay_keeps _ _ _)

/-- A fold of an operation keeps what each of its steps keeps. -/
theorem foldl_keeps {α : Type} (f : State → α → State) (h : ∀ s x, Keeps s (f s x)) (l : List α) (s : State) :
    Keeps s (l.foldl f s) := by
  induction l generalizing s with
  | nil => exact .refl s
  | cons x r ih => exact (h s x).trans (ih _)

/-- A station without a frame in flight falls silent: state and channel together (R30). -/
theorem fallSilent_keeps (s : State) (hflight : s.channel.flight = none) :
    Keeps s ((s.onStation fun t => { t with state := .silent, presenceMs := 0 }).onChannel Channel.silenced) := by
  refine ⟨⟨rfl, rfl, rfl, rfl, rfl, rfl, rfl⟩, ⟨(Sampled.refl s).scanner, rfl, (Sampled.refl s).own, by simp⟩,
    fun h => { h with
      queue := by simpa using h.queue
      noRelay := fun k => h.noRelay (.inl (by simpa [State.isDepot, State.cfg] using k)) }, fun h => ?_, fun h => ?_⟩
  · obtain ⟨hsorted, hnodup, hlt, -⟩ := h
    exact ⟨by simpa using hsorted, by simpa using hnodup, by simpa using hlt, by simp [hflight]⟩
  · rw [offTheAir_iff]
    exact ⟨⟨fun _ => by simp [hflight], nofun⟩, nofun⟩

theorem goSilent_keeps (s : State) (hflight : s.channel.flight = none) : Keeps s (goSilent s) :=
  ((((fallSilent_keeps s hflight).trans (post_keeps _ _)).trans (foldl_keeps _ silenceClaim_keeps _ _)).trans
    (foldl_keeps _ silenceCallout_keeps _ _)).trans (foldl_keeps _ silenceRelay_keeps _ _)

/-! ### OFFLINE by Leave -/

theorem abandonCallout_keeps (s : State) (c : OwnCallout) : Keeps s (abandonCallout s c) := endCallout_keeps _ _ _ s

theorem abandonClaim_keeps (s : State) (r : OwnClaim) : Keeps s (abandonClaim s r) := endOwn_keeps _ _ _ s

/-- The station controller of a station that has left (R32). -/
def Station.left (t : Station) : Station :=
  { t with
    state := .offline, leavePending := false, leaveMs := 0, leaveFrames := [], listenTimer := 0, presenceMs := 0,
    neighbours := [] }

/-- The state in which the entry to OFFLINE has reported the callouts and claims that end with it (R32, R95, R174). -/
def State.reported (s : State) : State :=
  let s1 := post (.stationState .leave s.station.state .offline) (s.onStation Station.left)
  let s2 := s1.callout.own.foldl abandonCallout s1
  s2.claims.own.foldl abandonClaim s2

/-- A state whose channel, claims, callouts, holds and guest states a Leave has cleared (R32, R49, R95, R149, R174). -/
def State.cleared (u : State) : State :=
  { u with
    channel := u.channel.off
    segs := { u.segs with records := u.segs.records.map fun r => { r with guest := none } }
    claims := { u.claims with own := [], view := [] }
    motion := { u.motion with seizePeriod := none }
    group := { u.group with retained := false, holds := [], guestMark := false, hostMark := none, repeatMs := 0 }
    callout := { u.callout with own := [], relay := [], recent := [] } }

/-- The entry to OFFLINE: report, clear, and settle the service distance (R32). -/
theorem enterOffline_eq (s : State) : enterOffline s = recomputeDistance s.reported.cleared := by
  have steps (u : State) : ((((((u.onCallout fun c => { c with own := [], relay := [], recent := [] }).onClaims
      fun c => { c with own := [], view := [] }).onGroup
      fun g => { g with retained := false, holds := [], guestMark := false, hostMark := none, repeatMs := 0 }).onMotion
      fun m => { m with seizePeriod := none }).onSegs
      fun t => { t with records := t.records.map fun r => { r with guest := none } }).onChannel Channel.off) =
      u.cleared := rfl
  rw [← steps, State.reported, enterOffline]
  rfl

/-- What the reports of the entry to OFFLINE leave as it was. -/
@[simp] theorem reported_frame (s : State) :
    s.reported.pending = s.pending ∧ s.reported.station = s.station.left ∧ s.reported.segs = s.segs ∧
    s.reported.odo = s.odo ∧ s.reported.motion = s.motion ∧ s.reported.group = s.group ∧
    s.reported.dosing = s.dosing ∧ s.reported.host.reply = s.host.reply := by
  simp [State.reported]

/-- What an operation keeps that keeps everything but the law of the air, and of the table laws the event queue's: the
chain of the reports runs through states that are OFFLINE already and not yet off the air. -/
structure KeepsRecords (s t : State) : Prop where
  owned : Owned s t
  sampled : Sampled s t
  events : s.host.events.length ≤ 32 → t.host.events.length ≤ 32

theorem KeepsRecords.trans {s t u : State} (h : KeepsRecords s t) (k : KeepsRecords t u) : KeepsRecords s u :=
  ⟨h.owned.trans k.owned, h.sampled.trans k.sampled, k.events ∘ h.events⟩

theorem post_keepsRecords (e : Event) (s : State) : KeepsRecords s (post e s) :=
  ⟨(post_keeps e s).owned, (post_keeps e s).sampled, fun h => by rw [post_eq]; exact joinRecords_length _ _ _ h⟩

theorem endCallout_keepsRecords (c : OwnCallout) (o : CalloutOutcome) (w : Option (Nat × Nat)) (s : State) :
    KeepsRecords s (endCallout c o w s) :=
  ⟨(endCallout_keeps c o w s).owned, (endCallout_keeps c o w s).sampled, fun h => (post_keepsRecords _ _).events h⟩

theorem endOwn_keepsRecords (n : Nat) (k : ClaimChange) (w : Option (Nat × Nat)) (s : State) :
    KeepsRecords s (endOwn n k w s) := by
  refine ⟨(endOwn_keeps n k w s).owned, (endOwn_keeps n k w s).sampled, fun h => ?_⟩
  unfold endOwn
  split
  · exact h
  · exact (post_keepsRecords _ _).events (by simpa using h)

theorem foldl_keepsRecords {α : Type} (f : State → α → State) (h : ∀ s x, KeepsRecords s (f s x)) (l : List α)
    (s : State) : KeepsRecords s (l.foldl f s) := by
  induction l generalizing s with
  | nil => exact ⟨.refl s, .refl s, id⟩
  | cons x r ih => exact (h s x).trans (ih _)

theorem reported_keepsRecords (s : State) : KeepsRecords s s.reported := by
  have left : KeepsRecords s (s.onStation Station.left) :=
    ⟨⟨rfl, rfl, rfl, rfl, rfl, rfl, rfl⟩, sampled_of_blocks rfl rfl rfl rfl, id⟩
  unfold State.reported
  exact ((left.trans (post_keepsRecords _ _)).trans
    (foldl_keepsRecords abandonCallout (fun s _ => endCallout_keepsRecords _ _ _ s) _ _)).trans
    (foldl_keepsRecords abandonClaim (fun s _ => endOwn_keepsRecords _ _ _ s) _ _)

/-- Clearing a station without neighbours brings the laws about, given the event queue's and the segment table's. -/
theorem cleared_sound (u : State) (hneighbours : u.station.neighbours = []) :
    KeepsRecords u u.cleared ∧
      (RecordsSound u.segs.records → u.host.events.length ≤ 32 → u.cleared.Tables) ∧
      u.cleared.QueueInOrder ∧ u.cleared.OffTheAir := by
  have hloaded : u.cleared.segs.records.map Segment.loaded = u.segs.records.map Segment.loaded := by
    simp only [State.cleared, List.map_map]; rfl
  refine ⟨⟨⟨rfl, rfl, rfl, rfl, rfl, rfl, rfl⟩, ⟨⟨rfl, rfl, rfl, rfl, rfl⟩, hloaded, nofun, le_rfl⟩, id⟩, fun hr he => ?_,
    ⟨.nil, .nil, nofun, nofun⟩, fun _ => ⟨rfl, rfl, rfl⟩, fun _ => ⟨rfl, rfl, rfl, rfl, rfl, hneighbours, rfl, rfl⟩⟩
  refine ⟨Nat.zero_le _, ?_, recordsSound_of_loaded hloaded hr, ⟨Nat.zero_le _, Nat.zero_le _, .nil, .nil⟩,
    ⟨Nat.zero_le _, .nil⟩, ⟨Nat.zero_le _, Nat.zero_le _, Nat.zero_le _, .nil, .nil, .nil, nofun⟩, he, fun _ => rfl⟩
  show NeighboursSound u.station.neighbours
  rw [hneighbours]
  exact ⟨Nat.zero_le _, .nil⟩

theorem enterOffline_keeps (s : State) : Keeps s (enterOffline s) := by
  obtain ⟨hcleared, htables, horder, hair⟩ := cleared_sound s.reported (by simp [Station.left])
  obtain ⟨howned, hsampled, hevents⟩ := reported_keepsRecords s
  rw [enterOffline_eq]
  refine .trans ⟨howned.trans hcleared.owned, hsampled.trans hcleared.sampled, fun h => ?_, fun _ => horder, fun _ => hair⟩
    (recomputeDistance_keeps _)
  exact htables (by simpa using h.records) (hevents h.events)

theorem settleLeave_keeps (s : State) : Keeps s (settleLeave s) := by
  unfold settleLeave
  split
  · exact enterOffline_keeps s
  · exact .refl s

theorem endOfStep_keeps (s : State) : Keeps s (endOfStep s) := (settleLeave_keeps s).trans (settleFeed_keeps _)

/-! ### Answers -/

/-- A request lost with its transaction keeps everything, and one taken what its meaning keeps (R185, R195). -/
theorem whenTaken_keeps {s : State} {r : Result} (h : Answers r (Keeps s)) : Answers (whenTaken s r) (Keeps s) :=
  answers_whenTaken (nothingTaken_keeps s) h

theorem refuse_keeps (b : Byte) (s : State) : Answers (refuse b s) (Keeps s) := answers_refuse (reply_keeps _ s)

theorem finish_keeps {s t : State} (h : Keeps s t) : Answers (finish t) (Keeps s) :=
  answers_finish (h.trans (endOfStep_keeps t))

theorem finish_ok_keeps {s t : State} (bs : List Byte) (h : Keeps s t) : Answers (finish (ok bs t)) (Keeps s) :=
  finish_keeps (h.trans (ok_keeps bs t))

end Sys2Proof.Machine

/-! ## What commands keep: all that own nothing -/

namespace Sys2Proof.Machine

/-! ### The host port -/

theorem execTransactionAborted_keeps (s : State) : Answers (execTransactionAborted s) (Keeps s) :=
  answers_next (nothingTaken_keeps s)

theorem execUnknownRequest_keeps (code : Nat) (s : State) : Answers (execUnknownRequest code s) (Keeps s) := by
  refine whenTaken_keeps ?_
  split
  · exact answers_next (.refl s)
  · exact refuse_keeps _ s

theorem execReadStatus_keeps (s : State) : Answers (execReadStatus s) (Keeps s) :=
  whenTaken_keeps (answers_next ((ok_keeps _ s).trans
    (onChannel_keeps _ _ (.inl le_rfl) id le_rfl id)))

theorem execTakeEvent_keeps (s : State) : Answers (execTakeEvent s) (Keeps s) := by
  refine whenTaken_keeps ?_
  split
  · exact answers_next (ok_keeps _ s)
  · next r rest h =>
    refine answers_next (.trans (onHost_keeps _ s (fun hlen => ?_) rfl) (ok_keeps _ _))
    rw [h, List.length_cons] at hlen
    exact (Nat.le_succ _).trans hlen

/-! ### Claims -/

theorem execReleaseClaim_keeps (n : Nat) (s : State) : Answers (execReleaseClaim n s) (Keeps s) := by
  refine whenTaken_keeps ?_
  split
  · exact refuse_keeps _ s
  · split
    · exact refuse_keeps _ s
    · split
      · exact finish_ok_keeps _ (endOwn_keeps _ _ _ s)
      · exact finish_ok_keeps _ (updateOwn_keeps _ _ s fun _ => ⟨rfl, rfl, rfl, rfl⟩)
      · split
        · exact refuse_keeps _ s
        · exact finish_ok_keeps _ (releaseHeld_keeps _ s)

theorem execReadClaims_keeps (s : State) : Answers (execReadClaims s) (Keeps s) :=
  whenTaken_keeps (answers_next (ok_keeps _ s))

/-- The gap of another station's frame: a response waits in ACTIVE alone (R10, R19). -/
theorem respond_keepsOn (value : Option Nat) (s : State) : KeepsOn s (respond value s) := by
  have h : ∀ v, (s.station.state ≠ .active → v = none) → KeepsOn s (s.onChannel (Channel.gapBegins v)) := by
    intro v hv
    refine ⟨owned_of_blocks rfl rfl rfl rfl, ⟨(Sampled.refl s).scanner, rfl, (Sampled.refl s).own, le_rfl⟩,
      fun h => { h with queue := h.queue }, id, fun hon h => ?_⟩
    rw [offTheAir_iff] at h ⊢
    obtain ⟨⟨hkeyed, -⟩, htables⟩ := h
    refine ⟨⟨fun hst => ?_, fun hoff => absurd hoff hon⟩, htables⟩
    obtain ⟨hf, -, hs⟩ := hkeyed hst
    exact ⟨hf, hv hst, hs⟩
  refine h _ fun hst => ?_
  simp [State.mayRespond, hst]

theorem inGap_keeps (sender : Nat) (value : Option Nat) (s : State) : Answers (inGap sender value s) (Keeps s) := by
  unfold inGap
  split
  · next h => exact answers_next ((respond_keepsOn _ s).keeps fun _ => (receiverOn_iff s).1 h.1)
  · exact answers_next (.refl s)

theorem execObjection_keeps (sender n i r m : Nat) (s : State) : Answers (execObjection sender n i r m s) (Keeps s) :=
  inGap_keeps _ _ s

/-- The view after a standing claim is sound: the entries it replaces have gone, or a full view has lost one (R82, R89). -/
theorem standingView_sound (now n holder : Nat) (i : Intent) (r : Nat) (view : List ViewEntry)
    (hlen : view.length ≤ 32) (hnodup : (view.map fun v => (v.segment, v.holder)).Nodup) :
    (standingView now n holder i r view).length ≤ 32 ∧
      ((standingView now n holder i r view).map fun v => (v.segment, v.holder)).Nodup := by
  unfold standingView
  set kept := view.filter fun v => !(v.segment == n && (v.holder == holder || conflicts v.intent i)) with hkept
  have hsub : kept.Sublist view := List.filter_sublist
  have hnew : ∀ v ∈ kept, (v.segment, v.holder) ≠ (n, holder) := by
    intro v hv heq
    have hnot := (List.mem_filter.1 hv).2
    obtain ⟨rfl, rfl⟩ := Prod.mk.inj heq
    simp at hnot
  have hadd (m : List ViewEntry) (hm : m.Sublist kept) (hroom : m.length < 32) :
      (m ++ [(⟨n, holder, i, r, now + Config.viewLife⟩ : ViewEntry)]).length ≤ 32 ∧
        ((m ++ [(⟨n, holder, i, r, now + Config.viewLife⟩ : ViewEntry)]).map fun v => (v.segment, v.holder)).Nodup := by
    refine ⟨by simp only [List.length_append, List.length_singleton]; omega, ?_⟩
    rw [List.map_append, List.map_singleton]
    refine (hnodup.sublist ((hm.trans hsub).map _)).append (List.nodup_singleton _) ?_
    rintro k hk hk'
    obtain ⟨v, hv, rfl⟩ := List.mem_map.1 hk
    exact hnew v (hm.subset hv) (by simpa using hk')
  have hklen := hsub.length_le
  dsimp only
  split
  · next hfull =>
    have hne : kept ≠ [] := by
      rintro h
      simp [h, Config.viewCap] at hfull
    have := dropEarliest_length (·.expiry) kept hne
    exact hadd _ (dropEarliest_sublist _ _) (by omega)
  · next hroom =>
    refine hadd _ (.refl _) ?_
    by_cases hknown : (view.any fun v => v.segment == n && v.holder == holder) = true
    · obtain ⟨v, hv, hvk⟩ := List.any_eq_true.1 hknown
      have : kept.length < view.length :=
        List.length_filter_lt_length_iff_exists.2 ⟨v, hv, by simp at hvk; simp [hvk]⟩
      omega
    · simp only [hknown, Config.viewCap] at hroom
      simp at hroom
      omega

theorem meetStanding_keeps (n holder : Nat) (i : Intent) (r : Nat) (s : State) : Keeps s (meetStanding n holder i r s) := by
  unfold meetStanding
  split
  · exact .refl s
  · split
    · split
      · split
        · exact .refl s
        · exact endClaim_keeps _ _ _ s
      · exact endOwn_keeps _ _ _ s
    · exact .refl s

/-- A change of the claim view in a station that is not OFFLINE. -/
theorem onView_keepsOn (view : List ViewEntry) (s : State)
    (hsound : s.claims.Sound → view.length ≤ 32 ∧ (view.map fun v => (v.segment, v.holder)).Nodup) :
    KeepsOn s (s.onClaims fun c => { c with view := view }) := by
  refine ⟨owned_of_blocks rfl rfl rfl rfl, ⟨(Sampled.refl s).scanner, rfl, (Sampled.refl s).own, le_rfl⟩, fun h => ?_, id,
    fun hon h => ?_⟩
  · obtain ⟨hlen, hnodup⟩ := hsound h.claims
    obtain ⟨hown, -, hkeys, -⟩ := h.claims
    exact { h with claims := ⟨hown, hlen, hkeys, hnodup⟩ }
  · rw [offTheAir_iff] at h ⊢
    exact ⟨h.1, fun hoff => absurd hoff hon⟩

theorem hearClaim_keepsOn (sender n i r m v : Nat) (s : State) : KeepsOn s (hearClaim sender n i r m v s) := by
  unfold hearClaim
  split
  · exact (Keeps.refl s).keepsOn
  · split
    · exact (onView_keepsOn _ s fun h => standingView_sound _ _ _ _ _ _ h.2.1 h.2.2.2).trans_keeps
        (meetStanding_keeps _ _ _ _ _)
    · exact (Keeps.refl s).keepsOn

theorem hearClaim_state (sender n i r m v : Nat) (s : State) :
    (hearClaim sender n i r m v s).station.state = s.station.state := by
  unfold hearClaim meetStanding
  (repeat' split) <;> simp

theorem execClaim_keeps (sender n i r m v : Nat) (s : State) : Answers (execClaim sender n i r m v s) (Keeps s) :=
  finish_keeps (receive_keeps _ _ s (hearClaim_keepsOn ..) (hearClaim_state ..))

theorem hearRelease_keeps (sender n : Nat) (s : State) : Keeps s (hearRelease sender n s) := by
  unfold hearRelease
  split
  · exact filterView_keeps _ s
  · exact .refl s

theorem execRelease_keeps (sender n : Nat) (s : State) : Answers (execRelease sender n s) (Keeps s) := by
  refine finish_keeps (receive_keeps _ _ s (hearRelease_keeps ..).keepsOn ?_)
  unfold hearRelease
  split <;> rfl

theorem execRefresh_keeps (n : Nat) (s : State) : Answers (execRefresh n s) (Keeps s) := by
  unfold execRefresh
  dsimp only
  split
  · exact answers_next (.refl s)
  · split
    · exact answers_next (.refl s)
    · next k _ =>
      have offered : Keeps s (updateOwn n (fun x => { x with refreshesOffered := k }) s) :=
        updateOwn_keeps _ _ s fun _ => ⟨rfl, rfl, rfl, rfl⟩
      split
      · exact finish_keeps (.trans (offered.trans (updateOwn_keeps _ _ _ (by exact fun _ => ⟨rfl, rfl, rfl, rfl⟩)))
          (queueFrame_keeps _ _ _))
      · exact answers_next offered

theorem execLapse_keeps (n : Nat) (s : State) : Answers (execLapse n s) (Keeps s) := by
  unfold execLapse
  split
  · exact answers_next (.refl s)
  · split
    · exact finish_keeps (endClaim_keeps _ _ _ s)
    · exact answers_next (.refl s)

theorem execClaimViewExpiry_keeps (n h : Nat) (s : State) : Answers (execClaimViewExpiry n h s) (Keeps s) := by
  unfold execClaimViewExpiry
  split
  · exact answers_next (filterView_keeps _ s)
  · exact answers_next (.refl s)

/-! ### Callouts -/

theorem execRaiseCallout_keeps (u n c d : Nat) (s : State) : Answers (execRaiseCallout u n c d s) (Keeps s) := by
  refine whenTaken_keeps ?_
  split
  · exact refuse_keeps _ s
  · split
    · exact refuse_keeps _ s
    · split
      · exact refuse_keeps _ s
      · exact finish_ok_keeps _ (raise_keeps _ _ _ _ s)

theorem execAcknowledgement_keeps (sender o q c n k h x d : Nat) (s : State) :
    Answers (execAcknowledgement sender o q c n k h x d s) (Keeps s) := inGap_keeps _ _ s

/-- A pair is known where it stands in the relay queue or the recent-relay list (R176). -/
theorem knowsPair_eq_false (s : State) (o n : Nat) (h : s.knowsPair o n = false) :
    (∀ e ∈ s.callout.relay, e.pair ≠ (o, n)) ∧ ∀ p ∈ s.callout.recent, p.pair ≠ (o, n) := by
  simp only [State.knowsPair, Bool.or_eq_false_iff, List.any_eq_false] at h
  exact ⟨fun e he heq => h.1 e he ((RelayEntry.isPair_iff e o n).2 heq),
    fun p hp heq => h.2 p hp ((RecentPair.isPair_iff p o n).2 heq)⟩

/-- A pair that neither list holds joins the relay queue of a ROBOT that is not OFFLINE (R178). -/
theorem addRelay_keeps (e : RelayEntry) (s : State) (hdepot : s.isDepot = false)
    (hroom : s.callout.relay.length < 8) (hrelay : ∀ x ∈ s.callout.relay, x.pair ≠ e.pair)
    (hrecent : ∀ p ∈ s.callout.recent, p.pair ≠ e.pair) (hon : s.station.state ≠ .offline) :
    Keeps s (s.onCallout fun u => { u with relay := u.relay ++ [e] }) := by
  refine ⟨owned_of_blocks rfl rfl rfl rfl, sampled_of_blocks rfl rfl rfl rfl, fun ht => { ht with callout := ?_, noRelay := fun h => ?_ },
    id, id⟩
  · have hs := ht.callout
    rw [Callouts.sound_iff] at hs ⊢
    obtain ⟨hown, -, hlenr, hpairs, hseqs, hnodup, hdisjoint⟩ := hs
    refine ⟨hown, ?_, hlenr, ?_, hseqs, hnodup, fun x hx p hp => ?_⟩
    · simp only [onCallout_callout, List.length_append, List.length_singleton]; omega
    · simp only [onCallout_callout, List.map_append, List.map_singleton]
      refine hpairs.append (List.nodup_singleton _) ?_
      rintro k hk hk'
      obtain ⟨x, hx, rfl⟩ := List.mem_map.1 hk
      exact hrelay x hx (by simpa using hk')
    · rcases List.mem_append.1 hx with hx | hx
      · exact hdisjoint x hx p hp
      · rw [List.mem_singleton.1 hx]; exact (hrecent p hp).symm
  · rcases h with h | h
    · rw [show (s.onCallout _).isDepot = s.isDepot from rfl, hdepot] at h; cases h
    · exact absurd h hon

theorem takeRelay_keeps (o n c seg k h d : Nat) (s : State) (hdepot : s.isDepot = false)
    (hon : s.station.state ≠ .offline) : Keeps s (takeRelay o n c seg k h d s) := by
  unfold takeRelay
  dsimp only
  split
  · exact .refl s
  · next hnot =>
    simp only [not_or, Bool.not_eq_true, not_le] at hnot
    obtain ⟨hunknown, hroom⟩ := hnot
    obtain ⟨hrelay, hrecent⟩ := knowsPair_eq_false s o n hunknown
    exact (addRelay_keeps ⟨o, n, c, seg, k, d, h + 1, 0, .queued⟩ s hdepot hroom hrelay hrecent hon).trans (queueRelay_keeps _ _)

/-- A DEPOT takes a pair once; its relay queue is empty by the table law (R177, R178, R182). -/
theorem takeAtDepot_keeps (sender o n c seg k h x d : Nat) (s : State) (hdepot : s.isDepot = true) :
    Keeps s (takeAtDepot sender o n c seg k h x d s) := by
  unfold takeAtDepot
  split
  · exact .refl s
  · next hnot =>
    have hrecent : ∀ p ∈ s.callout.recent, p.pair ≠ (o, n) := by
      simpa [RecentPair.isPair_iff] using hnot
    refine (post_keeps (.calloutReceived o n c seg k d h sender x) s).trans ?_
    set u := post (.calloutReceived o n c seg k d h sender x) s with hu
    have hcallout : u.callout = s.callout := by simp [hu]
    have hdepotu : u.isDepot = true := by simpa [hu, State.isDepot, State.cfg] using hdepot
    refine ⟨owned_of_blocks rfl rfl rfl rfl, sampled_of_blocks rfl rfl rfl rfl, fun ht => ?_, id, id⟩
    have hnone : u.callout.relay = [] := ht.noRelay (.inl hdepotu)
    exact (addRecent_keeps o n u (by simp [hnone]) (by rwa [hcallout])).lawful.tables ht

end Sys2Proof.Machine

/-! ## What commands keep: the channel controller -/

namespace Sys2Proof.Machine

/-! ### What the receiver does to the channel controller -/

/-- A receiver's change of the channel controller: queue, entry numbers and the frame in flight stay, and a response or
a seize goes on or ends. -/
structure Channel.Receives (f : Channel → Channel) : Prop where
  queue : ∀ c, (f c).queue = c.queue
  nextEntry : ∀ c, (f c).nextEntry = c.nextEntry
  flight : ∀ c, (f c).flight = c.flight
  response : ∀ c, (f c).response = c.response ∨ (f c).response = none
  seize : ∀ c, (f c).seizeLeft = c.seizeLeft ∨ (f c).seizeLeft = 0

theorem Channel.Receives.keepsOn {f : Channel → Channel} (h : Channel.Receives f) (s : State) : KeepsOn s (s.onChannel f) :=
  onChannel_keepsOn f s (h.queue _) (h.nextEntry _) (.inl (by simp only [Channel.flightEntry, h.flight])) (h.response _)
    (h.seize _)

theorem Channel.Receives.comp {f g : Channel → Channel} (h : Channel.Receives f) (k : Channel.Receives g) :
    Channel.Receives fun c => g (f c) where
  queue c := (k.queue _).trans (h.queue c)
  nextEntry c := (k.nextEntry _).trans (h.nextEntry c)
  flight c := (k.flight _).trans (h.flight c)
  response c := (k.response (f c)).elim (fun e => (h.response c).imp e.trans e.trans) .inr
  seize c := (k.seize (f c)).elim (fun e => (h.seize c).imp e.trans e.trans) .inr

theorem Channel.receives_frameOver : Channel.Receives Channel.frameOver :=
  ⟨fun _ => rfl, fun _ => rfl, fun _ => rfl, fun _ => .inr rfl, fun _ => .inl rfl⟩

theorem Channel.receives_addNoise : Channel.Receives Channel.addNoise :=
  ⟨fun _ => rfl, fun _ => rfl, fun _ => rfl, fun _ => .inl rfl, fun _ => .inl rfl⟩

theorem Channel.receives_noise : Channel.Receives fun c => c.frameOver.addNoise :=
  Channel.receives_frameOver.comp Channel.receives_addNoise

theorem Channel.receives_quiet : Channel.Receives Channel.quiet :=
  ⟨fun _ => rfl, fun _ => rfl, fun _ => rfl, fun _ => .inl rfl, fun _ => .inl rfl⟩

theorem Channel.receives_marked : Channel.Receives Channel.marked :=
  ⟨fun c => (marked_frame c).1, fun c => (marked_frame c).2.1, fun c => (marked_frame c).2.2.1, fun c => .inl (by simp),
    fun c => .inl (by simp)⟩

theorem Channel.receives_discarded : Channel.Receives Channel.discarded where
  queue c := by unfold discarded; split <;> rfl
  nextEntry c := by unfold discarded; split <;> rfl
  flight c := by unfold discarded; split <;> rfl
  response c := .inr (by unfold discarded; split <;> rfl)
  seize c := .inl (by unfold discarded; split <;> rfl)

theorem Channel.ran_response (n : Nat) (c : Channel) : (c.ran n).response = c.response ∨ (c.ran n).response = none := by
  unfold Channel.ran
  split
  · exact .inl rfl
  · split
    · split
      · exact .inl rfl
      · exact .inl rfl
    · split
      · exact .inl (by simp)
      · split
        · exact .inr rfl
        · exact .inr rfl

theorem Channel.receives_seizeOver : Channel.Receives Channel.seizeOver :=
  ⟨fun c => (seizeOver_frame c).1, fun c => (seizeOver_frame c).2.1, fun c => (seizeOver_frame c).2.2.1,
    fun c => ran_response c.seizeRunLength { c with seizeLeft := 0 }, fun c => .inr (seizeOver_frame c).2.2.2.2.1⟩

theorem Channel.unheard_response (c : Channel) : c.unheard.response = c.response ∨ c.unheard.response = none := by
  unfold Channel.unheard Channel.markEnds
  dsimp only
  split
  · split
    · exact .inl rfl
    · split
      · exact ran_response _ c
      · exact .inl (by simp)
  · exact .inl rfl

/-- A receiver's command with the receiver on keeps everything. -/
theorem Channel.Receives.keeps {f : Channel → Channel} (h : Channel.Receives f) {s : State} (hon : s.receiverOn = true) :
    Keeps s (s.onChannel f) := (h.keepsOn s).keeps fun _ => (receiverOn_iff s).1 hon

/-! ### What the receiver senses -/

theorem execChannelIdle_keeps (s : State) : Answers (execChannelIdle s) (Keeps s) := by
  unfold execChannelIdle
  split
  · next h => exact answers_next (Channel.receives_quiet.keeps h.1)
  · exact answers_next (.refl s)

theorem execNoise_keeps (s : State) : Answers (execNoise s) (Keeps s) := by
  unfold execNoise
  split
  · next h => exact answers_next (Channel.receives_noise.keeps h)
  · exact answers_next (.refl s)

theorem execFrameDiscarded_keeps (k : DiscardCause) (s : State) : Answers (execFrameDiscarded k s) (Keeps s) := by
  unfold execFrameDiscarded
  split
  · next h => exact answers_next (Channel.receives_noise.keeps h)
  · exact answers_next (.refl s)

theorem execStartMark_keeps (s : State) : Answers (execStartMark s) (Keeps s) := by
  unfold execStartMark
  split
  · exact answers_next (.refl s)
  · next h =>
    have hon : s.receiverOn = true := by simpa using h
    split
    · exact answers_next (Channel.receives_marked.keeps hon)
    · exact answers_next (Channel.receives_noise.keeps hon)

theorem execBreakInIdleCount_keeps (s : State) : Answers (execBreakInIdleCount s) (Keeps s) := by
  unfold execBreakInIdleCount
  split
  · next h =>
    exact answers_next ((onChannel_keepsOn _ s rfl rfl (.inl rfl) (.inl rfl) (.inl rfl)).keeps fun _ =>
      (receiverOn_iff s).1 h.1)
  · exact answers_next (.refl s)

/-- The end of the frame in flight, then what the receiver makes of it. -/
theorem frameReturns_receives_keeps (reported : Bool) {f : Channel → Channel} (h : Channel.Receives f) (s : State)
    (hon : s.OffTheAir → s.station.state ≠ .offline) : Keeps s ((frameReturns reported s).onChannel f) :=
  (frameReturns_keeps reported s).trans_on (h.keepsOn _) (by simp) hon

theorem execSeize_keeps (s : State) : Answers (execSeize s) (Keeps s) := by
  unfold execSeize
  split
  · exact answers_next (.refl s)
  · next h =>
    have hon : s.station.state ≠ .offline := (receiverOn_iff s).1 (by simpa using h)
    have heard : Channel.Receives fun c => { c.frameOver with run := max Config.seizeRun c.run } :=
      ⟨fun _ => rfl, fun _ => rfl, fun _ => rfl, fun _ => .inr rfl, fun _ => .inl rfl⟩
    have seized := (frameReturns_receives_keeps true heard s fun _ => hon).trans
      (post_keeps (.channel .seize (s.channel.seizeLeft != 0)) _)
    dsimp only
    split
    · exact finish_keeps ((seized.trans (onMotion_keeps _ _ ⟨rfl, rfl, rfl, rfl, rfl⟩)).trans (evalCaution_keeps _))
    · exact finish_keeps seized

theorem execJammed_keeps (s : State) : Answers (execJammed s) (Keeps s) := by
  unfold execJammed
  split
  · next h =>
    exact answers_next (((onChannel_keepsOn _ s rfl rfl (.inl rfl) (.inr rfl) (.inl rfl)).keeps fun _ =>
      (receiverOn_iff s).1 h).trans (post_keeps _ _))
  · exact answers_next (.refl s)

theorem execJamCleared_keeps (s : State) : Answers (execJamCleared s) (Keeps s) := by
  unfold execJamCleared
  split
  · next h => exact answers_next ((Channel.receives_quiet.keeps h.2).trans (post_keeps _ _))
  · exact answers_next (.refl s)

theorem execDuplicateStation_keeps (s : State) : Answers (execDuplicateStation s) (Keeps s) := by
  unfold execDuplicateStation
  split
  · next h => exact answers_next ((Channel.receives_frameOver.keeps h).trans (post_keeps _ _))
  · exact answers_next (.refl s)

/-! ### The frame in flight -/

/-- A frame starts in ACTIVE alone, and is the head of the queue (R13). -/
theorem execFrameStart_keeps (s : State) : Answers (execFrameStart s) (Keeps s) := by
  unfold execFrameStart
  split
  · next h =>
    have hactive : s.station.state = .active := by
      simp only [State.mayStartFrame, Bool.and_eq_true, beq_iff_eq] at h
      exact h.1.1.1.1
    split
    · exact answers_next (.refl s)
    · next q rest hq =>
      refine answers_next (onChannel_keeps _ s (.inl le_rfl) (fun ho => ?_) le_rfl fun _ => ?_)
      · obtain ⟨hsorted, hnodup, hlt, -⟩ := ho
        refine ⟨hsorted, hnodup, hlt, ?_⟩
        rintro f ⟨⟩
        exact ⟨q, by simp [hq], rfl⟩
      · exact ⟨fun hst => absurd hactive hst, fun hoff => by rw [hactive] at hoff; cases hoff⟩
  · exact answers_next (.refl s)

/-- A station that has a frame in flight by the law of the air is not OFFLINE. -/
theorem online_of_flight {s : State} {f : Flight} (h : s.channel.flight = some f) (ha : s.OffTheAir) :
    s.station.state ≠ .offline := by
  intro hoff
  have := (ha.1 (by simp [hoff])).1
  simp [h] at this

theorem execArbitrationWon_keeps (s : State) : Answers (execArbitrationWon s) (Keeps s) := by
  unfold execArbitrationWon
  split
  · next f q hf hq =>
    split
    · exact answers_next (.refl s)
    · refine finish_keeps (.trans ?_ (wonNotice_keeps _ _))
      exact (onChannel_keepsOn _ s (by simp) (by simp) (.inl (by simp [Channel.flightEntry, hf])) (.inl (by simp))
        (.inl (by simp))).keeps (online_of_flight hf)
  · exact answers_next (.refl s)

theorem execArbitrationLost_keeps (s : State) : Answers (execArbitrationLost s) (Keeps s) := by
  unfold execArbitrationLost
  split
  · next f hf =>
    split
    · exact answers_next (.refl s)
    · exact finish_keeps (((Channel.receives_marked.keepsOn s).keeps (online_of_flight hf)).trans (frameReturns_keeps _ _))
  · exact answers_next (.refl s)

theorem execCollided_keeps (s : State) : Answers (execCollided s) (Keeps s) := by
  unfold execCollided
  split
  · next h =>
    obtain ⟨f, hf⟩ := Option.isSome_iff_exists.1 h
    exact finish_keeps (frameReturns_receives_keeps true Channel.receives_discarded s (online_of_flight hf))
  · exact answers_next (.refl s)

theorem execResponseFieldSpoiled_keeps (k : SpoilCause) (s : State) :
    Answers (execResponseFieldSpoiled k s) (Keeps s) := by
  unfold execResponseFieldSpoiled
  split
  · exact answers_next (.refl s)
  · next h =>
    have hon : s.receiverOn = true := by simpa using h
    split
    · refine finish_keeps (frameReturns_receives_keeps true ?_ s fun _ => (receiverOn_iff s).1 hon)
      split
      · exact Channel.receives_discarded
      · exact Channel.receives_frameOver
    · refine answers_next (Channel.Receives.keeps ?_ hon)
      split
      · exact Channel.receives_noise
      · exact Channel.receives_frameOver

/-- With nothing in flight, what an unheard frame does at its block puts nothing in flight (R16). -/
theorem withdraw_flight_none (p : Queued → Bool) (s : State) (h : s.channel.flight = none) :
    (withdraw p s).channel.flight = none := by
  simp [withdraw, State.onChannel, Channel.flightIn, h]

theorem endOwn_flight_none (n : Nat) (k : ClaimChange) (w : Option (Nat × Nat)) (s : State)
    (h : s.channel.flight = none) : (endOwn n k w s).channel.flight = none := by
  unfold endOwn
  split
  · exact h
  · simpa using withdraw_flight_none _ _ (by simpa using h)

theorem unheard_flight_none (p : Payload) (s : State) (h : s.channel.flight = none) :
    (unheard true p s).channel.flight = none := by
  unfold unheard
  split
  · unfold claimUnheard
    split
    · exact h
    · split
      · split
        · exact endOwn_flight_none _ _ _ s h
        · exact endOwn_flight_none _ _ _ s h
      · simpa using h
  · split
    · unfold ownCalloutUnheard
      split
      · exact h
      · simpa using h
    · unfold relayUnheard
      split
      · exact h
      · simpa using h
  · exact h

theorem execTxUnheard_keeps (s : State) : Answers (execTxUnheard s) (Keeps s) := by
  unfold execTxUnheard
  split
  · exact answers_next (.refl s)
  · next q hq =>
    have gone := (withdraw_keeps (·.entry == q.entry) s).trans_on
      (onChannel_keepsOn (fun c => { c.unheard with flight := none, unheardCount := min 3 (c.unheardCount + 1) }) _
        (by simp) (by simp) (.inr rfl) (Channel.unheard_response _) (.inl (by simp)))
      (by simp) (online_of_flightFrame hq)
    have told (third : Bool) := gone.trans (unheard_keeps third q.payload _)
    dsimp only
    split
    · next hthird =>
      split
      · exact finish_keeps ((told _).trans (enterOffline_keeps _))
      · split
        · refine finish_keeps ((told _).trans (goSilent_keeps _ ?_))
          rw [hthird]
          exact unheard_flight_none _ _ rfl
        · exact finish_keeps (told _)
    · exact finish_keeps (told _)

theorem execSent_keeps (s : State) : Answers (execSent s) (Keeps s) := finish_keeps (frameSent_keeps _ s)

theorem execSentResponded_keeps (v : Nat) (s : State) : Answers (execSentResponded v s) (Keeps s) := by
  unfold execSentResponded
  split
  · exact answers_next (echoEnds_keeps s)
  · split
    · exact finish_keeps (frameSent_keeps _ s)
    · exact answers_next (.refl s)

theorem execStale_keeps (n : Nat) (s : State) : Answers (execStale n s) (Keeps s) := by
  unfold execStale
  split
  · exact answers_next (.refl s)
  · split
    · exact answers_next (updateQueue_keeps _ _ s (fun _ => rfl) (fun _ => rfl))
    · exact finish_keeps ((withdraw_keeps _ s).trans (unsent_keeps _ _))

theorem execSeizeEnds_keeps (s : State) : Answers (execSeizeEnds s) (Keeps s) := by
  unfold execSeizeEnds
  split
  · next h =>
    refine finish_keeps (frameReturns_receives_keeps true Channel.receives_seizeOver s fun ha hoff => h ?_)
    exact (ha.1 (by simp [hoff])).2.2
  · exact answers_next (.refl s)

end Sys2Proof.Machine

/-! ## What commands keep: callouts, group control and the segment table -/

namespace Sys2Proof.Machine

/-! ### Callouts -/

/-- A frame heard whose meaning keeps everything in a station that is not OFFLINE. -/
theorem receive_keeps_of {sender : Nat} {deliver : State → State} {s : State} (hdeliver : Keeps s (deliver s))
    (hstate : (deliver s).station.state = s.station.state) : Keeps s (receive sender deliver s) :=
  receive_keeps sender deliver s hdeliver.keepsOn hstate

theorem receive_off (sender : Nat) (deliver : State → State) (s : State) (h : s.receiverOn = false) :
    receive sender deliver s = s := by simp [receive, h]

theorem hearCallout_keeps (sender o n c seg k h x d v : Nat) (s : State) (hon : s.station.state ≠ .offline) :
    Keeps s (hearCallout sender o n c seg k h x d v s) := by
  unfold hearCallout
  split
  · split
    · next hdepot => exact takeAtDepot_keeps _ _ _ _ _ _ _ _ _ s hdepot
    · next hdepot => exact takeRelay_keeps _ _ _ _ _ _ _ s (by simpa using hdepot) hon
  · exact .refl s

theorem hearCallout_state (sender o n c seg k h x d v : Nat) (s : State) :
    (hearCallout sender o n c seg k h x d v s).station.state = s.station.state := by
  unfold hearCallout takeAtDepot takeRelay
  dsimp only
  (repeat' split) <;> simp

theorem execCallout_keeps (sender o n c seg k h x d v : Nat) (s : State) :
    Answers (execCallout sender o n c seg k h x d v s) (Keeps s) := by
  refine finish_keeps ?_
  by_cases hon : s.receiverOn = true
  · exact receive_keeps_of (hearCallout_keeps _ _ _ _ _ _ _ _ _ _ s ((receiverOn_iff s).1 hon)) (hearCallout_state ..)
  · rw [receive_off _ _ _ (by simpa using hon)]
    exact .refl s

theorem execCalloutBackoff_keeps (n : Nat) (s : State) : Answers (execCalloutBackoff n s) (Keeps s) := by
  unfold execCalloutBackoff
  split
  · exact answers_next (.refl s)
  · split
    · have queued := updateOwnCallouts_keeps (·.seq == n) (fun x => { x with retry := .queued }) s fun _ => rfl
      exact finish_keeps (queued.trans (queueOwnCallout_keeps _ _))
    · exact answers_next (.refl s)

theorem execRelayBackoff_keeps (o n : Nat) (s : State) : Answers (execRelayBackoff o n s) (Keeps s) := by
  unfold execRelayBackoff
  split
  · exact answers_next (.refl s)
  · split
    · have queued := updateRelay_keeps (·.isPair o n) (fun x => { x with retry := .queued }) s fun _ => rfl
      exact finish_keeps (queued.trans (queueRelay_keeps _ _))
    · exact answers_next (.refl s)

theorem execRecentRelayExpiry_keeps (o n : Nat) (s : State) : Answers (execRecentRelayExpiry o n s) (Keeps s) := by
  refine answers_next (onCallout_keeps _ s (fun h => ?_) id)
  obtain ⟨hown, hrelay, hlen, hpairs, hseqs, hnodup, hdisjoint⟩ := h
  exact ⟨hown, hrelay, (List.length_filter_le _ _).trans hlen, hpairs, hseqs,
    hnodup.sublist (List.filter_sublist.map _), fun e he p hp => hdisjoint e he p (List.mem_of_mem_filter hp)⟩

/-! ### Group control -/

theorem takeGo_keeps (sender : Nat) (s : State) : Keeps s (takeGo sender s) := by
  unfold takeGo
  split
  · exact (enterMoving_keeps _ s).trans (onGroup_same_keeps _ _ rfl)
  · split
    · exact post_keeps _ s
    · exact .refl s
  · split
    · exact post_keeps _ s
    · exact .refl s
  · exact .refl s

theorem execSendGo_keeps (s : State) : Answers (execSendGo s) (Keeps s) := by
  refine whenTaken_keeps ?_
  split
  · exact finish_ok_keeps _ ((queueFrame_keeps _ _ s).trans (takeGo_keeps _ _))
  · exact refuse_keeps _ s

theorem hostHold_keeps (t : HoldType) (r : HoldReason) (s : State) : Keeps s (hostHold t r s) := by
  have marked : Keeps s (s.onGroup fun g => { g with hostMark := some (t, r) }) := onGroup_same_keeps _ s rfl
  unfold hostHold
  dsimp only
  split
  · split
    · exact marked.trans (offerHold_keeps _)
    · exact marked.trans (raiseOwnHold_keeps _)
  · exact marked.trans (raiseOwnHold_keeps _)

theorem execSendHold_keeps (t r : Nat) (s : State) : Answers (execSendHold t r s) (Keeps s) := by
  refine whenTaken_keeps ?_
  split
  · split
    · exact finish_ok_keeps _ (hostHold_keeps _ _ s)
    · exact refuse_keeps _ s
  · exact refuse_keeps _ s

theorem execSendResume_keeps (s : State) : Answers (execSendResume s) (Keeps s) := by
  have unmarked : Keeps s (s.onGroup fun g => { g with hostMark := none }) := onGroup_same_keeps _ s rfl
  refine whenTaken_keeps ?_
  split
  · dsimp only
    split
    · exact finish_ok_keeps _ (unmarked.trans (lowerOwnHold_keeps _ _))
    · exact finish_ok_keeps _ (unmarked.trans (lowerOwnHold_keeps _ _))
    · exact finish_ok_keeps _ (.refl s)
    · exact finish_ok_keeps _ (queueResume_keeps s)
  · exact refuse_keeps _ s

theorem hearHold_keeps (sender g t r : Nat) (s : State) : Keeps s (hearHold sender g t r s) := by
  unfold hearHold
  split
  · split
    · exact receiveHold_keeps _ _ _ s
    · exact .refl s
  · exact .refl s

theorem execHold_keeps (sender g t r : Nat) (s : State) : Answers (execHold sender g t r s) (Keeps s) := by
  refine finish_keeps (receive_keeps_of (hearHold_keeps ..) ?_)
  unfold hearHold
  (repeat' split) <;> simp

theorem hearResume_keeps (sender g : Nat) (s : State) : Keeps s (hearResume sender g s) := by
  unfold hearResume
  split
  · exact removeHold_keeps _ _ s
  · exact .refl s

theorem execResume_keeps (sender g : Nat) (s : State) : Answers (execResume sender g s) (Keeps s) := by
  refine finish_keeps (receive_keeps_of (hearResume_keeps ..) ?_)
  unfold hearResume
  split <;> simp

theorem hearGo_keeps (sender g : Nat) (s : State) : Keeps s (hearGo sender g s) := by
  unfold hearGo
  split
  · exact takeGo_keeps _ s
  · exact .refl s

theorem takeGo_station (sender : Nat) (s : State) : (takeGo sender s).station = s.station := by
  unfold takeGo
  (repeat' split) <;> simp

theorem execGo_keeps (sender g : Nat) (s : State) : Answers (execGo sender g s) (Keeps s) := by
  refine finish_keeps (receive_keeps_of (hearGo_keeps ..) ?_)
  unfold hearGo
  split
  · rw [takeGo_station]
  · rfl

theorem execHoldRepeatInterval_keeps (s : State) : Answers (execHoldRepeatInterval s) (Keeps s) := by
  unfold execHoldRepeatInterval
  split
  · exact finish_keeps ((onGroup_same_keeps _ s rfl).trans (offerHold_keeps _))
  · exact answers_next (.refl s)

theorem execHoldExpiry_keeps (o : Nat) (s : State) : Answers (execHoldExpiry o s) (Keeps s) := by
  unfold execHoldExpiry
  split
  · exact answers_next (.refl s)
  · split
    · exact answers_next (.refl s)
    · split
      · exact finish_keeps (removeHold_keeps _ _ s)
      · exact answers_next (.refl s)

/-! ### The segment table -/

theorem execReadSegment_keeps (n : Nat) (s : State) : Answers (execReadSegment n s) (Keeps s) := by
  refine whenTaken_keeps ?_
  split
  · exact refuse_keeps _ s
  · exact answers_next (ok_keeps _ s)

theorem execReadCells_keeps (n a b : Nat) (s : State) : Answers (execReadCells n a b s) (Keeps s) := by
  refine whenTaken_keeps ?_
  split
  · exact refuse_keeps _ s
  · exact answers_next (ok_keeps _ s)

theorem recomputeNeed_keeps (s : State) : Keeps s (recomputeNeed s) := by
  unfold recomputeNeed
  split
  · exact onDosing_keeps _ s rfl
  · exact .refl s

theorem execReportTemperature_keeps (n : Nat) (t : Int) (s : State) :
    Answers (execReportTemperature n t s) (Keeps s) := by
  refine whenTaken_keeps ?_
  split
  · exact refuse_keeps _ s
  · have reported := updateSegment_keeps n (fun x => { x with reported := some (clampTemp t, s.now) }) s fun _ => rfl
    dsimp only
    split
    · exact finish_ok_keeps _ (reported.trans (recomputeNeed_keeps _))
    · exact finish_ok_keeps _ reported

theorem execMarkSnowfall_keeps (a b c d : Nat) (s : State) : Answers (execMarkSnowfall a b c d s) (Keeps s) := by
  refine whenTaken_keeps ?_
  split
  · exact refuse_keeps _ s
  · split
    · dsimp only
      split
      · exact finish_ok_keeps _ ((fill_keeps _ _ _ _ s).trans (queueFrame_keeps _ _ _))
      · exact finish_ok_keeps _ (fill_keeps _ _ _ _ s)
    · exact refuse_keeps _ s

theorem hearSnowfall_keeps (sender a b c : Nat) (s : State) : Keeps s (hearSnowfall sender a b c s) := by
  unfold hearSnowfall
  split
  · exact fill_keeps _ _ _ _ s
  · exact .refl s

theorem execSnowfall_keeps (sender a b c : Nat) (s : State) : Answers (execSnowfall sender a b c s) (Keeps s) := by
  refine finish_keeps (receive_keeps_of (hearSnowfall_keeps ..) ?_)
  unfold hearSnowfall
  split <;> simp

theorem progressNeighbour_keepsOn (sender d : Nat) (s : State) : KeepsOn s (progressNeighbour sender d s) := by
  unfold progressNeighbour
  split
  · split
    · exact hearNeighbour_keepsOn _ s
    · exact hearNeighbour_keepsOn _ s
  · exact (Keeps.refl s).keepsOn

theorem progressNeighbour_state (sender d : Nat) (s : State) :
    (progressNeighbour sender d s).station.state = s.station.state := by
  unfold progressNeighbour
  (repeat' split) <;> simp

theorem progressCells_keeps (n a b w d : Nat) (s : State) : Keeps s (progressCells n a b w d s) := by
  unfold progressCells
  split
  · split
    · exact updateSegment_keeps _ _ s fun _ => rfl
    · exact .refl s
  · exact .refl s

theorem progressCells_station (n a b w d : Nat) (s : State) : (progressCells n a b w d s).station = s.station := by
  unfold progressCells
  (repeat' split) <;> simp

theorem execProgress_keeps (sender n a b w d x : Nat) (s : State) :
    Answers (execProgress sender n a b w d x s) (Keeps s) :=
  finish_keeps (receive_keeps _ _ s ((progressNeighbour_keepsOn sender x s).trans_keeps (progressCells_keeps ..))
    (by rw [progressCells_station, progressNeighbour_state]))

theorem setGuest_keeps (r : Segment) (g : Option PeerGuest) (src cell : Nat) (e : Bool) (s : State) :
    Keeps s (setGuest r g src cell e s) := by
  have changed := updateSegment_keeps r.number (fun x => { x with guest := g }) s fun _ => rfl
  unfold setGuest
  dsimp only
  split
  · exact changed
  · exact (changed.trans (post_keeps _ _)).trans (evalCaution_keeps _)

theorem hearGuest_keeps (sender n c z : Nat) (s : State) : Keeps s (hearGuest sender n c z s) := by
  unfold hearGuest
  split
  · exact setGuest_keeps _ _ _ _ _ s
  · exact .refl s

theorem setGuest_station (r : Segment) (g : Option PeerGuest) (src cell : Nat) (e : Bool) (s : State) :
    (setGuest r g src cell e s).station = s.station := by
  unfold setGuest
  dsimp only
  split <;> simp

theorem execGuest_keeps (sender n c z : Nat) (s : State) : Answers (execGuest sender n c z s) (Keeps s) := by
  refine finish_keeps (receive_keeps_of (hearGuest_keeps ..) ?_)
  unfold hearGuest
  split
  · rw [setGuest_station]
  · rfl

theorem execGuestStateExpiry_keeps (n : Nat) (s : State) : Answers (execGuestStateExpiry n s) (Keeps s) := by
  unfold execGuestStateExpiry
  split
  · exact answers_next (.refl s)
  · split
    · exact answers_next (.refl s)
    · split
      · exact finish_keeps (setGuest_keeps _ _ _ _ _ s)
      · exact answers_next (.refl s)

end Sys2Proof.Machine

/-! ## What commands keep: motion, odometry and the station's life -/

namespace Sys2Proof.Machine

/-! ### The motion supervisor -/

theorem leaveSegment_keeps (old : Option Nat) (new : Nat) (s : State) : Keeps s (leaveSegment old new s) := by
  unfold leaveSegment
  split
  · split
    · exact .refl s
    · exact endOccupancy_keeps _ s
  · exact .refl s

theorem enterSegment_keeps (r : Segment) (d : Direction) (s : State) : Keeps s (enterSegment r d s) := by
  have opened (x : State) (cell : Nat) : Keeps x
      (evalCaution ((openPass cell x).onMotion fun m => { m with ceiling := min m.ceiling r.speedLimit })) :=
    ((openPass_keeps cell x).trans (onMotion_keeps _ _ ⟨rfl, rfl, rfl, rfl, rfl⟩)).trans (evalCaution_keeps _)
  have entered (cell : Nat) := (((finaliseAndFlush_keeps s).trans (onOdo_keeps (Odo.entered s.cfg r d) _)).trans
    (leaveSegment_keeps s.currentSegment r.number _)).trans (opened _ cell)
  unfold enterSegment
  dsimp only
  split
  · exact (entered _).trans (enterMoving_keeps _ _)
  · exact entered _

theorem execEnterSegment_keeps (n d : Nat) (s : State) : Answers (execEnterSegment n d s) (Keeps s) := by
  refine whenTaken_keeps ?_
  split
  · exact refuse_keeps _ s
  · split
    · split
      · exact refuse_keeps _ s
      · split
        · exact refuse_keeps _ s
        · split
          · exact refuse_keeps _ s
          · exact finish_ok_keeps _ (enterSegment_keeps _ _ s)
    · exact refuse_keeps _ s

theorem execStart_keeps (s : State) : Answers (execStart s) (Keeps s) := by
  refine whenTaken_keeps ?_
  split
  · exact refuse_keeps _ s
  · split
    · split
      · exact refuse_keeps _ s
      · split
        · exact refuse_keeps _ s
        · exact finish_ok_keeps _ (enterMoving_keeps _ s)
    · split
      · exact finish_ok_keeps _ (move_keeps _ _ s)
      · exact answers_next (reply_keeps _ s)
    · exact refuse_keeps _ s

theorem execArmStart_keeps (s : State) : Answers (execArmStart s) (Keeps s) := by
  refine whenTaken_keeps ?_
  split
  · exact refuse_keeps _ s
  · split
    · exact refuse_keeps _ s
    · split
      · exact refuse_keeps _ s
      · split
        · exact refuse_keeps _ s
        · exact finish_ok_keeps _ ((move_keeps _ _ s).trans (onGroup_same_keeps _ _ rfl))

theorem stopRouteState_keeps (s : State) : Keeps s (stopRouteState s) := by
  unfold stopRouteState
  split
  · exact enterStopping_keeps _ _ s
  · exact enterStopping_keeps _ _ s
  · exact onMotion_keeps _ s ⟨rfl, rfl, rfl, rfl, rfl⟩
  · exact move_keeps _ _ s
  · exact move_keeps _ _ s
  · exact .refl s

theorem execStopRoute_keeps (s : State) : Answers (execStopRoute s) (Keeps s) := by
  refine whenTaken_keeps ?_
  split
  · exact finish_ok_keeps _ (((endEntry_keeps s).trans
      (onGroup_same_keeps (fun g => { g with retained := false }) _ rfl)).trans (stopRouteState_keeps _))
  · exact refuse_keeps _ s

theorem execRampStep_keeps (s : State) : Answers (execRampStep s) (Keeps s) :=
  finish_keeps ((onMotion_keeps (fun m => { m with ceiling := rampCeiling s.cfg.accel s.cfg.decel s.target m.ceiling }) s
    ⟨rfl, rfl, rfl, rfl, rfl⟩).trans (checkStopped_keeps _))

theorem raiseGuestBlocked_keeps (s : State) : Keeps s (raiseGuestBlocked s) :=
  (onMotion_keeps (fun m => { m with guestBlockedRaised := true }) s ⟨rfl, rfl, rfl, rfl, rfl⟩).trans (raiseHere_keeps _ _ _)

theorem execGuestBlocked_keeps (s : State) : Answers (execGuestBlocked s) (Keeps s) := by
  have timed : Keeps s (s.onMotion fun m => { m with guestBlockedMs := max m.guestBlockedMs Config.guestBlockedLimit }) :=
    onMotion_keeps _ s ⟨rfl, rfl, rfl, rfl, rfl⟩
  unfold execGuestBlocked
  dsimp only
  split
  · split
    · exact finish_keeps (timed.trans (raiseGuestBlocked_keeps _))
    · exact answers_next timed
  · exact answers_next (.refl s)

theorem execNoticeInterval_keeps (s : State) : Answers (execNoticeInterval s) (Keeps s) := by
  unfold execNoticeInterval
  split
  · exact answers_next (.refl s)
  · exact finish_keeps ((onMotion_keeps (fun m => { m with noticeMs := 0 }) s ⟨rfl, rfl, rfl, rfl, rfl⟩).trans
      (offerNotice_keeps _))

theorem execSeizeCautionPeriod_keeps (s : State) : Answers (execSeizeCautionPeriod s) (Keeps s) := by
  unfold execSeizeCautionPeriod
  split
  · exact finish_keeps ((onMotion_keeps (fun m => { m with seizePeriod := none }) s ⟨rfl, rfl, rfl, rfl, rfl⟩).trans
      (evalCaution_keeps _))
  · exact answers_next (.refl s)

/-! ### The odometry unit -/

theorem chargeCount_keeps (blade : Bool) (s : State) : Keeps s (chargeCount blade s) := onSegs_same_keeps _ s rfl

theorem crossCell_keeps (e : Entry) (cell : Nat) (s : State) : Keeps s (crossCell e cell s) :=
  ((finalise_keeps s).trans (onOdo_keeps (fun o => { o with entry := some { e with cell := cell } }) _)).trans
    (openPass_keeps _ _)

theorem completeSegment_keeps (e : Entry) (cell : Nat) (s : State) : Keeps s (completeSegment e cell s) := by
  have done := ((onOdo_keeps (fun o => { o with entry := some { e with cell := cell, done := true } }) s).trans
    (finaliseAndFlush_keeps _)).trans (openPass_keeps cell _)
  unfold completeSegment
  dsimp only
  split
  · exact (done.trans (post_keeps _ _)).trans (enterStopping_keeps _ _ _)
  · exact done.trans (post_keeps _ _)

theorem countOnSegment_keeps (e : Entry) (blade : Bool) (s : State) : Keeps s (countOnSegment e blade s) := by
  have crossed (cell : Nat) : Keeps s (if cell = e.cell then s else crossCell e cell s) := by
    split
    · exact .refl s
    · exact crossCell_keeps _ _ s
  unfold countOnSegment
  dsimp only
  refine .trans ?_ (chargeCount_keeps _ _)
  split
  · exact (crossed _).trans (completeSegment_keeps _ _ _)
  · exact crossed _

theorem execWheelCount_keeps (e : Edge) (b : Bool) (s : State) : Answers (execWheelCount e b s) (Keeps s) := by
  have sensed : Keeps s (s.onOdo (Odo.sensed e b)) := onOdo_keeps _ s
  unfold execWheelCount
  dsimp only
  split
  · have counted := sensed.trans (onOdo_keeps (Odo.counted (edgeCount s.cfg.decodeMode e)) _)
    split
    · exact answers_next counted
    · exact finish_keeps (counted.trans (countOnSegment_keeps _ _ _))
  · exact answers_next sensed

theorem execDecodeError_keeps (s : State) : Answers (execDecodeError s) (Keeps s) := by
  unfold execDecodeError
  dsimp only
  split
  · have counted := onOdo_keeps
      (fun o => { o with lineA := !o.lineA, lineB := !o.lineB, errors := min 255 (o.errors + 1) }) s
    split
    · exact finish_keeps (((counted.trans
        (onOdo_keeps (fun o => { o with fault := true, faultFresh := true, faultWindows := 0 }) _)).trans
        (faultStop_keeps _ _)).trans (raiseHere_keeps _ _ _))
    · exact answers_next counted
  · exact answers_next (onOdo_keeps _ s)

/-! ### The station's life -/

/-- A station enters another state than OFFLINE, or leaves OFFLINE, with nothing keyed. -/
theorem execJoin_keeps (s : State) : Answers (execJoin s) (Keeps s) := by
  refine whenTaken_keeps ?_
  split
  · next h =>
    obtain ⟨hoff, -⟩ := h
    refine answers_next (.trans (.trans ?_ (post_keeps _ _)) (ok_keeps _ _))
    refine ⟨⟨rfl, rfl, rfl, rfl, rfl, rfl, rfl⟩, ⟨(Sampled.refl s).scanner, rfl, (Sampled.refl s).own, le_rfl⟩,
      fun ht => { ht with queue := ht.queue, noRelay := fun _ => ht.noRelay (.inr hoff) }, id, fun ha => ?_⟩
    rw [offTheAir_iff] at ha ⊢
    obtain ⟨⟨hkeyed, -⟩, -⟩ := ha
    exact ⟨⟨fun _ => hkeyed (by simp [hoff]), nofun⟩, nofun⟩
  · exact refuse_keeps _ s

theorem execListenDone_keeps (s : State) : Answers (execListenDone s) (Keeps s) := by
  unfold execListenDone
  split
  · refine finish_keeps (.trans (.trans ?_ (post_keeps _ _)) (queueFrame_keeps _ _ _))
    exact ⟨⟨rfl, rfl, rfl, rfl, rfl, rfl, rfl⟩, sampled_of_blocks rfl rfl rfl rfl,
      fun ht => { ht with noRelay := fun k => ht.noRelay (k.imp id nofun) }, id,
      fun _ => ⟨fun h => absurd rfl h, nofun⟩⟩
  · exact answers_next (.refl s)

theorem execPresenceInterval_keeps (s : State) : Answers (execPresenceInterval s) (Keeps s) := by
  unfold execPresenceInterval
  split
  · exact finish_keeps ((onStation_keeps (fun t => { t with presenceMs := 0 }) s ⟨rfl, rfl, rfl, rfl, rfl, rfl, rfl⟩
      rfl rfl).trans (offerFrame_keeps _ _ _ _))
  · exact answers_next (.refl s)

theorem hearPresence_keepsOn (sender c d m g : Nat) (s : State) : KeepsOn s (hearPresence sender c d m g s) := by
  unfold hearPresence
  split
  · exact (Keeps.refl s).keepsOn
  · split
    · exact hearNeighbour_keepsOn _ s
    · exact (Keeps.refl s).keepsOn

theorem execPresence_keeps (sender c d m g : Nat) (s : State) : Answers (execPresence sender c d m g s) (Keeps s) := by
  refine finish_keeps (receive_keeps _ _ s (hearPresence_keepsOn ..) ?_)
  unfold hearPresence
  (repeat' split) <;> simp

theorem execNeighbourLost_keeps (n : Nat) (s : State) : Answers (execNeighbourLost n s) (Keeps s) := by
  unfold execNeighbourLost
  split
  · next h =>
    have removed := onNeighbours_keepsOn (s.station.neighbours.filter fun x => !(x.station == n)) s fun hs =>
      ⟨(List.length_filter_le _ _).trans hs.1, hs.2.sublist (List.filter_sublist.map _)⟩
    refine answers_next (.trans (.trans (removed.keeps fun ha hoff => ?_) (post_keeps _ _)) (recomputeDistance_keeps _))
    obtain ⟨-, -, -, -, -, hnone, -⟩ := ha.2 hoff
    simp [hnone] at h
  · exact answers_next (.refl s)

theorem endRoute_keeps (send : Bool) (s : State) : Keeps s (endRoute send s) := by
  have ended (x : State) : Keeps x (move .idle .leave ((endEntry x).onMotion fun m => { m with ceiling := 0 })) :=
    ((endEntry_keeps x).trans (onMotion_keeps _ _ ⟨rfl, rfl, rfl, rfl, rfl⟩)).trans (move_keeps _ _ _)
  unfold endRoute
  dsimp only
  split
  · split
    · exact (releaseGuestHold_keeps _ s).trans (ended _)
    · exact ended s
  · exact .refl s

theorem clearHostMark_keeps (send : Bool) (s : State) : Keeps s (clearHostMark send s) := by
  unfold clearHostMark
  split
  · exact (onGroup_same_keeps (fun g => { g with hostMark := none }) s rfl).trans (lowerOwnHold_keeps _ _)
  · exact .refl s

theorem leaveClaim_keeps (s : State) (r : OwnClaim) : Keeps s (leaveClaim s r) := by
  unfold leaveClaim
  split
  · dsimp only
    split
    · exact (releaseHeld_keeps _ s).trans (onStation_keeps _ _ ⟨rfl, rfl, rfl, rfl, rfl, rfl, rfl⟩ rfl rfl)
    · exact releaseHeld_keeps _ s
  · exact endOwn_keeps _ _ _ s

theorem execLeave_keeps (s : State) : Answers (execLeave s) (Keeps s) := by
  have left : Keeps s (enterOffline (clearHostMark false (endRoute false s))) :=
    ((endRoute_keeps _ s).trans (clearHostMark_keeps _ _)).trans (enterOffline_keeps _)
  refine whenTaken_keeps ?_
  split
  · exact refuse_keeps _ s
  · split
    · exact answers_next (ok_keeps _ s)
    · have marked := onStation_keeps
        (fun t => { t with leavePending := true, leaveMs := 0, leaveFrames := [], presenceMs := 0 }) s
        ⟨rfl, rfl, rfl, rfl, rfl, rfl, rfl⟩ rfl rfl
      exact finish_ok_keeps _ (((marked.trans (endRoute_keeps true _)).trans (clearHostMark_keeps true _)).trans
        (foldl_keeps _ leaveClaim_keeps _ _))
  · exact finish_ok_keeps _ left

theorem execLeaveComplete_keeps (s : State) : Answers (execLeaveComplete s) (Keeps s) := by
  unfold execLeaveComplete
  split
  · exact finish_keeps (enterOffline_keeps s)
  · exact answers_next (.refl s)

end Sys2Proof.Machine

/-! ## What commands keep: those that own a value -/

namespace Sys2Proof.Machine

/-- Changes of the scanner's latch and samples with everything else kept (R121, R122). -/
structure Scans (s t : State) : Prop where
  owned : Owned s t
  history : t.motion.history = s.motion.history
  loaded : t.segs.records.map Segment.loaded = s.segs.records.map Segment.loaded
  own : ∀ r ∈ t.claims.own, ∃ x ∈ s.claims.own, SameClaim x r
  nextEntry : s.channel.nextEntry ≤ t.channel.nextEntry
  lawful : Lawful s t

theorem Keeps.scans {s t : State} (h : Keeps s t) : Scans s t :=
  ⟨h.owned, h.sampled.scanner.1, h.sampled.loaded, h.sampled.own, h.sampled.nextEntry, h.lawful⟩

theorem Scans.refl (s : State) : Scans s s := (Keeps.refl s).scans

theorem Scans.trans {s t u : State} (h : Scans s t) (k : Scans t u) : Scans s u :=
  ⟨h.owned.trans k.owned, k.history.trans h.history, k.loaded.trans h.loaded,
    fun r hr =>
      have ⟨y, hy, hyr⟩ := k.own r hr
      have ⟨x, hx, hxy⟩ := h.own y hy
      ⟨x, hx, hxy.trans hyr⟩,
    h.nextEntry.trans k.nextEntry, h.lawful.trans k.lawful⟩

theorem onMotion_scans (f : Motion → Motion) (s : State) (hhistory : (f s.motion).history = s.motion.history) :
    Scans s (s.onMotion f) :=
  ⟨owned_of_blocks rfl rfl rfl rfl, hhistory, rfl, (Sampled.refl s).own, le_rfl, onMotion_lawful f s⟩

/-- The state with a configuration record taken, before what follows from it (R35). -/
def State.reconfigured (c : Configuration) (s : State) : State :=
  (((s.onStation fun t => { t with config := c, configValid := true }).onMotion (Motion.configured c.cls)).onOdo
    (Odo.configured c.cls)).onDosing fun d => { d with pulsesNow := 0 }

/-- The state with a new own claim, QUEUED, its frame to come (R75). -/
def State.claiming (n : Nat) (i : Intent) (urgency rank : Nat) (s : State) : State :=
  s.onClaims fun c => { c with own := c.own ++ [⟨n, i, urgency, rank, .queued, .new, none, false, 0⟩] }

/-- The change that a command makes to values it owns, before what every operation may do (R27, R35, R37, R44, R71,
R107, R121, R162). -/
inductive Owns : Instr → State → State → Prop
  | nothing (c s) : Owns c s s
  | clock (s) : Owns .workClockTick s (s.onStation fun t => { t with clock := min Config.maxWord32 (t.clock + 1) })
  | record (f c s) (h : s.station.state = .offline) : Owns (.configure f) s (s.reconfigured c)
  | beacon (n s) : Owns (.setBeacon n) s (s.onStation fun t => { t with config := { t.config with workBeacon := n } })
  | stock (n x l s) : Owns (.loadStock n) s (s.onDosing fun d => { d with stock := x, low := l })
  | pulse (f s) : Owns .feedPulse s (s.onDosing f)
  | sample (s) : Owns .speedSample s (s.onMotion fun m => { m with history := pushHistory m.ceiling m.history })
  | scan (w p s t) (h : Scans s t) : Owns (.scannerSample w p) s t
  | latch (s) : Owns .guestCleared s (s.onMotion fun m => { m with latch := false, restartMs := 0 })
  | claim (n i j u v r s) (hactive : s.station.state = .active) (hnew : s.ownClaim? n = none)
      (hroom : s.claims.own.length < 4) : Owns (.requestClaim n i u) s (s.claiming n j v r)
  | load (f s) (h : (s.segment? f.segment).isSome ∨ s.segs.records.length < 96) :
      Owns (.loadSegment f) s (s.onSegs fun t => { t with records := insertSegment (loadedRecord f) t.records })
  | clear (s) : Owns .clearSegments s (s.onSegs fun t => { t with records := [] })

/-- What a command other than a reset does: first with what it owns, then as every operation may. -/
def Does (c : Instr) (s t : State) : Prop := ∃ u, Owns c s u ∧ Keeps u t

theorem Keeps.does {c : Instr} {s t : State} (h : Keeps s t) : Does c s t := ⟨s, .nothing c s, h⟩

theorem Owns.does {c : Instr} {s t : State} (h : Owns c s t) : Does c s t := ⟨t, h, .refl t⟩

theorem Answers.does {c : Instr} {s : State} {r : Result} (h : Answers r (Keeps s)) : Answers r (Does c s) :=
  h.mono fun _ => Keeps.does

theorem whenTaken_does {c : Instr} {s : State} {r : Result} (h : Answers r (Does c s)) :
    Answers (whenTaken s r) (Does c s) :=
  answers_whenTaken (nothingTaken_keeps s).does h

theorem finish_does {c : Instr} {s t : State} (h : Does c s t) : Answers (finish t) (Does c s) := by
  obtain ⟨u, hu, ht⟩ := h
  exact answers_finish ⟨u, hu, ht.trans (endOfStep_keeps t)⟩

theorem finish_ok_does {c : Instr} {s t : State} (bs : List Byte) (h : Does c s t) :
    Answers (finish (ok bs t)) (Does c s) := by
  obtain ⟨u, hu, ht⟩ := h
  exact finish_does ⟨u, hu, ht.trans (ok_keeps bs t)⟩

/-! ### One lemma per owner -/

theorem execConfigure_does (f : ConfigureFields) (s : State) : Answers (execConfigure f s) (Does (.configure f) s) := by
  refine whenTaken_does ?_
  split
  · exact (refuse_keeps _ s).does
  · next hoff =>
    split
    · exact answers_next (reply_keeps _ s).does
    · exact finish_ok_does _ ⟨_, .record f (configureRecord f) s (by simpa using hoff),
        (recomputeDistance_keeps _).trans (zoneChanged_keeps _ _)⟩

theorem execSetBeacon_does (n : Nat) (s : State) : Answers (execSetBeacon n s) (Does (.setBeacon n) s) := by
  refine whenTaken_does ?_
  split
  · exact answers_next ⟨_, .beacon n s, ok_keeps _ _⟩
  · exact (refuse_keeps _ s).does

theorem execLoadStock_does (n : Nat) (s : State) : Answers (execLoadStock n s) (Does (.loadStock n) s) := by
  refine whenTaken_does (finish_ok_does _ ?_)
  have loaded : Keeps (s.onDosing fun d => { d with stock := min 4000000 n * 1000, low := false }) _ :=
    post_keeps (.stock .loaded (min 4000000 n * 1000)) _
  split
  · exact ⟨_, .stock n _ false s, (loaded.trans (lowTest_keeps _)).trans (emptyTest_keeps _ _)⟩
  · exact ⟨_, .stock n _ false s, loaded⟩

theorem execFeedPulse_does (s : State) : Answers (execFeedPulse s) (Does .feedPulse s) := by
  unfold execFeedPulse
  split
  · refine finish_does ⟨_, .pulse _ s, .trans (.trans (onSegs_same_keeps _ _ ?_) (lowTest_keeps _)) (emptyTest_keeps _ _)⟩
    rfl
  · exact answers_next (Keeps.refl s).does

theorem testOverspeed_keeps (s : State) : Keeps s (testOverspeed s) := by
  unfold testOverspeed
  split
  · exact .refl s
  · split
    · split
      · exact onMotion_keeps _ s ⟨rfl, rfl, rfl, rfl, rfl⟩
      · exact faultStop_keeps _ s
    · exact onMotion_keeps _ s ⟨rfl, rfl, rfl, rfl, rfl⟩

theorem testStuck_keeps (s : State) : Keeps s (testStuck s) := by
  unfold testStuck
  split
  · split
    · exact (faultStop_keeps _ s).trans (raiseHere_keeps _ _ _)
    · exact onMotion_keeps _ s ⟨rfl, rfl, rfl, rfl, rfl⟩
  · exact onMotion_keeps _ s ⟨rfl, rfl, rfl, rfl, rfl⟩

theorem followSpeed_keeps (s : State) : Keeps s (followSpeed s) := by
  unfold followSpeed
  split
  · exact onDosing_keeps _ s rfl
  · exact .refl s

/-- History and odometry change apart from each other: the order does not matter. -/
theorem execSpeedSample_does (s : State) : Answers (execSpeedSample s) (Does .speedSample s) := by
  refine finish_does ⟨_, .sample s, ?_⟩
  exact (((onOdo_keeps (Odo.sampled s.decoderRuns s.cfg) _).trans (testOverspeed_keeps _)).trans
    (testStuck_keeps _)).trans ((checkStopped_keeps _).trans (followSpeed_keeps _))

theorem sampleWarn_scans (active : Bool) (s : State) : Scans s (sampleWarn active s) := by
  have counted (n : Nat) (w : Bool) : Scans s (s.onMotion fun m =>
      { m with warnCounter := n, warning := w, restartMs := if active then 0 else m.restartMs }) :=
    onMotion_scans _ s rfl
  unfold sampleWarn
  dsimp only
  split
  · exact counted _ _
  · exact (counted _ _).trans ((zoneChanged_keeps _ _).trans (evalCaution_keeps _)).scans

theorem guestStopped_keeps (s : State) : Keeps s (guestStopped s) := by
  have stopped := move_keeps .guestStop .guest s
  unfold guestStopped
  dsimp only
  split
  · exact ((stopped.trans (onMotion_keeps (fun m => { m with holdSent := true }) _ ⟨rfl, rfl, rfl, rfl, rfl⟩)).trans
      (onGroup_same_keeps (fun g => { g with guestMark := true }) _ rfl)).trans (raiseOwnHold_keeps _)
  · exact stopped

theorem setLatch_scans (s : State) : Scans s (setLatch s) := by
  have latched : Scans s (zoneChanged s.zone (s.onMotion fun m => { m with latch := true })) :=
    (onMotion_scans (fun m => { m with latch := true }) s rfl).trans (zoneChanged_keeps _ _).scans
  unfold setLatch
  dsimp only
  split
  · exact latched.trans (guestStopped_keeps _).scans
  · exact latched.trans (guestStopped_keeps _).scans
  · exact latched.trans (guestStopped_keeps _).scans
  · exact latched.trans (guestStopped_keeps _).scans
  · exact latched

/-- A PROT_FIELD sample before a GUEST_BLOCKED that is due. -/
theorem protTaken_scans (active : Bool) (s x : State) (h : Scans s x) : Scans s
    (if active ∧ !s.motion.lastProt then
      if (requestSeize x).motion.latch then requestSeize x else setLatch (requestSeize x)
    else x) := by
  have asked := h.trans (requestSeize_keeps x).scans
  split
  · split
    · exact asked
    · exact asked.trans (setLatch_scans _)
  · exact h

/-- A GUEST_BLOCKED that is due is raised while PROT_FIELD is active (R125). -/
theorem blockedRaised_scans (active : Bool) (s x : State) (h : Scans s x) :
    Scans s (if active ∧ x.guestBlockedDue then raiseGuestBlocked x else x) := by
  split
  · exact h.trans (raiseGuestBlocked_keeps _).scans
  · exact h

theorem sampleProt_scans (active : Bool) (s : State) : Scans s (sampleProt active s) :=
  blockedRaised_scans active s _ (protTaken_scans active s _ (onMotion_scans
    (fun m => { m with lastProt := active, restartMs := if active then 0 else m.restartMs }) s rfl))

theorem execScannerSample_does (w p : Bool) (s : State) :
    Answers (execScannerSample w p s) (Does (.scannerSample w p) s) := by
  have lines : Scans s (s.onMotion fun m => { m with warnLine := w, protLine := p }) := onMotion_scans _ s rfl
  unfold execScannerSample
  dsimp only
  split
  · exact finish_does (Owns.scan w p s _ ((lines.trans (sampleWarn_scans _ _)).trans (sampleProt_scans _ _))).does
  · exact answers_next (Owns.scan w p s _ lines).does

theorem execGuestCleared_does (s : State) : Answers (execGuestCleared s) (Does .guestCleared s) := by
  unfold execGuestCleared
  split
  · have cleared : Keeps (s.onMotion fun m => { m with latch := false, restartMs := 0 }) _ := zoneChanged_keeps s.zone _
    have done {t : State} (h : Keeps _ t) : Answers (finish t) (Does .guestCleared s) := finish_does ⟨_, .latch s, h⟩
    have released := cleared.trans (releaseGuestHold_keeps true _)
    dsimp only
    split
    · split
      · exact done (released.trans (move_keeps _ _ _))
      · split
        · exact done (released.trans (move_keeps _ _ _))
        · exact done (released.trans (enterMoving_keeps _ _))
    · exact done cleared
  · exact answers_next (Keeps.refl s).does

theorem execRequestClaim_does (n i u : Nat) (s : State) :
    Answers (execRequestClaim n i u s) (Does (.requestClaim n i u) s) := by
  refine whenTaken_does ?_
  split
  · exact (refuse_keeps _ s).does
  · next hworking =>
    have hactive : s.station.state = .active := by
      simp only [State.working, Bool.not_eq_true', Bool.not_eq_false, Bool.and_eq_true, beq_iff_eq] at hworking
      exact hworking.1
    split
    · split
      · exact answers_next (reply_keeps _ s).does
      · next hnone =>
        split
        · exact (refuse_keeps _ s).does
        · next hroom =>
          dsimp only
          split
          · exact answers_next ((((onDeferrals_keeps (fun d => min 255 (d + 1)) s).trans (post_keeps _ _)).trans
              (ok_keeps _ _)).does)
          · exact finish_ok_does _ ⟨_, .claim n i _ u _ _ s hactive hnone (by simpa [Config.ownClaimCap] using hroom),
              queueFrame_keeps _ _ _⟩
    · exact (refuse_keeps _ s).does

theorem execLoadSegment_does (f : LoadFields) (s : State) : Answers (execLoadSegment f s) (Does (.loadSegment f) s) := by
  refine whenTaken_does ?_
  split
  · exact (refuse_keeps _ s).does
  · split
    · exact answers_next (reply_keeps _ s).does
    · split
      · exact (refuse_keeps _ s).does
      · next h =>
        refine finish_ok_does _ (Owns.load f s ?_).does
        rw [not_and_or, Config.segmentCap, not_le] at h
        exact h.imp (by simp [Option.isSome_iff_ne_none, Option.isNone_iff_eq_none]) id

theorem execClearSegments_does (s : State) : Answers (execClearSegments s) (Does .clearSegments s) := by
  refine whenTaken_does ?_
  split
  · exact (refuse_keeps _ s).does
  · exact finish_ok_does _ (Owns.clear s).does

end Sys2Proof.Machine

/-! ## Every command answers, and does what its owner and every operation may do -/

namespace Sys2Proof.Machine

theorem exec_does (c : Instr) (s : State) (h : isReset c = false) : Answers (exec c s) (Does c s) := by
  cases c with
  | powerOn => cases h
  | resetN => cases h
  | transactionAborted => exact (execTransactionAborted_keeps s).does
  | unknownRequest _ => exact (execUnknownRequest_keeps _ s).does
  | readStatus => exact (execReadStatus_keeps s).does
  | takeEvent => exact (execTakeEvent_keeps s).does
  | configure _ => exact execConfigure_does _ s
  | loadSegment _ => exact execLoadSegment_does _ s
  | clearSegments => exact execClearSegments_does s
  | join => exact (execJoin_keeps s).does
  | leave => exact (execLeave_keeps s).does
  | restart => cases h
  | readSegment _ => exact (execReadSegment_keeps _ s).does
  | readCells _ _ _ => exact (execReadCells_keeps _ _ _ s).does
  | reportTemperature _ _ => exact (execReportTemperature_keeps _ _ s).does
  | markSnowfall _ _ _ _ => exact (execMarkSnowfall_keeps _ _ _ _ s).does
  | requestClaim _ _ _ => exact execRequestClaim_does _ _ _ s
  | releaseClaim _ => exact (execReleaseClaim_keeps _ s).does
  | readClaims => exact (execReadClaims_keeps s).does
  | enterSegment _ _ => exact (execEnterSegment_keeps _ _ s).does
  | start => exact (execStart_keeps s).does
  | armStart => exact (execArmStart_keeps s).does
  | stopRoute => exact (execStopRoute_keeps s).does
  | sendGo => exact (execSendGo_keeps s).does
  | sendHold _ _ => exact (execSendHold_keeps _ _ s).does
  | sendResume => exact (execSendResume_keeps s).does
  | setBeacon _ => exact execSetBeacon_does _ s
  | loadStock _ => exact execLoadStock_does _ s
  | raiseCallout _ _ _ _ => exact (execRaiseCallout_keeps _ _ _ _ s).does
  | workClockTick => exact answers_next (Owns.clock s).does
  | channelIdle => exact (execChannelIdle_keeps s).does
  | noise => exact (execNoise_keeps s).does
  | frameDiscarded k => exact (execFrameDiscarded_keeps k s).does
  | seize => exact (execSeize_keeps s).does
  | jammed => exact (execJammed_keeps s).does
  | jamCleared => exact (execJamCleared_keeps s).does
  | duplicateStation => exact (execDuplicateStation_keeps s).does
  | frameStart => exact (execFrameStart_keeps s).does
  | arbitrationWon => exact (execArbitrationWon_keeps s).does
  | arbitrationLost => exact (execArbitrationLost_keeps s).does
  | collided => exact (execCollided_keeps s).does
  | responseFieldSpoiled _ => exact (execResponseFieldSpoiled_keeps _ s).does
  | txUnheard => exact (execTxUnheard_keeps s).does
  | sent => exact (execSent_keeps s).does
  | sentResponded _ => exact (execSentResponded_keeps _ s).does
  | stale _ => exact (execStale_keeps _ s).does
  | objection _ _ _ _ _ => exact (execObjection_keeps _ _ _ _ _ s).does
  | acknowledgement _ _ _ _ _ _ _ _ d => exact (execAcknowledgement_keeps _ _ _ _ _ _ _ _ d s).does
  | presence _ _ _ _ _ => exact (execPresence_keeps _ _ _ _ _ s).does
  | claim _ _ _ _ _ _ => exact (execClaim_keeps _ _ _ _ _ _ s).does
  | release _ _ => exact (execRelease_keeps _ _ s).does
  | progress _ _ _ _ _ _ _ => exact (execProgress_keeps _ _ _ _ _ _ _ s).does
  | guest _ _ _ _ => exact (execGuest_keeps _ _ _ _ s).does
  | hold _ _ _ _ => exact (execHold_keeps _ _ _ _ s).does
  | resume _ _ => exact (execResume_keeps _ _ s).does
  | go _ _ => exact (execGo_keeps _ _ s).does
  | callout _ _ _ _ _ _ _ _ _ _ => exact (execCallout_keeps _ _ _ _ _ _ _ _ _ _ s).does
  | snowfall _ _ _ _ => exact (execSnowfall_keeps _ _ _ _ s).does
  | listenDone => exact (execListenDone_keeps s).does
  | presenceInterval => exact (execPresenceInterval_keeps s).does
  | neighbourLost _ => exact (execNeighbourLost_keeps _ s).does
  | leaveComplete => exact (execLeaveComplete_keeps s).does
  | refresh _ => exact (execRefresh_keeps _ s).does
  | lapse _ => exact (execLapse_keeps _ s).does
  | claimViewExpiry _ _ => exact (execClaimViewExpiry_keeps _ _ s).does
  | guestStateExpiry _ => exact (execGuestStateExpiry_keeps _ s).does
  | wheelCount _ _ => exact (execWheelCount_keeps _ _ s).does
  | decodeError => exact (execDecodeError_keeps s).does
  | speedSample => exact execSpeedSample_does s
  | rampStep => exact (execRampStep_keeps s).does
  | scannerSample _ _ => exact execScannerSample_does _ _ s
  | guestCleared => exact execGuestCleared_does s
  | guestBlocked => exact (execGuestBlocked_keeps s).does
  | noticeInterval => exact (execNoticeInterval_keeps s).does
  | seizeCautionPeriod => exact (execSeizeCautionPeriod_keeps s).does
  | holdRepeatInterval => exact (execHoldRepeatInterval_keeps s).does
  | holdExpiry _ => exact (execHoldExpiry_keeps _ s).does
  | feedPulse => exact execFeedPulse_does s
  | calloutBackoff _ => exact (execCalloutBackoff_keeps _ s).does
  | relayBackoff _ _ => exact (execRelayBackoff_keeps _ _ s).does
  | recentRelayExpiry _ _ => exact (execRecentRelayExpiry_keeps _ _ s).does
  | startMark => exact (execStartMark_keeps s).does
  | breakInIdleCount => exact (execBreakInIdleCount_keeps s).does
  | seizeEnds => exact (execSeizeEnds_keeps s).does

theorem execRestart_answers (s : State) : Answers (execRestart s) fun t =>
    t = nothingTaken s ∨ t = ok [] (post (.stationState .restart s.station.state .offline) s.restarted) :=
  answers_whenTaken (.inl rfl) (answers_next (.inr rfl))

/-- Settles O3: a reset answers by its definition, every other command by what it keeps. -/
theorem everyCommandAnswersANextState : Obligations.EveryCommandAnswersANextState := by
  intro c s
  have answered {P : State → Prop} {r : Result} (h : Answers r P) : ∃ t, r = .next t := ⟨_, h.choose_spec.1⟩
  by_cases h : isReset c = true
  · cases c with
    | powerOn => exact ⟨_, rfl⟩
    | resetN => exact ⟨_, rfl⟩
    | restart => exact answered (execRestart_answers s)
    | _ => cases h
  · exact answered (exec_does c s (by simpa using h))

/-- A command that is no reset does what `Does` says. -/
theorem does_of_exec {c : Instr} {s t : State} (h : isReset c = false) (ht : exec c s = .next t) : Does c s t :=
  (exec_does c s h).of_eq ht

/-! ### Owned values (O4) -/

/-- What O4 says of a command other than a reset. -/
structure OwnersAlone (c : Instr) (s t : State) : Prop where
  pending : t.pending = s.pending
  clock : c ≠ .workClockTick → t.station.clock = s.station.clock
  resetCause : t.station.resetCause = s.station.resetCause
  record : (∀ f, c ≠ .configure f) → t.station.configValid = s.station.configValid ∧
    t.station.config = { s.station.config with workBeacon := t.station.config.workBeacon } ∧
    ((∀ b, c ≠ .setBeacon b) → t.station.config = s.station.config)
  stock : c ≠ .feedPulse → (∀ g, c ≠ .loadStock g) → t.dosing.stock = s.dosing.stock
  transaction : t.host.transaction = s.host.transaction

/-- Where all the owned values are as they were the owners are respected. -/
theorem Owned.alone {s t : State} (c : Instr) (h : Owned s t) : OwnersAlone c s t := by
  obtain ⟨hpending, hclock, hcause, hvalid, hconfig, hstock, htransaction⟩ := h
  exact ⟨hpending, fun _ => hclock, hcause, fun _ => ⟨hvalid, by rw [hconfig], fun _ => hconfig⟩, fun _ _ => hstock,
    htransaction⟩

theorem Owns.alone {c : Instr} {s u : State} (h : Owns c s u) : OwnersAlone c s u := by
  have kept {u : State} (h : Owned s u) : OwnersAlone c s u := h.alone c
  cases h with
  | nothing => exact kept (.refl s)
  | clock => exact ⟨rfl, fun hc => absurd rfl hc, rfl, fun _ => ⟨rfl, rfl, fun _ => rfl⟩, fun _ _ => rfl, rfl⟩
  | record f => exact ⟨rfl, fun _ => rfl, rfl, fun hc => absurd rfl (hc f), fun _ _ => rfl, rfl⟩
  | beacon n =>
    exact ⟨rfl, fun _ => rfl, rfl, fun _ => ⟨rfl, rfl, fun hc => absurd rfl (hc n)⟩, fun _ _ => rfl, rfl⟩
  | stock n => exact ⟨rfl, fun _ => rfl, rfl, fun _ => ⟨rfl, rfl, fun _ => rfl⟩, fun _ hc => absurd rfl (hc n), rfl⟩
  | pulse => exact ⟨rfl, fun _ => rfl, rfl, fun _ => ⟨rfl, rfl, fun _ => rfl⟩, fun hc => absurd rfl hc, rfl⟩
  | sample => exact kept (owned_of_blocks rfl rfl rfl rfl)
  | scan _ _ _ _ hscan => exact kept hscan.owned
  | latch => exact kept (owned_of_blocks rfl rfl rfl rfl)
  | claim => exact kept (owned_of_blocks rfl rfl rfl rfl)
  | load => exact kept (owned_of_blocks rfl rfl rfl rfl)
  | clear => exact kept (owned_of_blocks rfl rfl rfl rfl)

theorem OwnersAlone.trans_owned {c : Instr} {s u t : State} (h : OwnersAlone c s u) (k : Owned u t) :
    OwnersAlone c s t := by
  obtain ⟨hpending, hclock, hcause, hrecord, hstock, htransaction⟩ := h
  refine ⟨k.pending.trans hpending, fun hc => k.clock.trans (hclock hc), k.resetCause.trans hcause, fun hc => ?_,
    fun hf hg => k.stock.trans (hstock hf hg), k.transaction.trans htransaction⟩
  rw [k.configValid, k.config]
  exact hrecord hc

theorem Does.alone {c : Instr} {s t : State} (h : Does c s t) : OwnersAlone c s t := by
  obtain ⟨u, hu, ht⟩ := h
  exact hu.alone.trans_owned ht.owned

/-- A RESTART keeps the record, the stock and the transaction that carries it (R33, R166, R194). -/
theorem restart_alone (s t : State) (h : execRestart s = .next t) :
    t.pending = s.pending ∧ t.station.configValid = s.station.configValid ∧ t.station.config = s.station.config ∧
      t.dosing.stock = s.dosing.stock ∧ t.host.transaction = s.host.transaction := by
  rcases (execRestart_answers s).of_eq h with rfl | rfl
  · exact ⟨rfl, rfl, rfl, rfl, rfl⟩
  · refine ⟨by simp [State.restarted], by simp [State.restarted, Station.restarted],
      by simp [State.restarted, Station.restarted], by simp [State.restarted, Dosing.restarted], ?_⟩
    rw [((post_keeps _ _).trans (ok_keeps _ _)).owned.transaction]
    rfl

/-- Settles O4: resets apart, by what each owner changes and every operation keeps. -/
theorem ownersAloneChangeClockRecordAndStock : Obligations.OwnersAloneChangeClockRecordAndStock := by
  intro c s t ht
  cases hreset : isReset c with
  | false =>
    obtain ⟨hpending, hclock, hcause, hrecord, hstock, htransaction⟩ := (does_of_exec hreset ht).alone
    exact ⟨hpending, fun hc _ => hclock hc, fun _ => hcause, fun _ _ => hrecord, fun _ _ => hstock, fun _ _ => htransaction⟩
  | true =>
    refine (?_ : t.pending = s.pending ∧ _).imp_right fun h => ⟨fun _ hc => (nomatch hc), fun hc => (nomatch hc), h⟩
    cases c with
    | powerOn =>
      cases ht
      exact ⟨rfl, fun hc => absurd rfl hc, fun hc => absurd rfl hc, fun hc => absurd rfl hc⟩
    | resetN =>
      cases ht
      exact ⟨rfl, fun _ hc => absurd rfl hc, fun _ hc => absurd rfl hc, fun _ hc => absurd rfl hc⟩
    | restart =>
      obtain ⟨hpending, hvalid, hconfig, hstock, htransaction⟩ := restart_alone s t ht
      exact ⟨hpending, fun _ _ _ => ⟨hvalid, by rw [hconfig], fun _ => hconfig⟩, fun _ _ _ _ => hstock,
        fun _ _ => htransaction⟩
    | _ => cases hreset

end Sys2Proof.Machine

/-! ## The laws of tables, queue and channel (O6, O7, O9) -/

namespace Sys2Proof.Machine

/-! ### A loaded record in its place (R44, R45) -/

theorem mem_insertSegment {r x : Segment} {l : List Segment} (h : x ∈ insertSegment r l) : x = r ∨ x ∈ l := by
  induction l with
  | nil => exact .inl (List.mem_singleton.1 h)
  | cons y l ih =>
    unfold insertSegment at h
    split at h
    · rcases List.mem_cons.1 h with rfl | h
      · exact .inr (by simp)
      · exact (ih h).imp id (List.mem_cons_of_mem _)
    · split at h
      · exact (List.mem_cons.1 h).imp id (List.mem_cons_of_mem _)
      · exact List.mem_cons.1 h

theorem insertSegment_sorted (r : Segment) (l : List Segment) (h : l.Pairwise fun a b => a.number < b.number) :
    (insertSegment r l).Pairwise fun a b => a.number < b.number := by
  induction l with
  | nil => simp [insertSegment]
  | cons y l ih =>
    obtain ⟨hy, hl⟩ := List.pairwise_cons.1 h
    unfold insertSegment
    split
    · next hlt =>
      refine List.pairwise_cons.2 ⟨fun x hx => ?_, ih hl⟩
      rcases mem_insertSegment hx with rfl | hx
      · exact hlt
      · exact hy x hx
    · split
      · next heq => exact List.pairwise_cons.2 ⟨fun x hx => heq ▸ hy x hx, hl⟩
      · next hlt hne =>
        have hr : r.number < y.number := by omega
        refine List.pairwise_cons.2 ⟨fun x hx => ?_, h⟩
        rcases List.mem_cons.1 hx with rfl | hx
        · exact hr
        · exact hr.trans (hy x hx)

theorem insertSegment_length (r : Segment) (l : List Segment) : (insertSegment r l).length ≤ l.length + 1 := by
  induction l with
  | nil => simp [insertSegment]
  | cons y l ih =>
    unfold insertSegment
    split
    · simpa using ih
    · split <;> simp

/-- A record of the same number is replaced, so that the table does not grow (R45). -/
theorem insertSegment_length_of_known (r : Segment) (l : List Segment) (hsorted : l.Pairwise fun a b => a.number < b.number)
    (hknown : ∃ x ∈ l, x.number = r.number) : (insertSegment r l).length = l.length := by
  induction l with
  | nil => simp at hknown
  | cons y l ih =>
    obtain ⟨hy, hl⟩ := List.pairwise_cons.1 hsorted
    obtain ⟨x, hx, hxr⟩ := hknown
    unfold insertSegment
    rcases List.mem_cons.1 hx with rfl | hx
    · simp [hxr]
    · have hlt : y.number < r.number := hxr ▸ hy x hx
      simp [hlt, ih hl ⟨x, hx, hxr⟩]

/-! ### Owners keep the laws -/

/-- A change of station fields other than state and neighbours, of dosing and of odometry is none of the laws'. -/
theorem lawful_of_tables {s t : State} (hqueue : t.channel = s.channel) (hstate : t.station.state = s.station.state)
    (hneighbours : t.station.neighbours = s.station.neighbours) (hown : t.claims = s.claims)
    (htables : s.Tables → t.Tables) : Lawful s t := by
  refine ⟨htables, fun h => ?_, fun h => ?_⟩
  · rw [queueInOrder_iff, hqueue]; exact h
  · rw [offTheAir_iff] at h ⊢
    rwa [hqueue, hstate, hneighbours, hown]

theorem ownClaim_none_iff (s : State) (n : Nat) : s.ownClaim? n = none ↔ ∀ r ∈ s.claims.own, r.segment ≠ n := by
  simp [State.ownClaim?]

theorem segment_isSome_iff (s : State) (n : Nat) : (s.segment? n).isSome ↔ ∃ r ∈ s.segs.records, r.number = n := by
  simp [State.segment?]

theorem Owns.lawful {c : Instr} {s u : State} (h : Owns c s u) : Lawful s u := by
  cases h with
  | nothing => exact .refl s
  | clock => exact lawful_of_tables rfl rfl rfl rfl fun h => { h with }
  | record f c _ hoff => exact lawful_of_tables rfl rfl rfl rfl fun h => { h with noRelay := fun _ => h.noRelay (.inr hoff) }
  | beacon => exact lawful_of_tables rfl rfl rfl rfl fun h => { h with }
  | stock => exact onDosing_lawful _ s
  | pulse => exact onDosing_lawful _ s
  | sample => exact onMotion_lawful _ s
  | scan _ _ _ _ hscan => exact hscan.lawful
  | latch => exact onMotion_lawful _ s
  | claim n i j u v r _ hactive hnew hroom =>
    have hnot : s.station.state ≠ .offline := by simp [hactive]
    refine onClaims_lawful _ s (fun h => ?_) (fun hoff => absurd hoff hnot) (fun hoff => absurd hoff hnot)
    obtain ⟨-, hview, hnodup, hviewNodup⟩ := h
    refine ⟨by simpa using hroom, hview, ?_, hviewNodup⟩
    rw [List.map_append, List.map_singleton]
    refine hnodup.append (List.nodup_singleton _) ?_
    rintro k hk hk'
    obtain ⟨x, hx, rfl⟩ := List.mem_map.1 hk
    exact (ownClaim_none_iff s n).1 hnew x hx (by simpa using hk')
  | load f _ hroom =>
    refine lawful_of_tables rfl rfl rfl rfl fun h => { h with records := ?_ }
    obtain ⟨hlen, hsorted⟩ := h.records
    refine ⟨?_, insertSegment_sorted _ _ hsorted⟩
    rcases hroom with hknown | hroom
    · exact (insertSegment_length_of_known _ _ hsorted ((segment_isSome_iff s _).1 hknown)).trans_le hlen
    · exact (insertSegment_length _ _).trans hroom
  | clear => exact lawful_of_tables rfl rfl rfl rfl fun h => { h with records := ⟨Nat.zero_le _, .nil⟩ }

theorem Does.lawful {c : Instr} {s t : State} (h : Does c s t) : Lawful s t := by
  obtain ⟨u, hu, ht⟩ := h
  exact hu.lawful.trans ht.lawful

/-! ### Resets and time keep the laws -/

theorem afterReset_lawful (s u : State) (h : u = s.afterReset ∨ u = s.afterReset.onStation fun t => { t with resetCause := .resetLine }) :
    Lawful s u := by
  have hempty : s.afterReset.Tables ∧ s.afterReset.QueueInOrder ∧ s.afterReset.OffTheAir := by
    obtain ⟨hbounded, hkeyed, -⟩ := resetSatisfiesTheLaws
    exact ⟨(tables_iff _).2 ⟨hbounded, hkeyed⟩, ⟨.nil, .nil, nofun, nofun⟩, fun _ => ⟨rfl, rfl, rfl⟩,
      fun _ => ⟨rfl, rfl, rfl, rfl, rfl, rfl, rfl, rfl⟩⟩
  obtain ⟨htables, horder, hair⟩ := hempty
  rcases h with rfl | rfl
  · exact ⟨fun _ => htables, fun _ => horder, fun _ => hair⟩
  · exact ⟨fun _ => { htables with }, fun _ => horder, fun _ => hair⟩

theorem restarted_lawful (s : State) : Lawful s s.restarted := by
  have hloaded : s.restarted.segs.records.map Segment.loaded = s.segs.records.map Segment.loaded := by
    simp only [State.restarted, Segments.restarted, List.map_map]; rfl
  refine ⟨fun h => ?_, fun _ => ⟨.nil, .nil, nofun, nofun⟩, fun _ =>
    ⟨fun _ => ⟨rfl, rfl, rfl⟩, fun _ => ⟨rfl, rfl, rfl, rfl, rfl, rfl, rfl, rfl⟩⟩⟩
  exact ⟨Nat.zero_le _, ⟨Nat.zero_le _, .nil⟩, recordsSound_of_loaded hloaded h.records,
    ⟨Nat.zero_le _, Nat.zero_le _, .nil, .nil⟩, ⟨Nat.zero_le _, .nil⟩,
    ⟨Nat.zero_le _, Nat.zero_le _, Nat.zero_le _, .nil, .nil, .nil, nofun⟩, Nat.zero_le _, fun _ => rfl⟩

theorem exec_lawful {c : Instr} {s t : State} (ht : exec c s = .next t) : Lawful s t := by
  cases hreset : isReset c with
  | false => exact (does_of_exec hreset ht).lawful
  | true =>
    cases c with
    | powerOn => cases ht; exact afterReset_lawful s _ (.inl rfl)
    | resetN => cases ht; exact afterReset_lawful s _ (.inr rfl)
    | restart =>
      rcases (execRestart_answers s).of_eq ht with rfl | rfl
      · exact (nothingTaken_keeps s).lawful
      · exact (restarted_lawful s).trans ((post_keeps _ _).trans (ok_keeps _ _)).lawful
    | _ => cases hreset

theorem Channel.markEnds_frame (n : Nat) (c : Channel) :
    (c.markEnds n).nextEntry = c.nextEntry ∧ (c.markEnds n).flight = c.flight ∧
      ((c.markEnds n).response = c.response ∨ (c.markEnds n).response = none) := by
  unfold Channel.markEnds
  split
  · exact ⟨rfl, rfl, .inl rfl⟩
  · split
    · exact ⟨by simp, by simp, ran_response _ c⟩
    · exact ⟨by simp, by simp, .inl (by simp)⟩

/-- Four symbols leave entry numbers and flight, and put no response value on the channel (R10). -/
theorem Channel.advance_frame (c : Channel) :
    c.advance.nextEntry = c.nextEntry ∧ c.advance.flight = c.flight ∧
      (c.advance.response = c.response ∨ c.advance.response = none) := by
  unfold Channel.advance
  split
  · split
    · dsimp only
      split
      · exact ⟨by simp, by simp, .inl (by simp)⟩
      · exact ⟨rfl, rfl, .inl rfl⟩
    · split
      · exact ⟨rfl, rfl, .inl rfl⟩
      · dsimp only
        split
        · exact ⟨rfl, rfl, .inl rfl⟩
        · exact markEnds_frame _ c
  · exact ⟨rfl, rfl, .inl rfl⟩
  · split
    · dsimp only
      split
      · exact ⟨rfl, rfl, .inl rfl⟩
      · exact ⟨rfl, rfl, .inl rfl⟩
    · exact ⟨rfl, rfl, .inl rfl⟩
  · exact ⟨rfl, rfl, .inl rfl⟩
  · exact ⟨rfl, rfl, .inl rfl⟩
  · exact ⟨rfl, rfl, .inl rfl⟩

theorem Channel.seizedTo_frame (n : Nat) (c : Channel) :
    (c.seizedTo n).nextEntry = c.nextEntry ∧ (c.seizedTo n).flight = c.flight ∧
      ((c.seizedTo n).response = c.response ∨ (c.seizedTo n).response = none) := by
  unfold Channel.seizedTo
  split
  · exact ⟨rfl, rfl, .inl rfl⟩
  · exact ⟨rfl, rfl, .inr rfl⟩

theorem tickChannel_frame (on : Bool) (c : Channel) :
    (tickChannel on c).nextEntry = c.nextEntry ∧ (tickChannel on c).flight = c.flight ∧
      ((tickChannel on c).response = c.response ∨ (tickChannel on c).response = none) := by
  unfold tickChannel
  dsimp only
  split
  · exact Channel.advance_frame c
  · exact Channel.seizedTo_frame _ c

theorem tickMs_tables (s : State) (h : s.Tables) : (tickMs s).Tables := by
  refine ⟨by simpa [tickMs, tickChannel_queue] using h.queue, h.neighbours, h.records, h.claims, h.group, ?_, h.events,
    fun k => by simpa [tickMs] using h.noRelay k⟩
  obtain ⟨hown, hrelay, hrecent, hpairs, hseqs, hnodup, hdisjoint⟩ := h.callout
  refine ⟨by simpa [tickMs] using hown, by simpa [tickMs] using hrelay, hrecent, ?_, ?_, hnodup, ?_⟩
  · simpa [tickMs, Function.comp_def] using hpairs
  · simpa [tickMs, Function.comp_def] using hseqs
  · simpa [tickMs] using hdisjoint

/-- A receiver that is off takes no symbol (R10). -/
theorem tickChannel_off (c : Channel) (hoff : c.assembler = .off) (hseize : c.seizeLeft = 0) :
    (tickChannel false c).condition = c.condition ∧ (tickChannel false c).idleCount = c.idleCount ∧
      (tickChannel false c).assembler = c.assembler ∧ (tickChannel false c).echo = c.echo := by
  simp [tickChannel, hseize, Channel.advance, hoff]

theorem tickMs_lawful (s : State) : Lawful s (tickMs s) := by
  obtain ⟨hnext, hflight, hresponse⟩ := tickChannel_frame s.receiverOn s.channel
  refine ⟨tickMs_tables s, fun h => ?_, fun h => ?_⟩
  · exact Channel.InOrder.map (c := s.channel) (fun q => { q with age := q.age + 1 }) h (tickChannel_queue _ _) hnext
      (by simp only [Channel.flightEntry, tickMs, hflight]) (fun _ => rfl) (fun _ => rfl)
  · obtain ⟨hkeyed, hoffline⟩ := h
    refine ⟨fun hst => ?_, fun hst => ?_⟩
    · obtain ⟨hf, hr, hs⟩ := hkeyed hst
      exact ⟨hflight.trans hf, hresponse.elim (·.trans hr) id, by simp [tickMs, tickChannel, hs]⟩
    · have hst : s.station.state = .offline := hst
      obtain ⟨hqueue, hcondition, hidle, hassembler, hecho, htables⟩ := hoffline hst
      obtain ⟨-, -, hseize⟩ := hkeyed (by simp [hst])
      have hrx : s.receiverOn = false := by simp [State.receiverOn, hst]
      obtain ⟨hc, hi, ha, he⟩ := tickChannel_off s.channel hassembler hseize
      simp only [tickMs, hrx]
      exact ⟨by simp [tickChannel_queue, hqueue], hc.trans hcondition, hi.trans hidle, ha.trans hassembler,
        he.trans hecho, htables⟩

theorem setPending_lawful (p : List Instr) (s : State) : Lawful s (s.setPending p) := ⟨fun h => { h with }, id, id⟩

theorem idle_lawful (s : State) : Lawful s (idle s) := by
  unfold idle
  split
  · exact setPending_lawful _ s
  · exact (tickMs_lawful s).trans (setPending_lawful _ _)

/-- Every step keeps the laws about tables, queue and channel. -/
theorem step_lawful {s t : State} (h : step s = .next t) : Lawful s t := by
  unfold step at h
  split at h
  · cases h
    exact idle_lawful s
  · exact (setPending_lawful _ s).trans (exec_lawful h)

/-- Settles O6. -/
theorem everyStepKeepsTheTables : Obligations.EveryStepKeepsTheTables := by
  intro s t hbounded hkeyed ht
  exact (tables_iff t).1 ((step_lawful ht).tables ((tables_iff s).2 ⟨hbounded, hkeyed⟩))

/-- Settles O7. -/
theorem everyStepKeepsTheQueueInOrder : Obligations.EveryStepKeepsTheQueueInOrder :=
  fun _ _ horder ht => (step_lawful ht).inOrder horder

/-- Settles O9. -/
theorem everyStepKeepsOfflineOffTheAir : Obligations.EveryStepKeepsOfflineOffTheAir :=
  fun _ _ hair ht => (step_lawful ht).offTheAir hair

end Sys2Proof.Machine

/-! ## What the operations of single commands leave as it was -/

namespace Sys2Proof.Machine

/-- What `denyAtOnce` leaves as it was. -/
@[simp] theorem denyAtOnce_frame (n : Nat) (i : Intent) (r : Nat) (v : ViewEntry) (s : State) :
    (denyAtOnce n i r v s).pending = s.pending ∧
    (denyAtOnce n i r v s).station = s.station ∧
    (denyAtOnce n i r v s).channel = s.channel ∧
    (denyAtOnce n i r v s).segs = s.segs ∧
    (denyAtOnce n i r v s).odo = s.odo ∧
    (denyAtOnce n i r v s).motion = s.motion ∧
    (denyAtOnce n i r v s).group = s.group ∧
    (denyAtOnce n i r v s).dosing = s.dosing ∧
    (denyAtOnce n i r v s).callout = s.callout ∧
    (denyAtOnce n i r v s).host.reply = s.host.reply := by
  unfold denyAtOnce
  simp

/-- What `newClaim` leaves as it was. -/
@[simp] theorem newClaim_frame (n : Nat) (i : Intent) (u r : Nat) (s : State) :
    (newClaim n i u r s).pending = s.pending ∧
    (newClaim n i u r s).station = s.station ∧
    (newClaim n i u r s).segs = s.segs ∧
    (newClaim n i u r s).odo = s.odo ∧
    (newClaim n i u r s).motion = s.motion ∧
    (newClaim n i u r s).group = s.group ∧
    (newClaim n i u r s).dosing = s.dosing ∧
    (newClaim n i u r s).host.reply = s.host.reply := by
  unfold newClaim
  simp

/-- What `meetStanding` leaves as it was. -/
@[simp] theorem meetStanding_frame (n h : Nat) (i : Intent) (r : Nat) (s : State) :
    (meetStanding n h i r s).pending = s.pending ∧
    (meetStanding n h i r s).station = s.station ∧
    (meetStanding n h i r s).segs = s.segs ∧
    (meetStanding n h i r s).odo = s.odo ∧
    (meetStanding n h i r s).dosing = s.dosing ∧
    (meetStanding n h i r s).host.reply = s.host.reply := by
  unfold meetStanding
  (repeat' split) <;> simp

/-- What `hearClaim` leaves as it was. -/
@[simp] theorem hearClaim_frame (o n i r m v : Nat) (s : State) :
    (hearClaim o n i r m v s).pending = s.pending ∧
    (hearClaim o n i r m v s).station = s.station ∧
    (hearClaim o n i r m v s).segs = s.segs ∧
    (hearClaim o n i r m v s).odo = s.odo ∧
    (hearClaim o n i r m v s).dosing = s.dosing ∧
    (hearClaim o n i r m v s).host.reply = s.host.reply := by
  unfold hearClaim
  (repeat' split) <;> simp

/-- What `hearRelease` leaves as it was. -/
@[simp] theorem hearRelease_frame (o n : Nat) (s : State) :
    (hearRelease o n s).pending = s.pending ∧
    (hearRelease o n s).station = s.station ∧
    (hearRelease o n s).channel = s.channel ∧
    (hearRelease o n s).segs = s.segs ∧
    (hearRelease o n s).odo = s.odo ∧
    (hearRelease o n s).motion = s.motion ∧
    (hearRelease o n s).group = s.group ∧
    (hearRelease o n s).dosing = s.dosing ∧
    (hearRelease o n s).callout = s.callout ∧
    (hearRelease o n s).host.reply = s.host.reply := by
  unfold hearRelease
  split
  · exact ⟨rfl, rfl, rfl, rfl, rfl, rfl, rfl, rfl, rfl, rfl⟩
  · exact ⟨rfl, rfl, rfl, rfl, rfl, rfl, rfl, rfl, rfl, rfl⟩

/-- What `takeRelay` leaves as it was. -/
@[simp] theorem takeRelay_frame (o n c g k h d : Nat) (s : State) :
    (takeRelay o n c g k h d s).pending = s.pending ∧
    (takeRelay o n c g k h d s).station = s.station ∧
    (takeRelay o n c g k h d s).segs = s.segs ∧
    (takeRelay o n c g k h d s).odo = s.odo ∧
    (takeRelay o n c g k h d s).motion = s.motion ∧
    (takeRelay o n c g k h d s).group = s.group ∧
    (takeRelay o n c g k h d s).dosing = s.dosing ∧
    (takeRelay o n c g k h d s).host.reply = s.host.reply := by
  unfold takeRelay
  dsimp only
  (repeat' split) <;> simp

/-- What `takeAtDepot` leaves as it was. -/
@[simp] theorem takeAtDepot_frame (w o n c g k h x d : Nat) (s : State) :
    (takeAtDepot w o n c g k h x d s).pending = s.pending ∧
    (takeAtDepot w o n c g k h x d s).station = s.station ∧
    (takeAtDepot w o n c g k h x d s).channel = s.channel ∧
    (takeAtDepot w o n c g k h x d s).segs = s.segs ∧
    (takeAtDepot w o n c g k h x d s).claims = s.claims ∧
    (takeAtDepot w o n c g k h x d s).odo = s.odo ∧
    (takeAtDepot w o n c g k h x d s).motion = s.motion ∧
    (takeAtDepot w o n c g k h x d s).group = s.group ∧
    (takeAtDepot w o n c g k h x d s).dosing = s.dosing ∧
    (takeAtDepot w o n c g k h x d s).host.reply = s.host.reply := by
  unfold takeAtDepot
  (repeat' split) <;> simp

/-- What `hearCallout` leaves as it was. -/
@[simp] theorem hearCallout_frame (w o n c g k h x d v : Nat) (s : State) :
    (hearCallout w o n c g k h x d v s).pending = s.pending ∧
    (hearCallout w o n c g k h x d v s).station = s.station ∧
    (hearCallout w o n c g k h x d v s).segs = s.segs ∧
    (hearCallout w o n c g k h x d v s).odo = s.odo ∧
    (hearCallout w o n c g k h x d v s).motion = s.motion ∧
    (hearCallout w o n c g k h x d v s).group = s.group ∧
    (hearCallout w o n c g k h x d v s).dosing = s.dosing ∧
    (hearCallout w o n c g k h x d v s).host.reply = s.host.reply := by
  unfold hearCallout
  (repeat' split) <;> simp

/-- What `takeGo` leaves as it was. -/
@[simp] theorem takeGo_frame (o : Nat) (s : State) :
    (takeGo o s).pending = s.pending ∧
    (takeGo o s).station = s.station ∧
    (takeGo o s).segs = s.segs ∧
    (takeGo o s).odo = s.odo ∧
    (takeGo o s).dosing = s.dosing ∧
    (takeGo o s).callout = s.callout ∧
    (takeGo o s).host.reply = s.host.reply := by
  unfold takeGo
  (repeat' split) <;> simp

/-- What `hostHold` leaves as it was. -/
@[simp] theorem hostHold_frame (t : HoldType) (r : HoldReason) (s : State) :
    (hostHold t r s).pending = s.pending ∧
    (hostHold t r s).station = s.station ∧
    (hostHold t r s).segs = s.segs ∧
    (hostHold t r s).odo = s.odo ∧
    (hostHold t r s).dosing = s.dosing ∧
    (hostHold t r s).host.reply = s.host.reply := by
  unfold hostHold
  dsimp only
  (repeat' split) <;> simp

/-- What `hearHold` leaves as it was. -/
@[simp] theorem hearHold_frame (o g t r : Nat) (s : State) :
    (hearHold o g t r s).pending = s.pending ∧
    (hearHold o g t r s).station = s.station ∧
    (hearHold o g t r s).segs = s.segs ∧
    (hearHold o g t r s).odo = s.odo ∧
    (hearHold o g t r s).dosing = s.dosing ∧
    (hearHold o g t r s).callout = s.callout ∧
    (hearHold o g t r s).host.reply = s.host.reply := by
  unfold hearHold
  (repeat' split) <;> simp

/-- What `hearResume` leaves as it was. -/
@[simp] theorem hearResume_frame (o g : Nat) (s : State) :
    (hearResume o g s).pending = s.pending ∧
    (hearResume o g s).station = s.station ∧
    (hearResume o g s).segs = s.segs ∧
    (hearResume o g s).odo = s.odo ∧
    (hearResume o g s).dosing = s.dosing ∧
    (hearResume o g s).callout = s.callout ∧
    (hearResume o g s).host.reply = s.host.reply := by
  unfold hearResume
  (repeat' split) <;> simp

/-- What `hearGo` leaves as it was. -/
@[simp] theorem hearGo_frame (o g : Nat) (s : State) :
    (hearGo o g s).pending = s.pending ∧
    (hearGo o g s).station = s.station ∧
    (hearGo o g s).segs = s.segs ∧
    (hearGo o g s).odo = s.odo ∧
    (hearGo o g s).dosing = s.dosing ∧
    (hearGo o g s).callout = s.callout ∧
    (hearGo o g s).host.reply = s.host.reply := by
  unfold hearGo
  (repeat' split) <;> simp

/-- What `recomputeNeed` leaves as it was. -/
@[simp] theorem recomputeNeed_frame (s : State) :
    (recomputeNeed s).pending = s.pending ∧
    (recomputeNeed s).station = s.station ∧
    (recomputeNeed s).channel = s.channel ∧
    (recomputeNeed s).segs = s.segs ∧
    (recomputeNeed s).claims = s.claims ∧
    (recomputeNeed s).odo = s.odo ∧
    (recomputeNeed s).motion = s.motion ∧
    (recomputeNeed s).group = s.group ∧
    (recomputeNeed s).callout = s.callout ∧
    (recomputeNeed s).host.reply = s.host.reply := by
  unfold recomputeNeed
  (repeat' split) <;> simp

/-- What `hearSnowfall` leaves as it was. -/
@[simp] theorem hearSnowfall_frame (o a b c : Nat) (s : State) :
    (hearSnowfall o a b c s).pending = s.pending ∧
    (hearSnowfall o a b c s).station = s.station ∧
    (hearSnowfall o a b c s).claims = s.claims ∧
    (hearSnowfall o a b c s).odo = s.odo ∧
    (hearSnowfall o a b c s).motion = s.motion ∧
    (hearSnowfall o a b c s).group = s.group ∧
    (hearSnowfall o a b c s).dosing = s.dosing ∧
    (hearSnowfall o a b c s).callout = s.callout ∧
    (hearSnowfall o a b c s).host.reply = s.host.reply := by
  unfold hearSnowfall
  (repeat' split) <;> simp

/-- What `progressNeighbour` leaves as it was. -/
@[simp] theorem progressNeighbour_frame (o d : Nat) (s : State) :
    (progressNeighbour o d s).pending = s.pending ∧
    (progressNeighbour o d s).channel = s.channel ∧
    (progressNeighbour o d s).segs = s.segs ∧
    (progressNeighbour o d s).claims = s.claims ∧
    (progressNeighbour o d s).odo = s.odo ∧
    (progressNeighbour o d s).motion = s.motion ∧
    (progressNeighbour o d s).group = s.group ∧
    (progressNeighbour o d s).dosing = s.dosing ∧
    (progressNeighbour o d s).callout = s.callout ∧
    (progressNeighbour o d s).host.reply = s.host.reply ∧
    (progressNeighbour o d s).station.state = s.station.state ∧
    (progressNeighbour o d s).station.config = s.station.config ∧
    (progressNeighbour o d s).station.configValid = s.station.configValid ∧
    (progressNeighbour o d s).station.clock = s.station.clock := by
  unfold progressNeighbour
  (repeat' split) <;> simp

/-- What `progressCells` leaves as it was. -/
@[simp] theorem progressCells_frame (n a b w d : Nat) (s : State) :
    (progressCells n a b w d s).pending = s.pending ∧
    (progressCells n a b w d s).station = s.station ∧
    (progressCells n a b w d s).channel = s.channel ∧
    (progressCells n a b w d s).claims = s.claims ∧
    (progressCells n a b w d s).odo = s.odo ∧
    (progressCells n a b w d s).motion = s.motion ∧
    (progressCells n a b w d s).group = s.group ∧
    (progressCells n a b w d s).dosing = s.dosing ∧
    (progressCells n a b w d s).callout = s.callout ∧
    (progressCells n a b w d s).host.reply = s.host.reply := by
  unfold progressCells
  dsimp only
  (repeat' split) <;> simp

/-- What `setGuest` leaves as it was. -/
@[simp] theorem setGuest_frame (r : Segment) (g : Option PeerGuest) (o k : Nat) (e : Bool) (s : State) :
    (setGuest r g o k e s).pending = s.pending ∧
    (setGuest r g o k e s).station = s.station ∧
    (setGuest r g o k e s).odo = s.odo ∧
    (setGuest r g o k e s).dosing = s.dosing ∧
    (setGuest r g o k e s).callout = s.callout ∧
    (setGuest r g o k e s).host.reply = s.host.reply := by
  unfold setGuest
  dsimp only
  (repeat' split) <;> simp

/-- What `hearGuest` leaves as it was. -/
@[simp] theorem hearGuest_frame (o n k z : Nat) (s : State) :
    (hearGuest o n k z s).pending = s.pending ∧
    (hearGuest o n k z s).station = s.station ∧
    (hearGuest o n k z s).odo = s.odo ∧
    (hearGuest o n k z s).dosing = s.dosing ∧
    (hearGuest o n k z s).callout = s.callout ∧
    (hearGuest o n k z s).host.reply = s.host.reply := by
  unfold hearGuest
  (repeat' split) <;> simp

/-- What `hearPresence` leaves as it was. -/
@[simp] theorem hearPresence_frame (o c d m g : Nat) (s : State) :
    (hearPresence o c d m g s).pending = s.pending ∧
    (hearPresence o c d m g s).channel = s.channel ∧
    (hearPresence o c d m g s).segs = s.segs ∧
    (hearPresence o c d m g s).claims = s.claims ∧
    (hearPresence o c d m g s).odo = s.odo ∧
    (hearPresence o c d m g s).motion = s.motion ∧
    (hearPresence o c d m g s).group = s.group ∧
    (hearPresence o c d m g s).dosing = s.dosing ∧
    (hearPresence o c d m g s).callout = s.callout ∧
    (hearPresence o c d m g s).host.reply = s.host.reply ∧
    (hearPresence o c d m g s).station.state = s.station.state ∧
    (hearPresence o c d m g s).station.config = s.station.config ∧
    (hearPresence o c d m g s).station.configValid = s.station.configValid ∧
    (hearPresence o c d m g s).station.clock = s.station.clock := by
  unfold hearPresence
  (repeat' split) <;> simp

/-- What `leaveSegment` leaves as it was. -/
@[simp] theorem leaveSegment_frame (o : Option Nat) (n : Nat) (s : State) :
    (leaveSegment o n s).pending = s.pending ∧
    (leaveSegment o n s).station = s.station ∧
    (leaveSegment o n s).segs = s.segs ∧
    (leaveSegment o n s).odo = s.odo ∧
    (leaveSegment o n s).motion = s.motion ∧
    (leaveSegment o n s).group = s.group ∧
    (leaveSegment o n s).dosing = s.dosing ∧
    (leaveSegment o n s).callout = s.callout ∧
    (leaveSegment o n s).host.reply = s.host.reply := by
  unfold leaveSegment
  (repeat' split) <;> simp

/-- What `stopRouteState` leaves as it was. -/
@[simp] theorem stopRouteState_frame (s : State) :
    (stopRouteState s).pending = s.pending ∧
    (stopRouteState s).station = s.station ∧
    (stopRouteState s).segs = s.segs ∧
    (stopRouteState s).odo = s.odo ∧
    (stopRouteState s).dosing = s.dosing ∧
    (stopRouteState s).callout = s.callout ∧
    (stopRouteState s).host.reply = s.host.reply := by
  unfold stopRouteState
  (repeat' split) <;> simp

/-- What `sampleWarn` leaves as it was. -/
@[simp] theorem sampleWarn_frame (b : Bool) (s : State) :
    (sampleWarn b s).pending = s.pending ∧
    (sampleWarn b s).station = s.station ∧
    (sampleWarn b s).segs = s.segs ∧
    (sampleWarn b s).odo = s.odo ∧
    (sampleWarn b s).dosing = s.dosing ∧
    (sampleWarn b s).host.reply = s.host.reply := by
  unfold sampleWarn
  dsimp only
  (repeat' split) <;> simp

/-- What `guestStopped` leaves as it was. -/
@[simp] theorem guestStopped_frame (s : State) :
    (guestStopped s).pending = s.pending ∧
    (guestStopped s).station = s.station ∧
    (guestStopped s).segs = s.segs ∧
    (guestStopped s).odo = s.odo ∧
    (guestStopped s).dosing = s.dosing ∧
    (guestStopped s).host.reply = s.host.reply := by
  unfold guestStopped
  dsimp only
  (repeat' split) <;> simp

/-- What `setLatch` leaves as it was. -/
@[simp] theorem setLatch_frame (s : State) :
    (setLatch s).pending = s.pending ∧
    (setLatch s).station = s.station ∧
    (setLatch s).segs = s.segs ∧
    (setLatch s).odo = s.odo ∧
    (setLatch s).dosing = s.dosing ∧
    (setLatch s).host.reply = s.host.reply := by
  unfold setLatch
  dsimp only
  (repeat' split) <;> simp

/-- What `raiseGuestBlocked` leaves as it was. -/
@[simp] theorem raiseGuestBlocked_frame (s : State) :
    (raiseGuestBlocked s).pending = s.pending ∧
    (raiseGuestBlocked s).station = s.station ∧
    (raiseGuestBlocked s).segs = s.segs ∧
    (raiseGuestBlocked s).odo = s.odo ∧
    (raiseGuestBlocked s).group = s.group ∧
    (raiseGuestBlocked s).dosing = s.dosing ∧
    (raiseGuestBlocked s).host.reply = s.host.reply := by
  unfold raiseGuestBlocked
  simp

/-- What `sampleProt` leaves as it was. -/
@[simp] theorem sampleProt_frame (b : Bool) (s : State) :
    (sampleProt b s).pending = s.pending ∧
    (sampleProt b s).station = s.station ∧
    (sampleProt b s).segs = s.segs ∧
    (sampleProt b s).odo = s.odo ∧
    (sampleProt b s).dosing = s.dosing ∧
    (sampleProt b s).host.reply = s.host.reply := by
  unfold sampleProt
  dsimp only
  (repeat' split) <;> simp

/-- What `testOverspeed` leaves as it was. -/
@[simp] theorem testOverspeed_frame (s : State) :
    (testOverspeed s).pending = s.pending ∧
    (testOverspeed s).station = s.station ∧
    (testOverspeed s).segs = s.segs ∧
    (testOverspeed s).odo = s.odo ∧
    (testOverspeed s).dosing = s.dosing ∧
    (testOverspeed s).host.reply = s.host.reply := by
  unfold testOverspeed
  (repeat' split) <;> simp

/-- What `testStuck` leaves as it was. -/
@[simp] theorem testStuck_frame (s : State) :
    (testStuck s).pending = s.pending ∧
    (testStuck s).station = s.station ∧
    (testStuck s).segs = s.segs ∧
    (testStuck s).odo = s.odo ∧
    (testStuck s).dosing = s.dosing ∧
    (testStuck s).host.reply = s.host.reply := by
  unfold testStuck
  (repeat' split) <;> simp

/-- What `followSpeed` leaves as it was. -/
@[simp] theorem followSpeed_frame (s : State) :
    (followSpeed s).pending = s.pending ∧
    (followSpeed s).station = s.station ∧
    (followSpeed s).channel = s.channel ∧
    (followSpeed s).segs = s.segs ∧
    (followSpeed s).claims = s.claims ∧
    (followSpeed s).odo = s.odo ∧
    (followSpeed s).motion = s.motion ∧
    (followSpeed s).group = s.group ∧
    (followSpeed s).callout = s.callout ∧
    (followSpeed s).host.reply = s.host.reply := by
  unfold followSpeed
  (repeat' split) <;> simp

/-- What `clearHostMark` leaves as it was. -/
@[simp] theorem clearHostMark_frame (b : Bool) (s : State) :
    (clearHostMark b s).pending = s.pending ∧
    (clearHostMark b s).station = s.station ∧
    (clearHostMark b s).segs = s.segs ∧
    (clearHostMark b s).odo = s.odo ∧
    (clearHostMark b s).dosing = s.dosing ∧
    (clearHostMark b s).host.reply = s.host.reply := by
  unfold clearHostMark
  (repeat' split) <;> simp

/-- What `leaveClaim` leaves as it was. -/
@[simp] theorem leaveClaim_frame (s : State) (r : OwnClaim) :
    (leaveClaim s r).pending = s.pending ∧
    (leaveClaim s r).segs = s.segs ∧
    (leaveClaim s r).odo = s.odo ∧
    (leaveClaim s r).motion = s.motion ∧
    (leaveClaim s r).group = s.group ∧
    (leaveClaim s r).dosing = s.dosing ∧
    (leaveClaim s r).host.reply = s.host.reply ∧
    (leaveClaim s r).station.state = s.station.state ∧
    (leaveClaim s r).station.config = s.station.config ∧
    (leaveClaim s r).station.configValid = s.station.configValid ∧
    (leaveClaim s r).station.clock = s.station.clock := by
  unfold leaveClaim
  dsimp only
  (repeat' split) <;> simp

/-- What `endOfStep` leaves as it was. -/
@[simp] theorem endOfStep_frame (s : State) :
    (endOfStep s).pending = s.pending ∧
    (endOfStep s).odo = s.odo ∧
    (endOfStep s).host.reply = s.host.reply ∧
    (endOfStep s).station.config = s.station.config ∧
    (endOfStep s).station.configValid = s.station.configValid ∧
    (endOfStep s).station.clock = s.station.clock := by
  unfold endOfStep
  simp

/-- What `nothingTaken` leaves as it was. -/
@[simp] theorem nothingTaken_frame (s : State) :
    (nothingTaken s).pending = s.pending ∧
    (nothingTaken s).station = s.station ∧
    (nothingTaken s).channel = s.channel ∧
    (nothingTaken s).segs = s.segs ∧
    (nothingTaken s).claims = s.claims ∧
    (nothingTaken s).odo = s.odo ∧
    (nothingTaken s).motion = s.motion ∧
    (nothingTaken s).group = s.group ∧
    (nothingTaken s).dosing = s.dosing ∧
    (nothingTaken s).callout = s.callout := by
  unfold nothingTaken
  simp

end Sys2Proof.Machine

/-! ## The odometry unit and the feed (O5, O10, O20)

Every command but a few leaves the odometry unit as it was; every command that can change what the feed runs on ends its
step by settling the feed. -/

namespace Sys2Proof.Machine

/-! ### The feed at the end of a step -/

/-- A dosing unit with the feed inactive is at rest, and a rate of 0 leaves no fraction of a pulse (R151, R159). -/
def Dosing.Rest (d : Dosing) : Prop :=
  (d.active = false → d.dose = 0 ∧ d.vSalt = none ∧ d.rate = 0 ∧ d.capped = false) ∧ (d.rate = 0 → d.acc = 0)

theorem feedLaw_iff (s : State) : s.FeedLaw ↔
    s.dosing.active = s.feedShouldRun ∧ (s.dosing.active = true → s.dosing.dose = s.dosing.need) ∧ s.dosing.Rest := Iff.rfl

theorem Dosing.withRate_acc (cfg : Configuration) (v : Nat) (d : Dosing) :
    (d.withRate cfg v).rate = 0 → (d.withRate cfg v).acc = 0 := by
  intro h
  simp only [Dosing.withRate] at h ⊢
  rw [if_pos h]

theorem Dosing.fed_rest (cfg : Configuration) (v : Nat) (d : Dosing) : (d.fed cfg v).Rest :=
  ⟨nofun, Dosing.withRate_acc cfg v _⟩

theorem Dosing.stopped_rest (d : Dosing) : d.stopped.Rest := ⟨fun _ => ⟨rfl, rfl, rfl, rfl⟩, fun _ => rfl⟩

/-- What the feed runs on is the station's record, warning, motion state, stock, entry, segments and claims (R150). -/
theorem feedShouldRun_congr {s t : State} (hconfig : t.station.config = s.station.config)
    (hvalid : t.station.configValid = s.station.configValid) (hwarning : t.motion.warning = s.motion.warning)
    (hstate : t.motion.state = s.motion.state) (hstock : t.dosing.stock = s.dosing.stock) (hentry : t.odo.entry = s.odo.entry)
    (hrecords : t.segs.records = s.segs.records) (hown : t.claims.own = s.claims.own) :
    t.feedShouldRun = s.feedShouldRun := by
  have hsegment : t.segment? = s.segment? := funext fun n => by simp only [State.segment?, hrecords]
  simp only [State.feedShouldRun, State.saltingConditions, State.isRobot, State.cfg, State.currentRecord,
    State.currentSegment, State.ownClaim?, hsegment, hconfig, hvalid, hwarning, hstate, hstock, hentry, hown]
  rfl

theorem onDosing_feedShouldRun (f : Dosing → Dosing) (s : State) (h : (f s.dosing).stock = s.dosing.stock) :
    (s.onDosing f).feedShouldRun = s.feedShouldRun := feedShouldRun_congr rfl rfl rfl rfl h rfl rfl rfl

/-- Settling the feed brings its law about, given what every operation keeps of it (R150, R151, R155). -/
theorem settleFeed_feedLaw (s : State) (h : s.dosing.Rest) : (settleFeed s).FeedLaw := by
  unfold settleFeed
  split
  · next hrun =>
    split
    · next hfed => exact ⟨hfed.1.trans hrun.symm, fun _ => hfed.2, h⟩
    · exact ⟨((onDosing_feedShouldRun _ s rfl).trans hrun).symm, fun _ => rfl, Dosing.fed_rest ..⟩
  · next hrun =>
    have hrun : s.feedShouldRun = false := by simpa using hrun
    split
    · exact ⟨((onDosing_feedShouldRun _ s rfl).trans hrun).symm, nofun, Dosing.stopped_rest _⟩
    · next hactive =>
      have hactive : s.dosing.active = false := by simpa using hactive
      exact ⟨hactive.trans hrun.symm, fun h => absurd h (by simp [hactive]), h⟩

theorem endOfStep_feedLaw (s : State) (h : s.dosing.Rest) : (endOfStep s).FeedLaw :=
  settleFeed_feedLaw _ (by simpa using h)

/-! ### What a command does to odometry and feed -/

/-- The feed's law goes on holding. -/
def Feeds (s t : State) : Prop := s.FeedLaw → t.FeedLaw

/-- The odometry unit is as it was, and the feed's law goes on holding. -/
structure Course (s t : State) : Prop where
  odo : t.odo = s.odo
  feed : Feeds s t

theorem finish_feeds {s x : State} (h : s.dosing.Rest → x.dosing.Rest) : Answers (finish x) (Feeds s) :=
  answers_finish fun hs => endOfStep_feedLaw x (h ((feedLaw_iff s).1 hs).2.2)

theorem finish_course {s x : State} (hodo : x.odo = s.odo) (h : s.dosing.Rest → x.dosing.Rest) :
    Answers (finish x) (Course s) :=
  answers_finish ⟨by simp [hodo], fun hs => endOfStep_feedLaw x (h ((feedLaw_iff s).1 hs).2.2)⟩

/-- A command that leaves the dosing unit, with its step ended. -/
theorem finish_course_same {s x : State} (hodo : x.odo = s.odo) (h : x.dosing = s.dosing) : Answers (finish x) (Course s) :=
  finish_course hodo fun hs => h ▸ hs

theorem feeds_same {s t : State} (hdosing : t.dosing = s.dosing) (hrun : t.feedShouldRun = s.feedShouldRun) : Feeds s t := by
  intro h
  rw [feedLaw_iff] at h ⊢
  rwa [hdosing, hrun]

theorem Course.refl (s : State) : Course s s := ⟨rfl, id⟩

/-- A change that nothing of odometry and feed depends on. -/
theorem course_same {s t : State} (hodo : t.odo = s.odo) (hdosing : t.dosing = s.dosing)
    (hconfig : t.station.config = s.station.config) (hvalid : t.station.configValid = s.station.configValid)
    (hmotion : t.motion = s.motion) (hsegs : t.segs = s.segs) (hown : t.claims.own = s.claims.own) : Course s t :=
  ⟨hodo, feeds_same hdosing (feedShouldRun_congr hconfig hvalid (by rw [hmotion]) (by rw [hmotion]) (by rw [hdosing])
    (by rw [hodo]) (by rw [hsegs]) hown)⟩

theorem whenTaken_course {s : State} {r : Result} (h : Answers r (Course s)) : Answers (whenTaken s r) (Course s) :=
  answers_whenTaken (course_same rfl rfl rfl rfl rfl rfl rfl) h

theorem refuse_course (b : Byte) (s : State) : Answers (refuse b s) (Course s) :=
  answers_refuse (course_same rfl rfl rfl rfl rfl rfl rfl)

theorem reply_course (bs : List Byte) (s : State) : Answers (.next (reply bs s)) (Course s) :=
  answers_next (course_same rfl rfl rfl rfl rfl rfl rfl)

theorem ok_course (bs : List Byte) (s : State) : Answers (.next (ok bs s)) (Course s) := reply_course _ s

theorem nothing_course (s : State) : Answers (.next s) (Course s) := answers_next (.refl s)

theorem onChannel_course (f : Channel → Channel) (s : State) : Answers (.next (s.onChannel f)) (Course s) :=
  answers_next (course_same rfl rfl rfl rfl rfl rfl rfl)

theorem receive_dosing (sender : Nat) (deliver : State → State) (s : State) (h : (deliver s).dosing = s.dosing) :
    (receive sender deliver s).dosing = s.dosing := by
  unfold receive
  (repeat' split) <;> simp [h]

theorem receive_odo (sender : Nat) (deliver : State → State) (s : State) (h : (deliver s).odo = s.odo) :
    (receive sender deliver s).odo = s.odo := by
  unfold receive
  (repeat' split) <;> simp [h]

/-- A frame heard whose meaning touches neither unit. -/
theorem heard_course {sender : Nat} {deliver : State → State} {s : State} (hodo : (deliver s).odo = s.odo)
    (hdosing : (deliver s).dosing = s.dosing) : Answers (finish (receive sender deliver s)) (Course s) :=
  finish_course_same (receive_odo _ _ s hodo) (receive_dosing _ _ s hdosing)

theorem inGap_course (sender : Nat) (v : Option Nat) (s : State) : Answers (inGap sender v s) (Course s) := by
  obtain ⟨c, h, -⟩ := inGap_next sender v s
  rw [h]
  exact onChannel_course (fun _ => c) s

/-! ### The host port, claims and callouts -/

theorem execUnknownRequest_course (c : Nat) (s : State) : Answers (execUnknownRequest c s) (Course s) := by
  refine whenTaken_course ?_
  split
  · exact nothing_course s
  · exact refuse_course _ s

theorem execTakeEvent_course (s : State) : Answers (execTakeEvent s) (Course s) := by
  refine whenTaken_course ?_
  split
  · exact ok_course _ s
  · exact answers_next (course_same rfl rfl rfl rfl rfl rfl rfl)

theorem execRequestClaim_course (n i u : Nat) (s : State) : Answers (execRequestClaim n i u s) (Course s) := by
  refine whenTaken_course ?_
  split
  · exact refuse_course _ s
  · split
    · split
      · exact reply_course _ s
      · split
        · exact refuse_course _ s
        · dsimp only
          split
          · exact answers_next (course_same (by simp) (by simp) (by simp) (by simp) (by simp) (by simp) (by simp [denyAtOnce]))
          · exact finish_course_same (by simp) (by simp)
    · exact refuse_course _ s

theorem execReleaseClaim_course (n : Nat) (s : State) : Answers (execReleaseClaim n s) (Course s) := by
  refine whenTaken_course ?_
  split
  · exact refuse_course _ s
  · split
    · exact refuse_course _ s
    · split
      · exact finish_course_same (by simp) (by simp)
      · exact finish_course_same (by simp) (by simp)
      · split
        · exact refuse_course _ s
        · exact finish_course_same (by simp) (by simp)

theorem ownClaim_updateIf (n m : Nat) (f : OwnClaim → OwnClaim) (s : State) (h : ∀ x, (f x).segment = x.segment) :
    (updateOwn n f s).ownClaim? m = (s.ownClaim? m).map fun x => if x.segment = n then f x else x := by
  have hseg (x : OwnClaim) : (if x.segment = n then f x else x).segment = x.segment := by
    split
    · exact h x
    · rfl
  simp only [State.ownClaim?, updateOwn, onClaims_claims, updateIf, List.find?_map, Function.comp_def,
    beq_iff_eq, hseg]

/-- An offer that only notes its time leaves the feed: intent and state of the record stay (R85, R150). -/
theorem offered_course (n k : Nat) (s : State) : Course s (updateOwn n (fun x => { x with refreshesOffered := k }) s) := by
  refine ⟨by simp, feeds_same (by simp) ?_⟩
  have hclaim (m : Nat) := ownClaim_updateIf n m (fun x => { x with refreshesOffered := k }) s fun _ => rfl
  have hrecord : (updateOwn n (fun x => { x with refreshesOffered := k }) s).currentRecord = s.currentRecord := rfl
  simp only [State.feedShouldRun, State.saltingConditions, hclaim, hrecord]
  simp only [State.isRobot, State.cfg, updateOwn_frame]
  cases s.currentRecord with
  | none => rfl
  | some r =>
    cases h : s.ownClaim? r.number with
    | none => simp [h]
    | some x =>
      simp only [h, Option.map_some]
      split <;> rfl

theorem execRefresh_course (n : Nat) (s : State) : Answers (execRefresh n s) (Course s) := by
  unfold execRefresh
  dsimp only
  split
  · exact nothing_course s
  · split
    · exact nothing_course s
    · split
      · exact finish_course_same (by simp) (by simp)
      · exact answers_next (offered_course n _ s)

theorem execLapse_course (n : Nat) (s : State) : Answers (execLapse n s) (Course s) := by
  unfold execLapse
  split
  · exact nothing_course s
  · split
    · exact finish_course_same (by simp) (by simp)
    · exact nothing_course s

theorem execClaimViewExpiry_course (n h : Nat) (s : State) : Answers (execClaimViewExpiry n h s) (Course s) := by
  unfold execClaimViewExpiry
  split
  · exact answers_next (course_same rfl rfl rfl rfl rfl rfl rfl)
  · exact nothing_course s

theorem execRaiseCallout_course (u n c d : Nat) (s : State) : Answers (execRaiseCallout u n c d s) (Course s) := by
  refine whenTaken_course ?_
  split
  · exact refuse_course _ s
  · split
    · exact refuse_course _ s
    · split
      · exact refuse_course _ s
      · exact finish_course_same (by simp) (by simp)

theorem execCalloutBackoff_course (n : Nat) (s : State) : Answers (execCalloutBackoff n s) (Course s) := by
  unfold execCalloutBackoff
  split
  · exact nothing_course s
  · split
    · exact finish_course_same (by simp) (by simp)
    · exact nothing_course s

theorem execRelayBackoff_course (o n : Nat) (s : State) : Answers (execRelayBackoff o n s) (Course s) := by
  unfold execRelayBackoff
  split
  · exact nothing_course s
  · split
    · exact finish_course_same (by simp) (by simp)
    · exact nothing_course s

/-! ### The channel controller -/

theorem execChannelIdle_course (s : State) : Answers (execChannelIdle s) (Course s) := by
  unfold execChannelIdle
  split
  · exact onChannel_course _ s
  · exact nothing_course s

theorem execNoise_course (s : State) : Answers (execNoise s) (Course s) := by
  unfold execNoise
  split
  · exact onChannel_course _ s
  · exact nothing_course s

theorem execStartMark_course (s : State) : Answers (execStartMark s) (Course s) := by
  unfold execStartMark
  split
  · exact nothing_course s
  · split
    · exact onChannel_course _ s
    · exact onChannel_course _ s

theorem execBreakInIdleCount_course (s : State) : Answers (execBreakInIdleCount s) (Course s) := by
  unfold execBreakInIdleCount
  split
  · exact onChannel_course _ s
  · exact nothing_course s

theorem execSeize_course (s : State) : Answers (execSeize s) (Course s) := by
  unfold execSeize
  dsimp only
  split
  · exact nothing_course s
  · split
    · exact finish_course_same (by simp) (by simp)
    · exact finish_course_same (by simp) (by simp)

/-- A channel event posted after a change of the channel controller. -/
theorem post_onChannel_course (e : Event) (f : Channel → Channel) (s : State) :
    Answers (.next (post e (s.onChannel f))) (Course s) :=
  answers_next (course_same (by simp) (by simp) (by simp) (by simp) (by simp) (by simp) (by simp))

theorem execJammed_course (s : State) : Answers (execJammed s) (Course s) := by
  unfold execJammed
  split
  · exact post_onChannel_course _ _ s
  · exact nothing_course s

theorem execJamCleared_course (s : State) : Answers (execJamCleared s) (Course s) := by
  unfold execJamCleared
  split
  · exact post_onChannel_course _ _ s
  · exact nothing_course s

theorem execDuplicateStation_course (s : State) : Answers (execDuplicateStation s) (Course s) := by
  unfold execDuplicateStation
  split
  · exact post_onChannel_course _ _ s
  · exact nothing_course s

theorem execFrameStart_course (s : State) : Answers (execFrameStart s) (Course s) := by
  unfold execFrameStart
  split
  · split
    · exact nothing_course s
    · exact onChannel_course _ s
  · exact nothing_course s

theorem execArbitrationWon_course (s : State) : Answers (execArbitrationWon s) (Course s) := by
  unfold execArbitrationWon
  split
  · split
    · exact nothing_course s
    · exact finish_course_same (by simp) (by simp)
  · exact nothing_course s

theorem execArbitrationLost_course (s : State) : Answers (execArbitrationLost s) (Course s) := by
  unfold execArbitrationLost
  split
  · split
    · exact nothing_course s
    · exact finish_course_same (by simp) (by simp)
  · exact nothing_course s

theorem execCollided_course (s : State) : Answers (execCollided s) (Course s) := by
  unfold execCollided
  split
  · exact finish_course_same (by simp) (by simp)
  · exact nothing_course s

theorem execResponseFieldSpoiled_course (k : SpoilCause) (s : State) :
    Answers (execResponseFieldSpoiled k s) (Course s) := by
  unfold execResponseFieldSpoiled
  split
  · exact nothing_course s
  · split
    · exact finish_course_same (by simp) (by simp)
    · exact onChannel_course _ s

theorem execTxUnheard_course (s : State) : Answers (execTxUnheard s) (Course s) := by
  unfold execTxUnheard
  dsimp only
  split
  · exact nothing_course s
  · split
    · split
      · exact finish_course_same (by simp) (by simp)
      · split
        · exact finish_course_same (by simp) (by simp)
        · exact finish_course_same (by simp) (by simp)
    · exact finish_course_same (by simp) (by simp)

theorem echoEnds_course (s : State) : Answers (.next (echoEnds s)) (Course s) := by
  unfold echoEnds
  split
  · exact onChannel_course _ s
  · exact nothing_course s

theorem execSentResponded_course (v : Nat) (s : State) : Answers (execSentResponded v s) (Course s) := by
  unfold execSentResponded
  split
  · exact echoEnds_course s
  · split
    · exact finish_course_same (by simp) (by simp)
    · exact nothing_course s

theorem execStale_course (n : Nat) (s : State) : Answers (execStale n s) (Course s) := by
  unfold execStale
  split
  · exact nothing_course s
  · split
    · exact onChannel_course _ s
    · exact finish_course_same (by simp) (by simp)

theorem execSeizeEnds_course (s : State) : Answers (execSeizeEnds s) (Course s) := by
  unfold execSeizeEnds
  split
  · exact finish_course_same (by simp) (by simp)
  · exact nothing_course s

/-! ### Group control, segments and the station -/

theorem execSendGo_course (s : State) : Answers (execSendGo s) (Course s) := by
  refine whenTaken_course ?_
  split
  · exact finish_course_same (by simp) (by simp)
  · exact refuse_course _ s

theorem execSendHold_course (t r : Nat) (s : State) : Answers (execSendHold t r s) (Course s) := by
  refine whenTaken_course ?_
  split
  · split
    · exact finish_course_same (by simp) (by simp)
    · exact refuse_course _ s
  · exact refuse_course _ s

theorem execSendResume_course (s : State) : Answers (execSendResume s) (Course s) := by
  refine whenTaken_course ?_
  split
  · dsimp only
    split
    · exact finish_course_same (by simp) (by simp)
    · exact finish_course_same (by simp) (by simp)
    · exact finish_course_same (by simp) (by simp)
    · exact finish_course_same (by simp) (by simp)
  · exact refuse_course _ s

theorem execHoldRepeatInterval_course (s : State) : Answers (execHoldRepeatInterval s) (Course s) := by
  unfold execHoldRepeatInterval
  split
  · exact finish_course_same (by simp) (by simp)
  · exact nothing_course s

theorem execHoldExpiry_course (o : Nat) (s : State) : Answers (execHoldExpiry o s) (Course s) := by
  unfold execHoldExpiry
  split
  · exact nothing_course s
  · split
    · exact nothing_course s
    · split
      · exact finish_course_same (by simp) (by simp)
      · exact nothing_course s

theorem execLoadSegment_course (f : LoadFields) (s : State) : Answers (execLoadSegment f s) (Course s) := by
  refine whenTaken_course ?_
  split
  · exact refuse_course _ s
  · split
    · exact reply_course _ s
    · split
      · exact refuse_course _ s
      · exact finish_course_same (by simp) (by simp)

theorem execClearSegments_course (s : State) : Answers (execClearSegments s) (Course s) := by
  refine whenTaken_course ?_
  split
  · exact refuse_course _ s
  · exact finish_course_same (by simp) (by simp)

theorem execReadSegment_course (n : Nat) (s : State) : Answers (execReadSegment n s) (Course s) := by
  refine whenTaken_course ?_
  split
  · exact refuse_course _ s
  · exact ok_course _ s

theorem execReadCells_course (n a b : Nat) (s : State) : Answers (execReadCells n a b s) (Course s) := by
  refine whenTaken_course ?_
  split
  · exact refuse_course _ s
  · exact ok_course _ s

theorem recomputeNeed_rest (s : State) (h : s.dosing.Rest) : (recomputeNeed s).dosing.Rest := by
  unfold recomputeNeed
  split
  · exact h
  · exact h

theorem execReportTemperature_course (n : Nat) (t : Int) (s : State) :
    Answers (execReportTemperature n t s) (Course s) := by
  refine whenTaken_course ?_
  split
  · exact refuse_course _ s
  · dsimp only
    split
    · exact finish_course (by simp) fun h => by simpa using recomputeNeed_rest _ (by simpa using h)
    · exact finish_course_same (by simp) (by simp)

theorem execMarkSnowfall_course (a b c d : Nat) (s : State) : Answers (execMarkSnowfall a b c d s) (Course s) := by
  refine whenTaken_course ?_
  split
  · exact refuse_course _ s
  · split
    · dsimp only
      split
      · exact finish_course_same (by simp) (by simp)
      · exact finish_course_same (by simp) (by simp)
    · exact refuse_course _ s

theorem execGuestStateExpiry_course (n : Nat) (s : State) : Answers (execGuestStateExpiry n s) (Course s) := by
  unfold execGuestStateExpiry
  split
  · exact nothing_course s
  · split
    · exact nothing_course s
    · split
      · exact finish_course_same (by simp) (by simp)
      · exact nothing_course s

theorem execJoin_course (s : State) : Answers (execJoin s) (Course s) := by
  refine whenTaken_course ?_
  split
  · exact answers_next (course_same (by simp) (by simp) (by simp) (by simp) (by simp) (by simp) (by simp))
  · exact refuse_course _ s

theorem execListenDone_course (s : State) : Answers (execListenDone s) (Course s) := by
  unfold execListenDone
  split
  · exact finish_course_same (by simp) (by simp)
  · exact nothing_course s

theorem execPresenceInterval_course (s : State) : Answers (execPresenceInterval s) (Course s) := by
  unfold execPresenceInterval
  split
  · exact finish_course_same (by simp) (by simp)
  · exact nothing_course s

theorem execNeighbourLost_course (n : Nat) (s : State) : Answers (execNeighbourLost n s) (Course s) := by
  unfold execNeighbourLost
  split
  · exact answers_next (course_same (by simp) (by simp) (by simp) (by simp) (by simp) (by simp) (by simp))
  · exact nothing_course s

theorem execLeaveComplete_course (s : State) : Answers (execLeaveComplete s) (Course s) := by
  unfold execLeaveComplete
  split
  · exact finish_course_same (by simp) (by simp)
  · exact nothing_course s

/-! ### Motion, stock and beacon -/

theorem execStart_course (s : State) : Answers (execStart s) (Course s) := by
  refine whenTaken_course ?_
  split
  · exact refuse_course _ s
  · split
    · split
      · exact refuse_course _ s
      · split
        · exact refuse_course _ s
        · exact finish_course_same (by simp) (by simp)
    · split
      · exact finish_course_same (by simp) (by simp)
      · exact reply_course _ s
    · exact refuse_course _ s

theorem execArmStart_course (s : State) : Answers (execArmStart s) (Course s) := by
  refine whenTaken_course ?_
  split
  · exact refuse_course _ s
  · split
    · exact refuse_course _ s
    · split
      · exact refuse_course _ s
      · split
        · exact refuse_course _ s
        · exact finish_course_same (by simp) (by simp)

theorem execRampStep_course (s : State) : Answers (execRampStep s) (Course s) :=
  finish_course_same (by simp) (by simp)

theorem execScannerSample_course (w p : Bool) (s : State) : Answers (execScannerSample w p s) (Course s) := by
  unfold execScannerSample
  dsimp only
  split
  · exact finish_course_same (by simp) (by simp)
  · exact answers_next ⟨rfl, feeds_same rfl rfl⟩

theorem execGuestCleared_course (s : State) : Answers (execGuestCleared s) (Course s) := by
  unfold execGuestCleared
  dsimp only
  split
  · split
    · split
      · exact finish_course_same (by simp) (by simp)
      · split
        · exact finish_course_same (by simp) (by simp)
        · exact finish_course_same (by simp) (by simp)
    · exact finish_course_same (by simp) (by simp)
  · exact nothing_course s

theorem execGuestBlocked_course (s : State) : Answers (execGuestBlocked s) (Course s) := by
  unfold execGuestBlocked
  dsimp only
  split
  · split
    · exact finish_course_same (by simp) (by simp)
    · exact answers_next ⟨rfl, feeds_same rfl rfl⟩
  · exact nothing_course s

theorem execNoticeInterval_course (s : State) : Answers (execNoticeInterval s) (Course s) := by
  unfold execNoticeInterval
  split
  · exact nothing_course s
  · exact finish_course_same (by simp) (by simp)

theorem execSeizeCautionPeriod_course (s : State) : Answers (execSeizeCautionPeriod s) (Course s) := by
  unfold execSeizeCautionPeriod
  split
  · exact finish_course_same (by simp) (by simp)
  · exact nothing_course s

theorem execSetBeacon_course (n : Nat) (s : State) : Answers (execSetBeacon n s) (Course s) := by
  refine whenTaken_course ?_
  split
  · exact answers_next ⟨rfl, feeds_same rfl rfl⟩
  · exact refuse_course _ s

theorem lowTest_rest (s : State) (h : s.dosing.Rest) : (lowTest s).dosing.Rest := by
  unfold lowTest
  split
  · rw [(raiseHere_frame ..).2.2.2.2.2.2.1, (post_frame ..).2.2.2.2.2.2.2.2.1]
    exact h
  · exact h

theorem execLoadStock_course (n : Nat) (s : State) : Answers (execLoadStock n s) (Course s) := by
  refine whenTaken_course (finish_course ?_ fun h => ?_)
  · split <;> simp
  · have loaded : (post (.stock .loaded (min 4000000 n * 1000))
        (s.onDosing fun d => { d with stock := min 4000000 n * 1000, low := false })).dosing.Rest := by
      rw [(post_frame ..).2.2.2.2.2.2.2.2.1]
      exact h
    split
    · simpa using lowTest_rest _ loaded
    · simpa using loaded

theorem execFeedPulse_course (s : State) : Answers (execFeedPulse s) (Course s) := by
  unfold execFeedPulse
  split
  · next h =>
    obtain ⟨-, -, hrate⟩ := (emitsPulse_iff s).1 h
    refine finish_course (by simp) fun hrest => ?_
    rw [(emptyTest_frame _ _).2.2.2.2.2.2.1]
    exact lowTest_rest _ ⟨hrest.1, fun hzero => absurd hzero hrate.ne'⟩
  · exact nothing_course s

end Sys2Proof.Machine

/-! ## The feed follows its conditions (O10) -/

namespace Sys2Proof.Machine

/-- The commands that change the odometry unit (R33, R34, R97 to R109). -/
def movesOdo : Instr → Bool
  | .wheelCount .. => true
  | .decodeError => true
  | .speedSample => true
  | .enterSegment .. => true
  | .stopRoute => true
  | .leave => true
  | .configure _ => true
  | c => isReset c

theorem exec_course (c : Instr) (s : State) (h : movesOdo c = false) : Answers (exec c s) (Course s) := by
  cases c with
  | powerOn => cases h
  | resetN => cases h
  | transactionAborted => exact answers_next (course_same rfl rfl rfl rfl rfl rfl rfl)
  | unknownRequest _ => exact execUnknownRequest_course _ s
  | readStatus => exact whenTaken_course (answers_next (course_same rfl rfl rfl rfl rfl rfl rfl))
  | takeEvent => exact execTakeEvent_course s
  | configure _ => cases h
  | loadSegment _ => exact execLoadSegment_course _ s
  | clearSegments => exact execClearSegments_course s
  | join => exact execJoin_course s
  | leave => cases h
  | restart => cases h
  | readSegment _ => exact execReadSegment_course _ s
  | readCells _ _ _ => exact execReadCells_course _ _ _ s
  | reportTemperature _ _ => exact execReportTemperature_course _ _ s
  | markSnowfall _ _ _ _ => exact execMarkSnowfall_course _ _ _ _ s
  | requestClaim _ _ _ => exact execRequestClaim_course _ _ _ s
  | releaseClaim _ => exact execReleaseClaim_course _ s
  | readClaims => exact whenTaken_course (ok_course _ s)
  | enterSegment _ _ => cases h
  | start => exact execStart_course s
  | armStart => exact execArmStart_course s
  | stopRoute => cases h
  | sendGo => exact execSendGo_course s
  | sendHold _ _ => exact execSendHold_course _ _ s
  | sendResume => exact execSendResume_course s
  | setBeacon _ => exact execSetBeacon_course _ s
  | loadStock _ => exact execLoadStock_course _ s
  | raiseCallout _ _ _ _ => exact execRaiseCallout_course _ _ _ _ s
  | workClockTick => exact answers_next (course_same rfl rfl rfl rfl rfl rfl rfl)
  | channelIdle => exact execChannelIdle_course s
  | noise => exact execNoise_course s
  | frameDiscarded _ => exact execNoise_course s
  | seize => exact execSeize_course s
  | jammed => exact execJammed_course s
  | jamCleared => exact execJamCleared_course s
  | duplicateStation => exact execDuplicateStation_course s
  | frameStart => exact execFrameStart_course s
  | arbitrationWon => exact execArbitrationWon_course s
  | arbitrationLost => exact execArbitrationLost_course s
  | collided => exact execCollided_course s
  | responseFieldSpoiled _ => exact execResponseFieldSpoiled_course _ s
  | txUnheard => exact execTxUnheard_course s
  | sent => exact finish_course_same (by simp) (by simp)
  | sentResponded _ => exact execSentResponded_course _ s
  | stale _ => exact execStale_course _ s
  | objection _ _ _ _ _ => exact inGap_course _ _ s
  | acknowledgement _ _ _ _ _ _ _ _ _ => exact inGap_course _ _ s
  | presence _ _ _ _ _ => exact heard_course (by simp) (by simp)
  | claim _ _ _ _ _ _ => exact heard_course (by simp) (by simp)
  | release _ _ => exact heard_course (by simp) (by simp)
  | progress _ _ _ _ _ _ _ => exact heard_course (by simp) (by simp)
  | guest _ _ _ _ => exact heard_course (by simp) (by simp)
  | hold _ _ _ _ => exact heard_course (by simp) (by simp)
  | resume _ _ => exact heard_course (by simp) (by simp)
  | go _ _ => exact heard_course (by simp) (by simp)
  | callout _ _ _ _ _ _ _ _ _ _ => exact heard_course (by simp) (by simp)
  | snowfall _ _ _ _ => exact heard_course (by simp) (by simp)
  | listenDone => exact execListenDone_course s
  | presenceInterval => exact execPresenceInterval_course s
  | neighbourLost _ => exact execNeighbourLost_course _ s
  | leaveComplete => exact execLeaveComplete_course s
  | refresh _ => exact execRefresh_course _ s
  | lapse _ => exact execLapse_course _ s
  | claimViewExpiry _ _ => exact execClaimViewExpiry_course _ _ s
  | guestStateExpiry _ => exact execGuestStateExpiry_course _ s
  | wheelCount _ _ => cases h
  | decodeError => cases h
  | speedSample => cases h
  | rampStep => exact execRampStep_course s
  | scannerSample _ _ => exact execScannerSample_course _ _ s
  | guestCleared => exact execGuestCleared_course s
  | guestBlocked => exact execGuestBlocked_course s
  | noticeInterval => exact execNoticeInterval_course s
  | seizeCautionPeriod => exact execSeizeCautionPeriod_course s
  | holdRepeatInterval => exact execHoldRepeatInterval_course s
  | holdExpiry _ => exact execHoldExpiry_course _ s
  | feedPulse => exact execFeedPulse_course s
  | calloutBackoff _ => exact execCalloutBackoff_course _ s
  | relayBackoff _ _ => exact execRelayBackoff_course _ _ s
  | recentRelayExpiry _ _ => exact answers_next (course_same rfl rfl rfl rfl rfl rfl rfl)
  | startMark => exact execStartMark_course s
  | breakInIdleCount => exact execBreakInIdleCount_course s
  | seizeEnds => exact execSeizeEnds_course s

/-! ### The feed at the commands that move the odometry unit -/

theorem openPass_rest (cell : Nat) (s : State) (h : s.dosing.Rest) : (openPass cell s).dosing.Rest := by
  unfold openPass
  split
  · exact h
  · exact h

theorem endEntry_rest (s : State) (h : s.dosing.Rest) : (endEntry s).dosing.Rest := by
  unfold endEntry
  split
  · exact h
  · have ended : (((finaliseAndFlush s).onOdo fun o => { o with entry := none }).onDosing
        fun d => { d with need := 0, pulsesNow := 0 }).dosing.Rest := by
      rw [onDosing_dosing, onOdo_dosing, (finaliseAndFlush_frame s).2.2.2.2.2.1]
      exact h
    dsimp only
    split
    · exact ended
    · rwa [(endOccupancy_frame ..).2.2.2.2.2.2.1]

theorem crossCell_rest (e : Entry) (cell : Nat) (s : State) (h : s.dosing.Rest) : (crossCell e cell s).dosing.Rest :=
  openPass_rest _ _ (by simpa using h)

theorem completeSegment_rest (e : Entry) (cell : Nat) (s : State) (h : s.dosing.Rest) :
    (completeSegment e cell s).dosing.Rest := by
  have opened := openPass_rest cell
    (finaliseAndFlush (s.onOdo fun o => { o with entry := some { e with cell := cell, done := true } })) (by simpa using h)
  unfold completeSegment
  dsimp only
  split
  · simpa using opened
  · simpa using opened

theorem countOnSegment_rest (e : Entry) (blade : Bool) (s : State) (h : s.dosing.Rest) :
    (countOnSegment e blade s).dosing.Rest := by
  have crossed (cell : Nat) : (if cell = e.cell then s else crossCell e cell s).dosing.Rest := by
    split
    · exact h
    · exact crossCell_rest _ _ s h
  unfold countOnSegment chargeCount
  dsimp only [onSegs_dosing]
  split
  · exact completeSegment_rest _ _ _ (crossed _)
  · exact crossed _

/-- A change of the odometry unit that keeps the entry is none of the feed's (R150). -/
theorem onOdo_feeds (f : Odo → Odo) (s : State) (h : (f s.odo).entry = s.odo.entry) : Feeds s (s.onOdo f) :=
  feeds_same rfl (feedShouldRun_congr rfl rfl rfl rfl rfl h rfl rfl)

theorem Odo.sensed_entry (e : Edge) (b : Bool) (o : Odo) : (o.sensed e b).entry = o.entry := by
  unfold Odo.sensed
  split <;> rfl

theorem execWheelCount_feeds (e : Edge) (b : Bool) (s : State) : Answers (execWheelCount e b s) (Feeds s) := by
  unfold execWheelCount
  dsimp only
  split
  · split
    · exact answers_next (onOdo_feeds (fun o => Odo.counted _ (Odo.sensed e b o)) s (Odo.sensed_entry e b _))
    · exact finish_feeds fun h => countOnSegment_rest _ _ _ h
  · exact answers_next (onOdo_feeds _ s (Odo.sensed_entry e b _))

theorem execDecodeError_feeds (s : State) : Answers (execDecodeError s) (Feeds s) := by
  unfold execDecodeError
  dsimp only
  split
  · split
    · exact finish_feeds fun h => by simpa using h
    · exact answers_next (onOdo_feeds _ s rfl)
  · exact answers_next (onOdo_feeds _ s rfl)

theorem followSpeed_rest (s : State) (h : s.dosing.Rest) : (followSpeed s).dosing.Rest := by
  unfold followSpeed
  split
  · next hactive =>
    exact ⟨fun hnot => absurd hactive (by simp [show s.dosing.active = false from hnot]),
      Dosing.withRate_acc s.cfg s.odo.speed s.dosing⟩
  · exact h

theorem execSpeedSample_feeds (s : State) : Answers (execSpeedSample s) (Feeds s) :=
  finish_feeds fun h => followSpeed_rest _ (by simpa using h)

theorem enterSegment_rest (r : Segment) (d : Direction) (s : State) (h : s.dosing.Rest) :
    (enterSegment r d s).dosing.Rest := by
  unfold enterSegment
  dsimp only
  split
  · rw [(enterMoving_frame ..).2.2.2.2.1, (evalCaution_frame _).2.2.2.2.1]
    exact openPass_rest _ _ (by simpa using h)
  · rw [(evalCaution_frame _).2.2.2.2.1]
    exact openPass_rest _ _ (by simpa using h)

theorem execEnterSegment_feeds (n d : Nat) (s : State) : Answers (execEnterSegment n d s) (Feeds s) := by
  have refused (b : Byte) : Answers (refuse b s) (Feeds s) := (refuse_course b s).mono fun _ => Course.feed
  refine answers_whenTaken (feeds_same rfl rfl) ?_
  split
  · exact refused _
  · split
    · split
      · exact refused _
      · split
        · exact refused _
        · split
          · exact refused _
          · exact finish_feeds fun h => by simpa using enterSegment_rest _ _ s h
    · exact refused _

theorem execStopRoute_feeds (s : State) : Answers (execStopRoute s) (Feeds s) := by
  refine answers_whenTaken (feeds_same rfl rfl) ?_
  split
  · exact finish_feeds fun h => by simpa using endEntry_rest s h
  · exact (refuse_course _ s).mono fun _ => Course.feed

theorem endRoute_rest (send : Bool) (s : State) (h : s.dosing.Rest) : (endRoute send s).dosing.Rest := by
  unfold endRoute
  dsimp only
  split
  · split
    · simpa using endEntry_rest (releaseGuestHold send s) (by simpa using h)
    · simpa using endEntry_rest s h
  · exact h

@[simp] theorem foldl_leaveClaim_frame (l : List OwnClaim) (s : State) :
    (l.foldl leaveClaim s).odo = s.odo ∧ (l.foldl leaveClaim s).dosing = s.dosing ∧
    (l.foldl leaveClaim s).motion = s.motion ∧ (l.foldl leaveClaim s).group = s.group ∧
    (l.foldl leaveClaim s).segs = s.segs ∧ (l.foldl leaveClaim s).host.reply = s.host.reply := by
  induction l generalizing s with
  | nil => simp
  | cons x r ih => simp [ih]

theorem execLeave_feeds (s : State) : Answers (execLeave s) (Feeds s) := by
  refine answers_whenTaken (feeds_same rfl rfl) ?_
  split
  · exact (refuse_course _ s).mono fun _ => Course.feed
  · split
    · exact (ok_course _ s).mono fun _ => Course.feed
    · exact finish_feeds fun h => by simpa using endRoute_rest true _ (by exact h)
  · exact finish_feeds fun h => by simpa using endRoute_rest false s h

theorem execConfigure_feeds (f : ConfigureFields) (s : State) : Answers (execConfigure f s) (Feeds s) := by
  refine answers_whenTaken (feeds_same rfl rfl) ?_
  split
  · exact (refuse_course _ s).mono fun _ => Course.feed
  · split
    · exact (reply_course _ s).mono fun _ => Course.feed
    · refine finish_feeds fun h => ?_
      rw [(ok_frame ..).2.2.2.2.2.2.2.2.1, configured, (zoneChanged_frame ..).2.2.2.2.2.1,
        (recomputeDistance_frame _).2.2.2.2.2.2.2.1]
      exact h

/-- The feed of a robot that is IDLE does not run (R150). -/
theorem feedShouldRun_idle (s : State) (h : s.motion.state = .idle) : s.feedShouldRun = false := by
  simp [State.feedShouldRun, h]

theorem reset_feedLaw (t : State) (hstate : t.motion.state = .idle) (hactive : t.dosing.active = false)
    (hrest : t.dosing.Rest) : t.FeedLaw :=
  ⟨hactive.trans (feedShouldRun_idle t hstate).symm, fun h => absurd h (by simp [hactive]), hrest⟩

theorem execRestart_feeds (s : State) : Answers (execRestart s) (Feeds s) := by
  refine (execRestart_answers s).mono fun t ht => ?_
  rcases ht with rfl | rfl
  · exact feeds_same rfl rfl
  · intro _
    refine reset_feedLaw _ (by simp [State.restarted, Motion.restarted, Motion.reset])
      (by simp [State.restarted, Dosing.restarted, Dosing.reset]) ?_
    rw [(ok_frame ..).2.2.2.2.2.2.2.2.1, (post_frame ..).2.2.2.2.2.2.2.2.1]
    exact ⟨fun _ => ⟨rfl, rfl, rfl, rfl⟩, fun _ => rfl⟩

theorem exec_feeds (c : Instr) (s : State) : Answers (exec c s) (Feeds s) := by
  cases h : movesOdo c with
  | false => exact (exec_course c s h).mono fun _ => Course.feed
  | true =>
    have atReset (t : State) (hstate : t.motion.state = .idle) (hdosing : t.dosing = Dosing.reset) : Feeds s t :=
      fun _ => reset_feedLaw t hstate (by rw [hdosing]; rfl)
        (by rw [hdosing]; exact ⟨fun _ => ⟨rfl, rfl, rfl, rfl⟩, fun _ => rfl⟩)
    cases c with
    | powerOn => exact answers_next (atReset _ rfl rfl)
    | resetN => exact answers_next (atReset _ rfl rfl)
    | restart => exact execRestart_feeds s
    | wheelCount e b => exact execWheelCount_feeds e b s
    | decodeError => exact execDecodeError_feeds s
    | speedSample => exact execSpeedSample_feeds s
    | enterSegment n d => exact execEnterSegment_feeds n d s
    | stopRoute => exact execStopRoute_feeds s
    | leave => exact execLeave_feeds s
    | configure f => exact execConfigure_feeds f s
    | _ => cases h

theorem tickMs_feedLaw (s : State) (h : s.FeedLaw) : (tickMs s).FeedLaw := by
  rw [feedLaw_iff] at h ⊢
  obtain ⟨hactive, hneed, hrest, hzero⟩ := h
  have hrun : (tickMs s).feedShouldRun = s.feedShouldRun := feedShouldRun_congr rfl rfl rfl rfl rfl rfl rfl rfl
  refine ⟨hactive.trans hrun.symm, hneed, hrest, fun hrate => ?_⟩
  have hrate : s.dosing.rate = 0 := hrate
  have hacc := hzero hrate
  simp [tickMs, hrate, hacc]

/-- Settles O10: a command ends its step by settling the feed, or changes nothing that it runs on. -/
theorem everyStepKeepsTheFeedLaw : Obligations.EveryStepKeepsTheFeedLaw := by
  intro s t hs ht
  unfold step at ht
  split at ht
  · cases ht
    unfold idle
    split
    · exact hs
    · exact tickMs_feedLaw s hs
  · exact (exec_feeds _ _).of_eq ht hs

end Sys2Proof.Machine

/-! ## Samples, latches and loaded records have their owners (O5) -/

namespace Sys2Proof.Machine

/-! ### The odometry unit -/

/-- Segment, direction and length of the present entry. -/
def Odo.route (o : Odo) : Option (Nat × Direction × Nat) := o.entry.map fun e => (e.segment, e.direction, e.length)

/-- What O5 says of the odometry unit at a command other than a reset and CONFIGURE. -/
structure OdoAlone (c : Instr) (o p : Odo) : Prop where
  sample : c ≠ .speedSample → p.speed = o.speed ∧ p.sense = o.sense ∧ p.lastErrors = o.lastErrors
  net : c ≠ .speedSample → (∀ e b, c ≠ .wheelCount e b) → p.net = o.net
  errors : c ≠ .speedSample → c ≠ .decodeError → p.errors = o.errors ∧ p.fault = o.fault
  position : (∀ e b, c ≠ .wheelCount e b) → (∀ n d, c ≠ .enterSegment n d) → p.position = o.position
  route : (∀ n d, c ≠ .enterSegment n d) → c ≠ .stopRoute → c ≠ .leave → p.route = o.route

theorem OdoAlone.refl (c : Instr) (o : Odo) : OdoAlone c o o :=
  ⟨fun _ => ⟨rfl, rfl, rfl⟩, fun _ _ => rfl, fun _ _ => ⟨rfl, rfl⟩, fun _ _ => rfl, fun _ _ _ => rfl⟩

theorem OdoAlone.of_eq {c : Instr} {s t : State} (h : t.odo = s.odo) : OdoAlone c s.odo t.odo := h ▸ .refl c _

@[simp] theorem crossCell_odo (e : Entry) (cell : Nat) (s : State) :
    (crossCell e cell s).odo = { s.odo with entry := some { e with cell := cell } } := by
  simp [crossCell]

@[simp] theorem completeSegment_odo (e : Entry) (cell : Nat) (s : State) :
    (completeSegment e cell s).odo = { s.odo with entry := some { e with cell := cell, done := true } } := by
  unfold completeSegment
  dsimp only
  split <;> simp

/-- A wheel count on a segment changes cell and done flag of the entry and nothing else of it (R103, R105). -/
theorem countOnSegment_odo (e : Entry) (blade : Bool) (s : State) (he : s.odo.entry = some e) :
    ∃ k d, (countOnSegment e blade s).odo = { s.odo with entry := some { e with cell := k, done := d } } := by
  unfold countOnSegment chargeCount
  dsimp only [onSegs_odo]
  split
  · refine ⟨cellIndex s.cfg (accounting e.length s.odo.position), true, ?_⟩
    rw [completeSegment_odo]
    split
    · rfl
    · rw [crossCell_odo]
  · split
    · exact ⟨e.cell, e.done, by rw [← he]⟩
    · exact ⟨_, e.done, crossCell_odo ..⟩

/-- A wheel count changes net count, counter, lines, and cell and done flag of the entry (R97, R99, R103, R105). -/
structure Counted (o p : Odo) : Prop where
  sample : p.speed = o.speed ∧ p.sense = o.sense ∧ p.lastErrors = o.lastErrors
  errors : p.errors = o.errors ∧ p.fault = o.fault
  route : p.route = o.route

theorem Odo.sensed_counted (e : Edge) (b : Bool) (o : Odo) : Counted o (o.sensed e b) := by
  unfold Odo.sensed
  split
  · exact ⟨⟨rfl, rfl, rfl⟩, ⟨rfl, rfl⟩, rfl⟩
  · exact ⟨⟨rfl, rfl, rfl⟩, ⟨rfl, rfl⟩, rfl⟩

theorem execWheelCount_counted (e : Edge) (b : Bool) (s : State) :
    Answers (execWheelCount e b s) fun t => Counted s.odo t.odo := by
  have hsensed := Odo.sensed_counted e b s.odo
  obtain ⟨hsample, herrors, hroute⟩ := hsensed
  unfold execWheelCount
  dsimp only
  split
  · split
    · exact answers_next ⟨hsample, herrors, hroute⟩
    · next x hx =>
      obtain ⟨k, d, hodo⟩ := countOnSegment_odo x b _ hx
      refine answers_finish ?_
      rw [(endOfStep_frame _).2.1, hodo]
      refine ⟨hsample, herrors, .trans ?_ hroute⟩
      simp only [Odo.route, Option.map_some]
      exact (congrArg (Option.map fun e => (e.segment, e.direction, e.length)) hx).symm
  · exact answers_next ⟨hsample, herrors, hroute⟩

/-- A decode error changes lines, error count and odometer fault alone (R97, R108). -/
theorem execDecodeError_odo (s : State) : Answers (execDecodeError s) fun t =>
    t.odo = { s.odo with
      lineA := t.odo.lineA, lineB := t.odo.lineB, errors := t.odo.errors, fault := t.odo.fault,
      faultFresh := t.odo.faultFresh, faultWindows := t.odo.faultWindows } := by
  unfold execDecodeError
  dsimp only
  split
  · split
    · exact answers_finish (by simp)
    · exact answers_next rfl
  · exact answers_next rfl

theorem Odo.faultAged_frame (o : Odo) : o.faultAged.position = o.position ∧ o.faultAged.entry = o.entry := by
  unfold Odo.faultAged
  split
  · split
    · exact ⟨rfl, rfl⟩
    · split
      · exact ⟨rfl, rfl⟩
      · exact ⟨rfl, rfl⟩
  · exact ⟨rfl, rfl⟩

theorem execSpeedSample_odo (s : State) : Answers (execSpeedSample s) fun t =>
    t.odo.position = s.odo.position ∧ t.odo.entry = s.odo.entry := by
  refine answers_finish ?_
  simpa [Odo.sampled] using s.odo.faultAged_frame

/-- What an entry leaves of the odometry unit (R100). -/
theorem execEnterSegment_odo (n d : Nat) (s : State) : Answers (execEnterSegment n d s) fun t =>
    t.odo = { s.odo with position := t.odo.position, entry := t.odo.entry } := by
  refine answers_whenTaken rfl ?_
  split
  · exact answers_refuse rfl
  · split
    · split
      · exact answers_refuse rfl
      · split
        · exact answers_refuse rfl
        · split
          · exact answers_refuse rfl
          · refine answers_finish ?_
            rw [(endOfStep_frame _).2.1, (ok_frame ..).2.2.2.2.2.1, enterSegment]
            dsimp only
            split <;> simp [Odo.entered]
    · exact answers_refuse rfl

@[simp] theorem endEntry_odo (s : State) : (endEntry s).odo = { s.odo with entry := none } := by
  unfold endEntry
  split
  · next h =>
    have hnone : s.odo.entry = none := by simpa [State.currentSegment] using h
    rw [← hnone]
  · dsimp only
    split <;> simp

theorem execStopRoute_odo (s : State) : Answers (execStopRoute s) fun t =>
    t.odo = { s.odo with entry := t.odo.entry } := by
  refine answers_whenTaken rfl ?_
  split
  · exact answers_finish (by simp)
  · exact answers_refuse rfl

theorem endRoute_odo (send : Bool) (s : State) :
    (endRoute send s).odo = s.odo ∨ (endRoute send s).odo = { s.odo with entry := none } := by
  unfold endRoute
  dsimp only
  split
  · split
    · exact .inr (by simp)
    · exact .inr (by simp)
  · exact .inl rfl

theorem execLeave_odo (s : State) : Answers (execLeave s) fun t => t.odo = { s.odo with entry := t.odo.entry } := by
  have ended {t : State} {send : Bool} {x : State} (hx : x.odo = s.odo) (h : t.odo = (endRoute send x).odo) :
      t.odo = { s.odo with entry := t.odo.entry } := by
    rcases endRoute_odo send x with hodo | hodo
    · rw [h, hodo, hx]
    · rw [h, hodo, hx]
  refine answers_whenTaken rfl ?_
  split
  · exact answers_refuse rfl
  · split
    · exact answers_next (by simp)
    · exact answers_finish (ended (send := true) (x := s.onStation fun t =>
        { t with leavePending := true, leaveMs := 0, leaveFrames := [], presenceMs := 0 }) rfl (by simp))
  · exact answers_finish (ended (send := false) (x := s) rfl (by simp))

theorem exec_odoAlone (c : Instr) (s : State) (hreset : isReset c = false) (hrecord : ∀ f, c ≠ .configure f) :
    Answers (exec c s) fun t => OdoAlone c s.odo t.odo := by
  cases h : movesOdo c with
  | false => exact (exec_course c s h).mono fun _ ht => .of_eq ht.odo
  | true =>
    cases c with
    | wheelCount e b =>
      refine (execWheelCount_counted e b s).mono fun t ht => ?_
      exact ⟨fun _ => ht.sample, fun _ hc => absurd rfl (hc e b), fun _ _ => ht.errors, fun hc => absurd rfl (hc e b),
        fun _ _ _ => ht.route⟩
    | decodeError =>
      refine (execDecodeError_odo s).mono fun t ht => ?_
      rw [ht]
      exact ⟨fun _ => ⟨rfl, rfl, rfl⟩, fun _ _ => rfl, fun _ hc => absurd rfl hc, fun _ _ => rfl, fun _ _ _ => rfl⟩
    | speedSample =>
      refine (execSpeedSample_odo s).mono fun t ht => ?_
      exact ⟨fun hc => absurd rfl hc, fun hc => absurd rfl hc, fun hc => absurd rfl hc, fun _ _ => ht.1,
        fun _ _ _ => by rw [Odo.route, ht.2, Odo.route]⟩
    | enterSegment n d =>
      refine (execEnterSegment_odo n d s).mono fun t ht => ?_
      rw [ht]
      exact ⟨fun _ => ⟨rfl, rfl, rfl⟩, fun _ _ => rfl, fun _ _ => ⟨rfl, rfl⟩, fun _ hc => absurd rfl (hc n d),
        fun hc => absurd rfl (hc n d)⟩
    | stopRoute =>
      refine (execStopRoute_odo s).mono fun t ht => ?_
      rw [ht]
      exact ⟨fun _ => ⟨rfl, rfl, rfl⟩, fun _ _ => rfl, fun _ _ => ⟨rfl, rfl⟩, fun _ _ => rfl, fun _ hc => absurd rfl hc⟩
    | leave =>
      refine (execLeave_odo s).mono fun t ht => ?_
      rw [ht]
      exact ⟨fun _ => ⟨rfl, rfl, rfl⟩, fun _ _ => rfl, fun _ _ => ⟨rfl, rfl⟩, fun _ _ => rfl,
        fun _ _ hc => absurd rfl hc⟩
    | configure f => exact absurd rfl (hrecord f)
    | powerOn => cases hreset
    | resetN => cases hreset
    | restart => cases hreset
    | _ => cases h

/-! ### Scanner, segments, claims and entry numbers -/

/-- What O5 says of the other blocks at a command other than a reset and CONFIGURE. -/
structure SamplesAlone (c : Instr) (s t : State) : Prop where
  history : c ≠ .speedSample → t.motion.history = s.motion.history
  scanner : (∀ w p, c ≠ .scannerSample w p) → t.motion.warning = s.motion.warning ∧
    t.motion.warnCounter = s.motion.warnCounter ∧ t.motion.lastProt = s.motion.lastProt ∧
    (t.motion.latch = s.motion.latch ∨ c = .guestCleared ∧ t.motion.latch = false)
  loaded : (∀ f, c ≠ .loadSegment f) → c ≠ .clearSegments →
    t.segs.records.map Segment.loaded = s.segs.records.map Segment.loaded
  own : ∀ r ∈ t.claims.own, (∃ x ∈ s.claims.own, SameClaim x r) ∨ ∃ i u, c = .requestClaim r.segment i u
  nextEntry : s.channel.nextEntry ≤ t.channel.nextEntry

theorem Sampled.alone {s t : State} (c : Instr) (h : Sampled s t) : SamplesAlone c s t := by
  obtain ⟨⟨hhistory, hwarning, hcounter, hprot, hlatch⟩, hloaded, hown, hnext⟩ := h
  exact ⟨fun _ => hhistory, fun _ => ⟨hwarning, hcounter, hprot, .inl hlatch⟩, fun _ _ => hloaded,
    fun r hr => .inl (hown r hr), hnext⟩

theorem Owns.samplesAlone {c : Instr} {s u : State} (h : Owns c s u) (hrecord : ∀ f, c ≠ .configure f) :
    SamplesAlone c s u := by
  have same : ∀ r ∈ s.claims.own, (∃ x ∈ s.claims.own, SameClaim x r) ∨ ∃ i u, c = .requestClaim r.segment i u :=
    fun r hr => .inl ⟨r, hr, .refl r⟩
  have kept {u : State} (h : Sampled s u) : SamplesAlone c s u := h.alone c
  cases h with
  | nothing => exact kept (.refl s)
  | clock => exact kept (sampled_of_blocks rfl rfl rfl rfl)
  | record f => exact absurd rfl (hrecord f)
  | beacon => exact kept (sampled_of_blocks rfl rfl rfl rfl)
  | stock => exact kept (sampled_of_blocks rfl rfl rfl rfl)
  | pulse => exact kept (sampled_of_blocks rfl rfl rfl rfl)
  | sample => exact ⟨fun hc => absurd rfl hc, fun _ => ⟨rfl, rfl, rfl, .inl rfl⟩, fun _ _ => rfl, same, le_rfl⟩
  | scan w p _ _ hscan =>
    exact ⟨fun _ => hscan.history, fun hc => absurd rfl (hc w p), fun _ _ => hscan.loaded,
      fun r hr => .inl (hscan.own r hr), hscan.nextEntry⟩
  | latch => exact ⟨fun _ => rfl, fun _ => ⟨rfl, rfl, rfl, .inr ⟨rfl, rfl⟩⟩, fun _ _ => rfl, same, le_rfl⟩
  | claim n i _ u =>
    refine ⟨fun _ => rfl, fun _ => ⟨rfl, rfl, rfl, .inl rfl⟩, fun _ _ => rfl, fun r hr => ?_, le_rfl⟩
    rcases List.mem_append.1 hr with hr | hr
    · exact same r hr
    · rw [List.mem_singleton.1 hr]
      exact .inr ⟨i, u, rfl⟩
  | load f => exact ⟨fun _ => rfl, fun _ => ⟨rfl, rfl, rfl, .inl rfl⟩, fun hc => absurd rfl (hc f), same, le_rfl⟩
  | clear => exact ⟨fun _ => rfl, fun _ => ⟨rfl, rfl, rfl, .inl rfl⟩, fun _ hc => absurd rfl hc, same, le_rfl⟩

theorem SamplesAlone.trans_sampled {c : Instr} {s u t : State} (h : SamplesAlone c s u) (k : Sampled u t) :
    SamplesAlone c s t := by
  obtain ⟨⟨hhistory, hwarning, hcounter, hprot, hlatch⟩, hloaded, hown, hnext⟩ := k
  refine ⟨fun hc => hhistory.trans (h.history hc), fun hc => ?_, fun hc hd => hloaded.trans (h.loaded hc hd),
    fun r hr => ?_, h.nextEntry.trans hnext⟩
  · rw [hwarning, hcounter, hprot, hlatch]
    exact h.scanner hc
  · obtain ⟨y, hy, hyr⟩ := hown r hr
    rcases h.own y hy with ⟨x, hx, hxy⟩ | ⟨i, u, hc⟩
    · exact .inl ⟨x, hx, hxy.trans hyr⟩
    · exact .inr ⟨i, u, hyr.1 ▸ hc⟩

/-- Settles O5: the odometry unit command by command, the other blocks by what each owner changes. -/
theorem samplesLatchesAndRecordsHaveTheirOwners : Obligations.SamplesLatchesAndRecordsHaveTheirOwners := by
  intro c s t ht hreset hrecord
  obtain ⟨hsample, hnet, herrors, hposition, hroute⟩ := (exec_odoAlone c s hreset hrecord).of_eq ht
  obtain ⟨u, howns, hkeeps⟩ := does_of_exec hreset ht
  obtain ⟨hhistory, hscanner, hloaded, hown, hnext⟩ := (howns.samplesAlone hrecord).trans_sampled hkeeps.sampled
  refine ⟨fun hc => ?_, hnet, herrors, hposition, hroute, hscanner, hloaded, hown, hnext⟩
  obtain ⟨hspeed, hsense, hlast⟩ := hsample hc
  exact ⟨hspeed, hsense, hlast, hhistory hc⟩

end Sys2Proof.Machine

/-! ## Requests: refusals and the end of a step (O14, O15, O20) -/

namespace Sys2Proof.Machine

/-! ### Refusals leave the state (O15) -/

/-- A request has been answered OK, lost with its transaction, or has changed nothing but the reply (R185, R186). -/
def Replies (s t : State) : Prop :=
  (∃ bs, t.host.reply = some (statusOk :: bs)) ∨ t.host.reply = none ∨ t = { s with host := { s.host with reply := t.host.reply } }

theorem whenTaken_replies {s : State} {r : Result} (h : Answers r (Replies s)) : Answers (whenTaken s r) (Replies s) :=
  answers_whenTaken (.inr (.inl rfl)) h

theorem refuse_replies (b : Byte) (s : State) : Answers (refuse b s) (Replies s) := answers_refuse (.inr (.inr rfl))

theorem reply_replies (bs : List Byte) (s : State) : Answers (.next (reply bs s)) (Replies s) :=
  answers_next (.inr (.inr rfl))

theorem ok_replies {s : State} (bs : List Byte) (x : State) : Answers (.next (ok bs x)) (Replies s) :=
  answers_next (.inl ⟨bs, rfl⟩)

/-- The end of a step changes no reply (R184). -/
theorem finish_ok_replies {s : State} (bs : List Byte) (x : State) : Answers (finish (ok bs x)) (Replies s) :=
  answers_finish (.inl ⟨bs, by simp⟩)

/-- Every request is answered OK or changes nothing else: one case for each path of its meaning. -/
theorem request_replies (c : Instr) (s : State) (h : isRequest c = true) : Answers (exec c s) (Replies s) := by
  cases c with
  | readStatus => exact whenTaken_replies (answers_next (.inl ⟨_, rfl⟩))
  | takeEvent =>
    refine whenTaken_replies ?_
    split
    · exact ok_replies _ _
    · exact ok_replies _ _
  | configure =>
    refine whenTaken_replies ?_
    split
    · exact refuse_replies _ s
    · split
      · exact reply_replies _ s
      · exact finish_ok_replies _ _
  | loadSegment =>
    refine whenTaken_replies ?_
    split
    · exact refuse_replies _ s
    · split
      · exact reply_replies _ s
      · split
        · exact refuse_replies _ s
        · exact finish_ok_replies _ _
  | clearSegments =>
    refine whenTaken_replies ?_
    split
    · exact refuse_replies _ s
    · exact finish_ok_replies _ _
  | join =>
    refine whenTaken_replies ?_
    split
    · exact ok_replies _ _
    · exact refuse_replies _ s
  | leave =>
    refine whenTaken_replies ?_
    split
    · exact refuse_replies _ s
    · split
      · exact ok_replies _ _
      · exact finish_ok_replies _ _
    · exact finish_ok_replies _ _
  | restart => exact whenTaken_replies (ok_replies _ _)
  | readSegment =>
    refine whenTaken_replies ?_
    split
    · exact refuse_replies _ s
    · exact ok_replies _ _
  | readCells =>
    refine whenTaken_replies ?_
    split
    · exact refuse_replies _ s
    · exact ok_replies _ _
  | reportTemperature =>
    refine whenTaken_replies ?_
    split
    · exact refuse_replies _ s
    · exact finish_ok_replies _ _
  | markSnowfall =>
    refine whenTaken_replies ?_
    split
    · exact refuse_replies _ s
    · split
      · exact finish_ok_replies _ _
      · exact refuse_replies _ s
  | requestClaim =>
    refine whenTaken_replies ?_
    split
    · exact refuse_replies _ s
    · split
      · split
        · exact reply_replies _ s
        · split
          · exact refuse_replies _ s
          · dsimp only
            split
            · exact ok_replies _ _
            · exact finish_ok_replies _ _
      · exact refuse_replies _ s
  | releaseClaim =>
    refine whenTaken_replies ?_
    split
    · exact refuse_replies _ s
    · split
      · exact refuse_replies _ s
      · split
        · exact finish_ok_replies _ _
        · exact finish_ok_replies _ _
        · split
          · exact refuse_replies _ s
          · exact finish_ok_replies _ _
  | readClaims => exact whenTaken_replies (ok_replies _ _)
  | enterSegment =>
    refine whenTaken_replies ?_
    split
    · exact refuse_replies _ s
    · split
      · split
        · exact refuse_replies _ s
        · split
          · exact refuse_replies _ s
          · split
            · exact refuse_replies _ s
            · exact finish_ok_replies _ _
      · exact refuse_replies _ s
  | start =>
    refine whenTaken_replies ?_
    split
    · exact refuse_replies _ s
    · split
      · split
        · exact refuse_replies _ s
        · split
          · exact refuse_replies _ s
          · exact finish_ok_replies _ _
      · split
        · exact finish_ok_replies _ _
        · exact reply_replies _ s
      · exact refuse_replies _ s
  | armStart =>
    refine whenTaken_replies ?_
    split
    · exact refuse_replies _ s
    · split
      · exact refuse_replies _ s
      · split
        · exact refuse_replies _ s
        · split
          · exact refuse_replies _ s
          · exact finish_ok_replies _ _
  | stopRoute =>
    refine whenTaken_replies ?_
    split
    · exact finish_ok_replies _ _
    · exact refuse_replies _ s
  | sendGo =>
    refine whenTaken_replies ?_
    split
    · exact finish_ok_replies _ _
    · exact refuse_replies _ s
  | sendHold =>
    refine whenTaken_replies ?_
    split
    · split
      · exact finish_ok_replies _ _
      · exact refuse_replies _ s
    · exact refuse_replies _ s
  | sendResume =>
    refine whenTaken_replies ?_
    split
    · dsimp only
      split
      · exact finish_ok_replies _ _
      · exact finish_ok_replies _ _
      · exact finish_ok_replies _ _
      · exact finish_ok_replies _ _
    · exact refuse_replies _ s
  | setBeacon =>
    refine whenTaken_replies ?_
    split
    · exact ok_replies _ _
    · exact refuse_replies _ s
  | loadStock => exact whenTaken_replies (finish_ok_replies _ _)
  | raiseCallout =>
    refine whenTaken_replies ?_
    split
    · exact refuse_replies _ s
    · split
      · exact refuse_replies _ s
      · split
        · exact refuse_replies _ s
        · exact finish_ok_replies _ _
  | _ => cases h

/-- Settles O15: of the three ways a request ends, the refusal is the one with a status other than OK. -/
theorem refusalsLeaveTheState : Obligations.RefusalsLeaveTheState := by
  intro c s t b r hrequest ht hreply hb
  rcases (request_replies c s hrequest).of_eq ht with ⟨bs, hok⟩ | hnone | hrest
  · rw [hok] at hreply
    cases hreply
    exact absurd rfl hb
  · rw [hnone] at hreply
    cases hreply
  · exact hrest

/-! ### Requests outside the availability table (O14) -/

/-- What the table says of a request in this station's state (R187). -/
def State.admitted (s : State) (c : Instr) : Bool :=
  admits c s.station.state s.station.leavePending s.station.config.cls

/-- A request that asks for an ACTIVE station without a pending Leave, from either class. -/
theorem not_working_of_not_admitted {c : Instr} {s : State} (hrow : availability c = ⟨false, false, true, false, false, true⟩)
    (h : s.admitted c = false) : s.working = false := by
  simp only [State.admitted, admits, hrow] at h
  cases hstate : s.station.state <;> cases hleaving : s.station.leavePending <;>
    simp_all [State.working]

/-- A request that asks for a ROBOT in ACTIVE without a pending Leave. -/
theorem not_mayDrive_of_not_admitted {c : Instr} {s : State}
    (hrow : availability c = ⟨false, false, true, false, false, false⟩) (h : s.admitted c = false) :
    s.mayDrive = false := by
  simp only [State.admitted, admits, hrow, Bool.or_false] at h
  cases hstate : s.station.state <;> cases hleaving : s.station.leavePending <;>
    simp_all [State.mayDrive, State.working, State.isRobot, State.cfg]

/-- A request that asks for an OFFLINE station. -/
theorem online_of_not_admitted {c : Instr} {s : State} (hrow : availability c = ⟨true, false, false, false, false, true⟩)
    (h : s.admitted c = false) : s.station.state ≠ .offline := by
  intro hoff
  simp [State.admitted, admits, hrow, hoff] at h

/-- A request that the table admits everywhere. -/
theorem admitted_of_row {c : Instr} {s : State} (hrow : availability c = ⟨true, true, true, true, true, true⟩) :
    s.admitted c = true := by
  simp only [State.admitted, admits, hrow]
  cases s.station.state <;> cases s.station.leavePending <;> simp

theorem offline_of_leave_not_admitted {s : State} (h : s.admitted .leave = false) : s.station.state = .offline := by
  simp only [State.admitted, admits, availability] at h
  cases hstate : s.station.state <;> cases hleaving : s.station.leavePending <;> simp_all

theorem state_of_releaseClaim_not_admitted {n : Nat} {s : State} (h : s.admitted (.releaseClaim n) = false) :
    ¬ (s.station.state = .active ∨ s.station.state = .silent) := by
  simp only [State.admitted, admits, availability] at h
  cases hstate : s.station.state <;> cases hleaving : s.station.leavePending <;> simp_all

theorem state_of_stopRoute_not_admitted {s : State} (h : s.admitted .stopRoute = false) :
    ¬ (s.isRobot = true ∧ (s.station.state = .active ∨ s.station.state = .silent)) := by
  simp only [State.admitted, admits, availability] at h
  cases hstate : s.station.state <;> cases hleaving : s.station.leavePending <;>
    simp_all [State.isRobot, State.cfg]

theorem state_of_markSnowfall_not_admitted {a b k d : Nat} {s : State}
    (h : s.admitted (.markSnowfall a b k d) = false) : d = 1 ∧ s.station.state ≠ .active := by
  by_cases hd : d = 1
  · refine ⟨hd, fun hactive => ?_⟩
    simp only [State.admitted, admits, availability, hd, hactive] at h
    cases hleaving : s.station.leavePending <;> simp_all
  · have := admitted_of_row (c := .markSnowfall a b k d) (s := s) (if_neg hd)
    simp [this] at h

/-- Settles O14: each request first tests what its row of the table says. -/
theorem requestsOutsideTheTableAreRefused : Obligations.RequestsOutsideTheTableAreRefused := by
  intro c s hsel hrequest (h : s.admitted c = false)
  have refused {r : Result} (hr : r = refuse refusedState s) :
      whenTaken s r = .next { s with host := { s.host with reply := some [0x01] } } := by
    rw [whenTaken_taken _ _ hsel, hr]; rfl
  have admitted (hrow : availability c = ⟨true, true, true, true, true, true⟩) : False := by
    simp [admitted_of_row hrow] at h
  cases c with
  | configure f => exact refused (if_pos (online_of_not_admitted rfl h))
  | loadSegment f => exact refused (if_pos (online_of_not_admitted rfl h))
  | clearSegments => exact refused (if_pos (online_of_not_admitted rfl h))
  | join => exact refused (if_neg fun hoff => online_of_not_admitted rfl h hoff.1)
  | leave => exact refused (by rw [offline_of_leave_not_admitted h])
  | requestClaim n i u => exact refused (if_pos (by simp [not_working_of_not_admitted rfl h]))
  | releaseClaim n => exact refused (if_pos (state_of_releaseClaim_not_admitted h))
  | enterSegment n d => exact refused (if_pos (by simp [not_mayDrive_of_not_admitted rfl h]))
  | start => exact refused (if_pos (by simp [not_mayDrive_of_not_admitted rfl h]))
  | armStart => exact refused (if_pos (by simp [not_mayDrive_of_not_admitted rfl h]))
  | stopRoute => exact refused (if_neg (state_of_stopRoute_not_admitted h))
  | sendGo => exact refused (if_neg (by simp [State.mayCommandGroup, not_working_of_not_admitted rfl h]))
  | sendHold t r => exact refused (if_neg (by simp [State.mayCommandGroup, not_working_of_not_admitted rfl h]))
  | sendResume => exact refused (if_neg (by simp [State.mayCommandGroup, not_working_of_not_admitted rfl h]))
  | raiseCallout u n k d => exact refused (if_pos (by simp [not_working_of_not_admitted rfl h]))
  | markSnowfall a b k d => exact refused (if_pos (state_of_markSnowfall_not_admitted h))
  | readStatus => exact (admitted rfl).elim
  | takeEvent => exact (admitted rfl).elim
  | restart => exact (admitted rfl).elim
  | readSegment => exact (admitted rfl).elim
  | readCells => exact (admitted rfl).elim
  | reportTemperature => exact (admitted rfl).elim
  | readClaims => exact (admitted rfl).elim
  | setBeacon => exact (admitted rfl).elim
  | loadStock => exact (admitted rfl).elim
  | _ => cases hrequest

/-! ### The end of a step (O20) -/

theorem settleLeave_eq_self (s : State) (h : s.station.leavePending = false) : settleLeave s = s := by
  simp [settleLeave, h]

/-- With no Leave to complete the end of a step settles the feed (R32, R150). -/
theorem endOfStep_eq_settleFeed (s : State) (h : s.station.leavePending = false) : endOfStep s = settleFeed s := by
  rw [endOfStep, settleLeave_eq_self s h]

/-- The dosing unit after the feed is settled. -/
def State.settled (s : State) : Dosing :=
  if s.feedShouldRun then
    if s.dosing.active ∧ s.dosing.dose = s.dosing.need then s.dosing else Dosing.fed s.cfg s.odo.speed s.dosing
  else if s.dosing.active then s.dosing.stopped
  else s.dosing

theorem settleFeed_eq (s : State) : settleFeed s = { s with dosing := s.settled } := by
  unfold settleFeed State.settled
  split
  · split <;> rfl
  · split <;> rfl

/-- The record of the current segment carries its number. -/
theorem currentRecord_eq_some (s : State) (r : Segment) : s.currentRecord = some r ↔
    ∃ n, s.odo.entry.map (·.segment) = some n ∧ s.segs.records.find? (·.number == n) = some r := by
  simp only [State.currentRecord, State.currentSegment, State.segment?, Option.bind_eq_some_iff]

/-- The salting conditions that the current segment and its claim give (R150). -/
def State.saltedHere (s : State) : Prop :=
  ∃ n r c, s.odo.entry.map (·.segment) = some n ∧ s.segs.records.find? (·.number == n) = some r ∧
    r.saltPermitted = true ∧ s.claims.own.find? (·.segment == n) = some c ∧ c.state = .holding ∧
    (c.intent = .plow ∨ c.intent = .salt)

theorem not_transit_iff (i : Intent) : (!(i == .transit)) = true ↔ i = .plow ∨ i = .salt := by
  cases i <;> decide

theorem saltedHere_iff (s : State) : s.saltedHere ↔
    ∃ r c, s.currentRecord = some r ∧ r.saltPermitted = true ∧ s.ownClaim? r.number = some c ∧ c.state = .holding ∧
      (c.intent = .plow ∨ c.intent = .salt) := by
  constructor
  · rintro ⟨n, r, c, hentry, hrecord, hsalt, hclaim, hrest⟩
    have hn : r.number = n := by simpa using List.find?_some hrecord
    exact ⟨r, c, (currentRecord_eq_some s r).2 ⟨n, hentry, hrecord⟩, hsalt, by rw [hn]; exact hclaim, hrest⟩
  · rintro ⟨r, c, hcurrent, hsalt, hclaim, hrest⟩
    obtain ⟨n, hentry, hrecord⟩ := (currentRecord_eq_some s r).1 hcurrent
    have hn : r.number = n := by simpa using List.find?_some hrecord
    exact ⟨n, r, c, hentry, hrecord, hsalt, by rw [← hn]; exact hclaim, hrest⟩

theorem saltingConditions_iff (s : State) : s.saltingConditions = true ↔
    s.isRobot = true ∧ s.motion.warning = false ∧ s.station.config.feedCal ≤ s.dosing.stock ∧ s.saltedHere := by
  rw [saltedHere_iff, State.saltingConditions]
  cases hrecord : s.currentRecord with
  | none => simp
  | some r =>
    cases hclaim : s.ownClaim? r.number with
    | none => simp [hclaim]
    | some c =>
      simp only [hclaim, Bool.and_eq_true, decide_eq_true_eq, not_transit_iff]
      simp [hclaim, and_assoc, State.cfg]

theorem feedShouldRun_iff (s : State) : s.feedShouldRun = true ↔
    s.station.configValid = true ∧ s.station.config.cls = .robot ∧ s.motion.warning = false ∧
      s.station.config.feedCal ≤ s.dosing.stock ∧
      (s.motion.state = .run ∨ s.motion.state = .caution ∨ s.motion.state = .stopping) ∧ s.saltedHere := by
  rw [State.feedShouldRun, Bool.and_eq_true, saltingConditions_iff]
  simp only [State.isRobot, State.cfg, Bool.and_eq_true, Bool.or_eq_true, beq_iff_eq]
  tauto

/-- The dosing unit with the feed active on the need: limit, rate and accumulator (R155 to R157, R159). -/
theorem Dosing.fed_eq (cfg : Configuration) (v : Nat) (d : Dosing) :
    (d.fed cfg v).active = true ∧ (d.fed cfg v).dose = d.need ∧ (d.fed cfg v).vSalt = saltLimit cfg d.need ∧
      (d.fed cfg v).rate = min (uncappedRate cfg d.need v) (cfg.feedMax * 16) ∧
      (d.fed cfg v).acc = if (d.fed cfg v).rate = 0 then 0 else d.acc := ⟨rfl, rfl, rfl, rfl, rfl⟩

/-- Settles O20: with no Leave to complete the end of a step is `settleFeed`, branch by branch. -/
theorem endOfStepSettlesTheFeed : Obligations.EndOfStepSettlesTheFeed := by
  intro s hleaving
  obtain ⟨hstock, hlow, hneed⟩ : s.settled.stock = s.dosing.stock ∧ s.settled.low = s.dosing.low ∧
      s.settled.need = s.dosing.need := by
    have hframe := settleFeed_frame s
    rw [settleFeed_eq] at hframe
    exact hframe.2.2.2.2.2.2.2.2.2.2
  refine ⟨s.settled, by rw [endOfStep_eq_settleFeed s hleaving, settleFeed_eq], feedShouldRun_iff s, hstock, hlow, hneed,
    fun hagrees hdose => ?_, fun hactive hstops => ?_, fun hruns hchanged => ?_⟩
  · cases hrun : s.feedShouldRun with
    | true =>
      have hactive := hagrees.trans hrun
      simp [State.settled, hrun, hactive, hdose hactive]
    | false => simp [State.settled, hrun, hagrees.trans hrun]
  · have hsettled : s.settled = s.dosing.stopped := by simp [State.settled, hstops, hactive]
    rw [hsettled]
    exact ⟨rfl, rfl, rfl, rfl, rfl, rfl⟩
  · have hsettled : s.settled = Dosing.fed s.cfg s.odo.speed s.dosing := by
      have hnot : ¬ (s.dosing.active = true ∧ s.dosing.dose = s.dosing.need) := by
        rintro ⟨hactive, hdose⟩
        exact hchanged.elim (by simp [hactive]) (absurd hdose)
      rw [State.settled, if_pos hruns, if_neg hnot]
    rw [hsettled]
    exact Dosing.fed_eq s.cfg s.odo.speed s.dosing

end Sys2Proof.Machine

/-! ## The laws of the motion supervisor (O8): the operations

`Stance free s` is `State.MotionLaw` with the condition of its ninth law a parameter: at a Leave accepted in ACTIVE the
robot comes to rest after the Leave has become pending. -/

namespace Sys2Proof.Machine

/-- The laws of the motion supervisor, the robot being parked where `free` says so (R114, R117, R129, R136, R138, R147). -/
structure Stance (free : Prop) (s : State) : Prop where
  held : s.group.holds ≠ [] → s.motion.state ≠ .run ∧ s.motion.state ≠ .caution ∧ s.motion.state ≠ .retained
  still : s.motion.state ≠ .run → s.motion.state ≠ .caution → s.motion.state ≠ .stopping → s.motion.ceiling = 0
  armed : s.group.retained = true →
    s.motion.state = .retained ∨ s.motion.state = .groupHold ∨ s.motion.state = .guestStop
  faults : s.motion.faults ≠ FaultSet.empty ↔ s.motion.state = .faultStop
  latched : s.motion.latch = true → s.motion.state ≠ .run ∧ s.motion.state ≠ .caution ∧ s.motion.state ≠ .stopping
  offline : s.station.state = .offline → s.group.retained = false
  crawl : s.motion.state = .caution → s.motion.ceiling ≤ s.station.config.crawl
  limit : ∀ n ∈ s.currentRecord.map (·.speedLimit), s.motion.ceiling ≤ n
  parked : free → s.motion.state = .idle ∨ s.motion.state = .faultStop
  robot : s.isRobot = false → s.motion.state = .idle

/-- The station is OFFLINE or has a Leave pending: no robot drives (R31). -/
def State.mustPark (s : State) : Prop := s.station.state = .offline ∨ s.station.leavePending = true

theorem motionLaw_iff (s : State) : s.MotionLaw ↔ Stance s.mustPark s := by
  constructor
  · rintro ⟨held, still, armed, faults, latched, offline, crawl, limit, parked, robot⟩
    exact ⟨held, still, armed, faults, latched, offline, crawl, by simpa using limit, parked, robot⟩
  · rintro ⟨held, still, armed, faults, latched, offline, crawl, limit, parked, robot⟩
    exact ⟨held, still, armed, faults, latched, offline, crawl, by simpa using limit, parked, robot⟩

/-- A robot that stands neither in IDLE nor in FAULT_STOP is a ROBOT that need not park (R31, R136). -/
theorem Stance.drives {free : Prop} {s : State} (h : Stance free s) (hidle : s.motion.state ≠ .idle)
    (hfault : s.motion.state ≠ .faultStop) : ¬ free ∧ s.isRobot = true := by
  refine ⟨fun hfree => (h.parked hfree).elim hidle hfault, ?_⟩
  cases hrobot : s.isRobot with
  | true => rfl
  | false => exact absurd (h.robot hrobot) hidle

/-- The laws go on holding, whatever says that the robot must park. -/
def Steady (s t : State) : Prop := ∀ free, Stance free s → Stance free t

theorem Steady.refl (s : State) : Steady s s := fun _ h => h

theorem Steady.trans {s t u : State} (h : Steady s t) (k : Steady t u) : Steady s u := fun free hs => k free (h free hs)

/-! ### What the laws depend on -/

/-- The speed limit of the current segment is among the loaded fields (R44, R114). -/
theorem currentLimit_eq {s t : State} (hloaded : t.segs.records.map Segment.loaded = s.segs.records.map Segment.loaded)
    (hentry : t.currentSegment = s.currentSegment) :
    t.currentRecord.map (·.speedLimit) = s.currentRecord.map (·.speedLimit) := by
  have hfind (l : List Segment) (n : Nat) : (l.find? (·.number == n)).map (·.speedLimit) =
      ((l.map Segment.loaded).find? (·.1 == n)).map (·.2.2.1) := by
    rw [List.find?_map, Option.map_map]
    rfl
  simp only [State.currentRecord, hentry]
  cases s.currentSegment with
  | none => rfl
  | some n => simp only [Option.bind_some, State.segment?, hfind, hloaded]

/-- An operation that may lower the ceiling, and changes else nothing that the laws name. -/
theorem Stance.lowered {free : Prop} {s t : State} (h : Stance free s) (hstate : t.motion.state = s.motion.state)
    (hceiling : t.motion.ceiling ≤ s.motion.ceiling) (hfaults : t.motion.faults = s.motion.faults)
    (hlatch : t.motion.latch = s.motion.latch) (hholds : t.group.holds = s.group.holds)
    (hretained : t.group.retained = s.group.retained) (hoffline : t.station.state = .offline → s.station.state = .offline)
    (hconfig : t.station.config = s.station.config) (hvalid : t.station.configValid = s.station.configValid)
    (hlimit : ∀ n ∈ t.currentRecord.map (·.speedLimit), t.motion.ceiling ≤ n) : Stance free t := by
  obtain ⟨held, still, armed, faults, latched, offline, crawl, -, parked, robot⟩ := h
  have hrobot : t.isRobot = s.isRobot := by simp only [State.isRobot, State.cfg, hvalid, hconfig]
  refine ⟨?_, ?_, ?_, ?_, ?_, ?_, ?_, hlimit, ?_, ?_⟩
  · rwa [hholds, hstate]
  · rw [hstate]
    exact fun hrun hcaution hstopping => Nat.le_zero.1 ((still hrun hcaution hstopping) ▸ hceiling)
  · rwa [hretained, hstate]
  · rwa [hfaults, hstate]
  · rwa [hlatch, hstate]
  · rw [hretained]
    exact fun hoff => offline (hoffline hoff)
  · rw [hstate, hconfig]
    exact fun hcaution => hceiling.trans (crawl hcaution)
  · rwa [hstate]
  · rwa [hrobot, hstate]

/-- An operation that keeps what every operation keeps, and motion state, ceiling, faults, holds, retained flag, station
state and current segment. -/
theorem steady_of_keeps {s t : State} (h : Keeps s t) (hstate : t.motion.state = s.motion.state)
    (hceiling : t.motion.ceiling = s.motion.ceiling) (hfaults : t.motion.faults = s.motion.faults)
    (hholds : t.group.holds = s.group.holds) (hretained : t.group.retained = s.group.retained)
    (hstation : t.station.state = s.station.state) (hentry : t.currentSegment = s.currentSegment) : Steady s t := by
  intro free hs
  refine hs.lowered hstate hceiling.le hfaults h.sampled.scanner.2.2.2.2 hholds hretained (fun hoff => hstation ▸ hoff)
    h.owned.config h.owned.configValid ?_
  rw [currentLimit_eq h.sampled.loaded hentry, hceiling]
  exact hs.limit

/-- An operation that leaves motion supervisor, group control, station state and odometry unit. -/
theorem steady_same {s t : State} (h : Keeps s t) (hmotion : t.motion = s.motion) (hgroup : t.group = s.group)
    (hstation : t.station.state = s.station.state) (hodo : t.odo = s.odo) : Steady s t :=
  steady_of_keeps h (by rw [hmotion]) (by rw [hmotion]) (by rw [hmotion]) (by rw [hgroup]) (by rw [hgroup]) hstation
    (by rw [State.currentSegment, hodo, State.currentSegment])

theorem currentRecord_congr {s t : State} (hsegs : t.segs = s.segs) (hodo : t.odo = s.odo) :
    t.currentRecord = s.currentRecord := by
  simp only [State.currentRecord, State.currentSegment, hodo]
  exact congrArg _ (funext fun n => by simp only [State.segment?, hsegs])

/-- The units that the laws name are as they were. -/
def Untouched (s t : State) : Prop :=
  t.motion = s.motion ∧ t.group = s.group ∧ t.station = s.station ∧ t.segs = s.segs ∧ t.odo = s.odo

theorem steady_congr {s t : State} (hsame : Untouched s t) : Steady s t := by
  intro free h
  obtain ⟨hmotion, hgroup, hstation, hsegs, hodo⟩ := hsame
  refine h.lowered (by rw [hmotion]) (by rw [hmotion]) (by rw [hmotion]) (by rw [hmotion]) (by rw [hgroup]) (by rw [hgroup])
    (by rw [hstation]; exact id) (by rw [hstation]) (by rw [hstation]) ?_
  rw [currentRecord_congr hsegs hodo, hmotion]
  exact h.limit

/-! ### Changes of motion state -/

/-- What a change of motion state does, where the state is not already the one chosen (R111, R114, R129, R138). -/
theorem moveTo_values (new : MotionState) (k : MotionCause) (f : FaultSet) (s : State) (h : s.motion.state ≠ new) :
    (moveTo new k f s).motion = s.motion.moved new f s.cfg.crawl ∧
      (moveTo new k f s).group = { s.group with retained := s.group.retained && keepsRetained new } := by
  unfold moveTo
  rw [if_neg h]
  dsimp only
  split <;> simp

theorem moveTo_self (new : MotionState) (k : MotionCause) (f : FaultSet) (s : State) (h : s.motion.state = new) :
    moveTo new k f s = s := by
  rw [moveTo, if_pos h]

theorem clampCeiling_le (new : MotionState) (crawl n : Nat) : clampCeiling new crawl n ≤ n := by
  unfold clampCeiling
  split <;> omega

theorem clampCeiling_still {new : MotionState} (crawl n : Nat) (hrun : new ≠ .run) (hcaution : new ≠ .caution)
    (hstopping : new ≠ .stopping) : clampCeiling new crawl n = 0 := by
  unfold clampCeiling
  split
  · exact absurd rfl hcaution
  · exact absurd rfl hrun
  · exact absurd rfl hstopping
  · rfl

/-- What a change to the motion state `new` needs for the laws to hold after it. -/
structure MayMove (free : Prop) (new : MotionState) (f : FaultSet) (s : State) : Prop where
  held : s.group.holds ≠ [] → new ≠ .run ∧ new ≠ .caution ∧ new ≠ .retained
  armed : s.group.retained = true → new ≠ .stopping
  faults : f ≠ FaultSet.empty ↔ new = .faultStop
  latched : s.motion.latch = true → new ≠ .run ∧ new ≠ .caution ∧ new ≠ .stopping
  offline : s.station.state = .offline → s.group.retained = false
  limit : ∀ n ∈ s.currentRecord.map (·.speedLimit), s.motion.ceiling ≤ n
  parked : free → new = .idle ∨ new = .faultStop
  robot : s.isRobot = false → new = .idle

theorem moveTo_stance {free : Prop} {new : MotionState} {f : FaultSet} {s : State} (k : MotionCause)
    (h : MayMove free new f s) (hs : s.motion.state = new → Stance free s) : Stance free (moveTo new k f s) := by
  by_cases hsame : s.motion.state = new
  · rw [moveTo_self _ _ _ _ hsame]
    exact hs hsame
  · obtain ⟨hmotion, hgroup⟩ := moveTo_values new k f s hsame
    obtain ⟨-, hstation, hsegs, hodo, -⟩ := moveTo_frame new k f s
    have hretained : (moveTo new k f s).group.retained = true →
        s.group.retained = true ∧ keepsRetained new = true := by
      rw [hgroup]
      exact fun hboth => by simpa using hboth
    have hcurrent : (moveTo new k f s).currentRecord = s.currentRecord := currentRecord_congr hsegs hodo
    refine ⟨?_, ?_, fun hr => ?_, ?_, ?_, fun hoff => ?_, ?_, ?_, ?_, ?_⟩
    · rw [hgroup, hmotion]; exact h.held
    · rw [hmotion]; exact fun hrun hcaution hstopping => clampCeiling_still _ _ hrun hcaution hstopping
    · obtain ⟨hold, hnew⟩ := hretained hr
      have hstopping := h.armed hold
      rw [hmotion]
      show new = _ ∨ new = _ ∨ new = _
      cases new <;> simp_all [keepsRetained]
    · rw [hmotion]; exact h.faults
    · rw [hmotion]; exact h.latched
    · rw [hstation] at hoff
      rw [hgroup, h.offline hoff, Bool.false_and]
    · rw [hmotion, hstation]
      rintro (rfl : new = .caution)
      exact min_le_right _ _
    · rw [hcurrent, hmotion]
      exact fun n hn => (clampCeiling_le _ _ _).trans (h.limit n hn)
    · rw [hmotion]; exact h.parked
    · rw [hmotion]
      exact fun hr => h.robot (by simpa [State.isRobot, State.cfg, hstation] using hr)

/-- A change to a state that stands, from any state, but at a station that must stay IDLE (R31, R136). -/
theorem move_standing {free : Prop} {new : MotionState} {s : State} (k : MotionCause) (h : Stance free s)
    (hmoving : new ≠ .run ∧ new ≠ .caution ∧ new ≠ .stopping) (hheld : s.group.holds ≠ [] → new ≠ .retained)
    (hfault : new ≠ .faultStop) (hdrives : new ≠ .idle → ¬ free ∧ s.isRobot = true) : Stance free (move new k s) := by
  obtain ⟨hrun, hcaution, hstopping⟩ := hmoving
  refine moveTo_stance k ⟨fun hh => ⟨hrun, hcaution, hheld hh⟩, fun _ => hstopping, ?_, fun _ => ⟨hrun, hcaution, hstopping⟩,
    h.offline, h.limit, fun hfree => ?_, fun hrobot => ?_⟩ fun _ => h
  · exact ⟨fun hne => absurd rfl hne, fun he => absurd he hfault⟩
  · by_contra hnot
    exact (hdrives fun he => hnot (.inl he)).1 hfree
  · by_contra hnot
    simp [(hdrives hnot).2] at hrobot

/-- Every robot may come to IDLE. -/
theorem move_idle_steady (k : MotionCause) (s : State) : Steady s (move .idle k s) := fun _ h =>
  move_standing k h (by decide) (fun _ => by decide) (by decide) (fun hne => absurd rfl hne)

/-- Entry into RUN or CAUTION of a robot that drives (R117). -/
theorem enterMoving_stance {free : Prop} {s : State} (k : MotionCause) (h : Stance free s)
    (hdrives : ¬ free ∧ s.isRobot = true) : Stance free (enterMoving k s) := by
  have moving {new : MotionState} (hnew : new = .run ∨ new = .caution) (hlatch : ¬ s.motion.latch = true)
      (hholds : ¬ (!s.group.holds.isEmpty) = true) : Stance free (move new k s) := by
    have hholds : s.group.holds = [] := by simpa using hholds
    refine moveTo_stance k ⟨fun hh => absurd hholds hh, fun _ => ?_, ?_, fun hl => absurd hl hlatch, h.offline, h.limit,
      fun hfree => absurd hfree hdrives.1, fun hr => by simp [hdrives.2] at hr⟩ fun _ => h
    · rcases hnew with rfl | rfl <;> decide
    · rcases hnew with rfl | rfl <;> decide
  unfold enterMoving
  split
  · exact move_standing _ h (by decide) (fun _ => by decide) (by decide) fun _ => hdrives
  · next hlatch =>
    split
    · exact move_standing _ h (by decide) (fun _ => by decide) (by decide) fun _ => hdrives
    · next hholds =>
      split
      · exact moving (.inr rfl) hlatch hholds
      · exact moving (.inl rfl) hlatch hholds

/-- A robot that stands neither in IDLE nor in FAULT_STOP may drive on (R117). -/
theorem enterMoving_of_drives {free : Prop} {s : State} (k : MotionCause) (h : Stance free s)
    (hidle : s.motion.state ≠ .idle) (hfault : s.motion.state ≠ .faultStop) : Stance free (enterMoving k s) :=
  enterMoving_stance k h (h.drives hidle hfault)

/-- A robot in RUN or CAUTION is neither held nor armed, and its latch is clear. -/
theorem Stance.moving {free : Prop} {s : State} (h : Stance free s) (hmoving : s.motion.state = .run ∨ s.motion.state = .caution) :
    s.group.holds = [] ∧ s.group.retained = false ∧ s.motion.latch = false ∧ ¬ free ∧ s.isRobot = true := by
  have hdrives := h.drives (by rcases hmoving with e | e <;> simp [e]) (by rcases hmoving with e | e <;> simp [e])
  refine ⟨?_, ?_, ?_, hdrives.1, hdrives.2⟩
  · by_contra hh
    obtain ⟨hrun, hcaution, -⟩ := h.held hh
    exact hmoving.elim hrun hcaution
  · cases hr : s.group.retained with
    | false => rfl
    | true => rcases h.armed hr with e | e | e <;> rcases hmoving with m | m <;> simp [m] at e
  · cases hl : s.motion.latch with
    | false => rfl
    | true =>
      obtain ⟨hrun, hcaution, -⟩ := h.latched hl
      exact (hmoving.elim hrun hcaution).elim

/-- A change between RUN, CAUTION and STOPPING, from RUN or CAUTION. -/
theorem move_moving {free : Prop} {new : MotionState} {s : State} (k : MotionCause) (h : Stance free s)
    (hmoving : s.motion.state = .run ∨ s.motion.state = .caution)
    (hnew : new = .run ∨ new = .caution ∨ new = .stopping) : Stance free (move new k s) := by
  obtain ⟨hholds, hretained, hlatch, hfree, hrobot⟩ := h.moving hmoving
  refine moveTo_stance k ⟨fun hh => absurd hholds hh, fun hr => by simp [hretained] at hr, ?_, fun hl => by simp [hlatch] at hl,
    h.offline, h.limit, fun hf => absurd hf hfree, fun hr => by simp [hrobot] at hr⟩ fun _ => h
  rcases hnew with rfl | rfl | rfl <;> decide

theorem evalCaution_steady (s : State) : Steady s (evalCaution s) := by
  intro free h
  unfold evalCaution
  split
  · next hc => exact move_moving _ h (.inl hc.1) (.inr (.inl rfl))
  · split
    · next hc => exact move_moving _ h (.inr hc.1) (.inl rfl)
    · exact h

/-- A change of motion fields that no law names. -/
theorem onMotion_steady (f : Motion → Motion) (s : State) (hsame : (f s.motion).state = s.motion.state ∧
      (f s.motion).ceiling = s.motion.ceiling ∧ (f s.motion).faults = s.motion.faults ∧
      (f s.motion).latch = s.motion.latch) : Steady s (s.onMotion f) := by
  intro free h
  obtain ⟨hstate, hceiling, hfaults, hlatch⟩ := hsame
  refine h.lowered hstate hceiling.le hfaults hlatch rfl rfl id rfl rfl ?_
  show ∀ n ∈ s.currentRecord.map _, (f s.motion).ceiling ≤ n
  rw [hceiling]
  exact h.limit

/-- A change of group fields that no law names. -/
theorem onGroup_steady (f : Group → Group) (s : State)
    (hsame : (f s.group).holds = s.group.holds ∧ (f s.group).retained = s.group.retained) : Steady s (s.onGroup f) :=
  fun _ h => h.lowered rfl le_rfl rfl rfl hsame.1 hsame.2 id rfl rfl h.limit

/-- The retained flag may always be cleared (R138). -/
theorem disarm_steady (s : State) : Steady s (s.onGroup fun g => { g with retained := false }) := fun _ h =>
  { h with armed := nofun, offline := fun _ => rfl }

theorem enterStopping_stance {free : Prop} {s : State} (e : StopEnd) (k : MotionCause) (h : Stance free s)
    (hmoving : s.motion.state = .run ∨ s.motion.state = .caution) : Stance free (enterStopping e k s) :=
  move_moving k (onMotion_steady _ s ⟨rfl, rfl, rfl, rfl⟩ free h) hmoving (.inr (.inr rfl))

theorem checkStopped_steady (s : State) : Steady s (checkStopped s) := by
  intro free h
  unfold checkStopped
  split
  · next hc =>
    split
    · exact move_idle_steady _ s free h
    · exact move_standing _ h (by decide) (fun _ => by decide) (by decide) fun _ => h.drives (by simp [hc.1]) (by simp [hc.1])
  · exact h

theorem offerNotice_steady (s : State) : Steady s (offerNotice s) :=
  steady_same (offerNotice_keeps s) (by simp) (by simp) (by simp) (by simp)

theorem post_steady (e : Event) (s : State) : Steady s (post e s) :=
  steady_same (post_keeps e s) (by simp) (by simp) (by simp) (by simp)

theorem zoneChanged_steady (z : Zone) (s : State) : Steady s (zoneChanged z s) := by
  unfold zoneChanged
  split
  · exact .refl s
  · exact ((onMotion_steady (fun m => { m with noticeMs := 0 }) s (by simp)).trans
      (post_steady _ _)).trans (offerNotice_steady _)

/-! ### The hold set -/

theorem holdsEmptied_stance {free : Prop} {s : State} (h : Stance free s) (hempty : s.group.holds = []) :
    Stance free (holdsEmptied s) := by
  unfold holdsEmptied
  split
  · next hst =>
    have hdrives := h.drives (by simp [hst]) (by simp [hst])
    split
    · exact move_standing _ h (by decide) (fun hh => absurd hempty hh) (by decide) fun _ => hdrives
    · split
      · exact enterMoving_stance _ h hdrives
      · exact move_idle_steady _ s free h
  · next hst =>
    split
    · split
      · exact enterMoving_stance _ h (h.drives (by simp [hst]) (by simp [hst]))
      · exact onMotion_steady _ s ⟨rfl, rfl, rfl, rfl⟩ free h
    · exact h
  · exact h

/-- Entries may always go. -/
theorem fewerHolds_steady (p : HoldEntry → Bool) (s : State) :
    Steady s (s.onGroup fun g => { g with holds := g.holds.filter p }) := fun _ h =>
  { h with held := fun hh => h.held fun hnil => hh (by simp [hnil]) }

theorem dropHold_steady (o : Nat) (k : HoldRemoval) (s : State) : Steady s (dropHold o k s) := by
  unfold dropHold
  split
  · exact .refl s
  · exact (fewerHolds_steady _ s).trans (post_steady _ _)

theorem removeHold_steady (o : Nat) (k : HoldRemoval) (s : State) : Steady s (removeHold o k s) := by
  intro free h
  unfold removeHold
  split
  · dsimp only
    split
    · next hempty => exact holdsEmptied_stance (dropHold_steady o k s free h) (by simpa using hempty)
    · exact dropHold_steady o k s free h
  · exact h

theorem makeHoldRoom_steady (s : State) : Steady s (makeHoldRoom s) := by
  unfold makeHoldRoom
  split
  · exact .refl s
  · split
    · exact .refl s
    · exact dropHold_steady _ _ s

/-- The laws but the one that a held robot does not move, which a new entry breaks until it is applied (R147). -/
def HeldApart (free : Prop) (s : State) : Prop := Stance free (s.onGroup fun g => { g with holds := [] })

theorem Stance.heldApart {free : Prop} {s : State} (h : Stance free s) : HeldApart free s :=
  { h with held := fun hne => absurd rfl hne }

/-- A new entry, or a new hold type, stops what moves (R147). -/
theorem applyHold_stance {free : Prop} {s : State} (h : HeldApart free s) :
    Stance free (applyHold s) := by
  have hdrives (hidle : s.motion.state ≠ .idle) (hfault : s.motion.state ≠ .faultStop) : ¬ free ∧ s.isRobot = true :=
    h.drives hidle hfault
  have toHold (k : MotionCause) (hidle : s.motion.state ≠ .idle) (hfault : s.motion.state ≠ .faultStop)
      (hne : s.motion.state ≠ .groupHold) : Stance free (move .groupHold k s) := by
    obtain ⟨hfree, hrobot⟩ := hdrives hidle hfault
    exact moveTo_stance k ⟨fun _ => by decide, fun _ => by decide, by decide, fun _ => by decide, h.offline, h.limit, fun hf => absurd hf hfree,
      fun hr => by simp [hrobot] at hr⟩ fun hs => absurd hs hne
  have toStop (hmoving : s.motion.state = .run ∨ s.motion.state = .caution) :
      Stance free (enterStopping .groupHold .hold s) := by
    obtain ⟨-, hretained, hlatch, hfree, hrobot⟩ := h.moving hmoving
    refine moveTo_stance _ ⟨fun _ => by decide, fun hr => ?_, by decide, fun hl => ?_, h.offline, h.limit,
      fun hf => absurd hf hfree, fun hr => ?_⟩ fun hs => ?_
    · have hretained : s.group.retained = false := hretained
      exact absurd hr (by simp [hretained])
    · have hlatch : s.motion.latch = false := hlatch
      exact absurd hl (by simp [hlatch])
    · have hrobot : s.isRobot = true := hrobot
      exact absurd (show s.isRobot = false from hr) (by simp [hrobot])
    · have hs : s.motion.state = .stopping := hs
      rcases hmoving with e | e <;> simp [e] at hs
  have hkept (hrun : s.motion.state ≠ .run) (hcaution : s.motion.state ≠ .caution) (hretained : s.motion.state ≠ .retained) :
      Stance free s := { h with held := fun _ => ⟨hrun, hcaution, hretained⟩ }
  unfold applyHold
  split
  · next hst =>
    split
    · exact toHold _ (by simp [hst]) (by simp [hst]) (by simp [hst])
    · exact toStop (.inl hst)
  · next hst =>
    split
    · exact toHold _ (by simp [hst]) (by simp [hst]) (by simp [hst])
    · exact toStop (.inr hst)
  · next hst =>
    split
    · exact toHold _ (by simp [hst]) (by simp [hst]) (by simp [hst])
    · exact onMotion_steady _ s ⟨rfl, rfl, rfl, rfl⟩ free (hkept (by simp [hst]) (by simp [hst]) (by simp [hst]))
  · next hst => exact toHold _ (by simp [hst]) (by simp [hst]) (by simp [hst])
  · next hrun hcaution hstopping hretained => exact hkept hrun hcaution hretained

end Sys2Proof.Machine

/-! ## The laws of the motion supervisor (O8): holds, faults, routes -/

namespace Sys2Proof.Machine

/-! ### The hold set, and the own hold -/

theorem createHold_heldApart {free : Prop} {s : State} (o : Nat) (t : HoldType) (r : HoldReason) (e : Option Nat)
    (h : Stance free s) : HeldApart free (createHold o t r e s) := by
  have h0 : Stance free (makeHoldRoom s) := makeHoldRoom_steady s free h
  unfold createHold
  dsimp only
  split
  · refine h0.heldApart.lowered (by simp) (by simp) (by simp) (by simp) rfl (by simp) (by simp) (by simp) (by simp) ?_
    rw [currentRecord_congr (s := (makeHoldRoom s).onGroup fun g => { g with holds := [] }) (by simp) (by simp)]
    simpa using h0.heldApart.limit
  · exact h0.heldApart

theorem changeHold_steady (e : HoldEntry) (t : HoldType) (r : HoldReason) (x : Option Nat) (s : State) :
    Steady s (changeHold e t r x s) := by
  intro free h
  unfold changeHold
  generalize hs1 : (s.onGroup fun g => _) = s1
  have h1 : Stance free s1 := by
    rw [← hs1]
    exact { h with held := fun hne => h.held fun hnil => hne (by simp [updateIf, hnil]) }
  dsimp only
  have h2 : Stance free
      (if e.holdType ≠ t ∨ e.reason ≠ r then post (.holdChanged e.originator t r s1.group.holds.length) s1 else s1) := by
    split
    · exact post_steady _ s1 free h1
    · exact h1
  split
  · exact applyHold_stance h2.heldApart
  · exact h2

theorem receiveHold_steady (o : Nat) (t : HoldType) (r : HoldReason) (s : State) : Steady s (receiveHold o t r s) := by
  intro free h
  unfold receiveHold
  split
  · exact changeHold_steady _ t r _ s free h
  · exact applyHold_stance (createHold_heldApart o t r _ h)

/-- Offering a HOLD leaves holds and marks. -/
theorem offerHold_group (s : State) : (offerHold s).group.holds = s.group.holds ∧
    (offerHold s).group.retained = s.group.retained := by
  unfold offerHold
  split
  · exact ⟨rfl, rfl⟩
  · split
    · simp
    · exact ⟨rfl, rfl⟩

theorem offerHold_steady (s : State) : Steady s (offerHold s) :=
  steady_of_keeps (offerHold_keeps s) (by simp) (by simp) (by simp) (offerHold_group s).1 (offerHold_group s).2 (by simp)
    (by simp [State.currentSegment])

theorem offerHold_heldApart {free : Prop} {s : State} (h : HeldApart free s) : HeldApart free (offerHold s) :=
  h.lowered (by simp) (by simp) (by simp) (by simp) rfl (offerHold_group s).2 (by simp) (by simp) (by simp) (by
    rw [currentRecord_congr (s := s.onGroup fun g => { g with holds := [] }) (by simp) (by simp)]
    simpa using h.limit)

theorem raiseOwnHold_steady (s : State) : Steady s (raiseOwnHold s) := by
  intro free h
  unfold raiseOwnHold
  split
  · exact h
  · split
    · refine applyHold_stance (offerHold_heldApart ?_)
      exact onGroup_steady (fun g => { g with repeatMs := 0 }) _ ⟨rfl, rfl⟩ free (createHold_heldApart _ _ _ none h)
    · split
      · exact offerHold_steady _ free (changeHold_steady _ _ _ _ s free h)
      · exact h

theorem queueResume_steady (s : State) : Steady s (queueResume s) := steady_congr (by simp [Untouched])

theorem lowerOwnHold_steady (send : Bool) (s : State) : Steady s (lowerOwnHold send s) := by
  unfold lowerOwnHold
  split
  · split
    · exact .refl s
    · split
      · exact (changeHold_steady _ _ _ _ s).trans (offerHold_steady _)
      · exact .refl s
  · have hremoved := (removeHold_steady s.cfg.station .ownCleared s).trans
      (onGroup_steady (fun g => { g with repeatMs := 0 }) _ (by simp))
    dsimp only
    split
    · exact hremoved.trans (queueResume_steady _)
    · exact hremoved

theorem releaseGuestHold_steady (send : Bool) (s : State) : Steady s (releaseGuestHold send s) := by
  unfold releaseGuestHold
  split
  · exact ((onMotion_steady _ s (by simp)).trans (onGroup_steady _ _ (by simp))).trans (lowerOwnHold_steady send _)
  · exact .refl s

theorem hostHold_steady (t : HoldType) (r : HoldReason) (s : State) : Steady s (hostHold t r s) := by
  have hmark := onGroup_steady (fun g => { g with hostMark := some (t, r) }) s (by simp)
  unfold hostHold
  dsimp only
  split
  · split
    · exact hmark.trans (offerHold_steady _)
    · exact hmark.trans (raiseOwnHold_steady _)
  · exact hmark.trans (raiseOwnHold_steady _)

theorem clearHostMark_steady (send : Bool) (s : State) : Steady s (clearHostMark send s) := by
  unfold clearHostMark
  split
  · exact (onGroup_steady _ s (by simp)).trans (lowerOwnHold_steady send _)
  · exact .refl s

/-! ### Faults -/

theorem FaultSet.add_ne_empty (f : FaultSet) (c : FaultCause) : f.add c ≠ FaultSet.empty := by
  cases c <;> simp [FaultSet.add, FaultSet.empty]

/-- Every robot may come to FAULT_STOP. -/
theorem faultStop_stance {free : Prop} {s : State} (c : FaultCause) (h : Stance free s) (hrobot : s.isRobot = true) :
    Stance free (faultStop c s) := by
  unfold faultStop
  split
  · next hst =>
    refine post_steady _ _ free ?_
    exact { h with faults := ⟨fun _ => hst, fun _ => FaultSet.add_ne_empty _ _⟩ }
  · dsimp only
    generalize hs1 : (if s.motion.state = .guestStop then releaseGuestHold true s else s) = s1
    have h1 : Stance free s1 := by
      rw [← hs1]
      split
      · exact releaseGuestHold_steady true s free h
      · exact h
    have hrobot1 : s1.isRobot = true := by
      rw [← hs1, ← hrobot]
      split <;> simp [State.isRobot, State.cfg]
    exact moveTo_stance _ ⟨fun _ => by decide, fun _ => by decide, ⟨fun _ => rfl, fun _ => FaultSet.add_ne_empty _ _⟩,
      fun _ => by decide, h1.offline, h1.limit, fun _ => .inr rfl, fun hr => by simp [hrobot1] at hr⟩ fun _ => h1

theorem raiseHere_steady (c d : Nat) (s : State) : Steady s (raiseHere c d s) := steady_congr (by simp [Untouched])

theorem raised_stance {free : Prop} {s : State} (c : FaultCause) (k d : Nat) (h : Stance free s) (hrobot : s.isRobot = true) :
    Stance free (raiseHere k d (faultStop c s)) :=
  raiseHere_steady k d _ free (faultStop_stance c h hrobot)

theorem Stance.robot_of_not_idle {free : Prop} {s : State} (h : Stance free s) (hidle : s.motion.state ≠ .idle) :
    s.isRobot = true := by
  by_contra hrobot
  exact hidle (h.robot (by simpa using hrobot))

theorem endOwn_steady (n : Nat) (k : ClaimChange) (w : Option (Nat × Nat)) (s : State) : Steady s (endOwn n k w s) :=
  steady_congr (by simp [Untouched])

theorem endClaim_steady (n : Nat) (k : ClaimChange) (w : Option (Nat × Nat)) (s : State) : Steady s (endClaim n k w s) := by
  intro free h
  have hended : Stance free (endOwn n k w s) := endOwn_steady n k w s free h
  unfold endClaim
  dsimp only
  split
  · next hlost =>
    exact raised_stance _ _ _ hended (by simpa [State.isRobot, State.cfg] using h.robot_of_not_idle hlost.2.2.2)
  · exact hended

/-! ### Segments and routes -/

theorem finaliseAndFlush_steady (s : State) : Steady s (finaliseAndFlush s) :=
  steady_same (finaliseAndFlush_keeps s) (by simp) (by simp) (by simp) (by simp)

theorem endEntry_record (s : State) : (endEntry s).currentRecord = none := by
  simp [State.currentRecord, State.currentSegment]

theorem endEntry_steady (s : State) : Steady s (endEntry s) := fun _ h =>
  h.lowered (by simp) (by simp) (by simp) (by simp) (by simp) (by simp) (by simp) (by simp) (by simp)
    (by rw [endEntry_record]; exact nofun)

/-- The ceiling may always come to 0. -/
theorem ceilingZero_steady (s : State) : Steady s (s.onMotion fun m => { m with ceiling := 0 }) := fun _ h =>
  h.lowered rfl (Nat.zero_le _) rfl rfl rfl rfl id rfl rfl fun _ _ => Nat.zero_le _

theorem endRoute_steady (send : Bool) (s : State) : Steady s (endRoute send s) := by
  unfold endRoute
  split
  · dsimp only
    split
    · exact (((releaseGuestHold_steady send s).trans (endEntry_steady _)).trans (ceilingZero_steady _)).trans
        (move_idle_steady _ _)
    · exact ((endEntry_steady s).trans (ceilingZero_steady _)).trans (move_idle_steady _ _)
  · exact .refl s

theorem moveTo_state (new : MotionState) (k : MotionCause) (f : FaultSet) (s : State) :
    (moveTo new k f s).motion.state = new := by
  by_cases h : s.motion.state = new
  · rw [moveTo_self _ _ _ _ h, h]
  · rw [(moveTo_values new k f s h).1]
    rfl

/-- Once its route has ended a robot stands in IDLE (R31). -/
theorem endRoute_idle {free : Prop} (send : Bool) {s : State} (h : Stance free s) :
    (endRoute send s).motion.state = .idle := by
  unfold endRoute
  split
  · exact moveTo_state ..
  · next hnot =>
    by_contra hidle
    exact hnot ⟨h.robot_of_not_idle hidle, .inr hidle⟩

/-- A robot in IDLE may have to park. -/
theorem Stance.park {free : Prop} {s : State} (h : Stance free s) (hidle : s.motion.state = .idle) : Stance True s :=
  { h with parked := fun _ => .inl hidle }

theorem Stance.mono {free free' : Prop} {s : State} (h : Stance free s) (himp : free' → free) : Stance free' s :=
  { h with parked := fun hf => h.parked (himp hf) }

theorem leaveClaim_steady (s : State) (r : OwnClaim) : Steady s (leaveClaim s r) :=
  steady_same (leaveClaim_keeps s r) (by simp) (by simp) (by simp) (by simp)

theorem foldl_steady {α : Type} (f : State → α → State) (h : ∀ s x, Steady s (f s x)) (l : List α) (s : State) :
    Steady s (l.foldl f s) := by
  induction l generalizing s with
  | nil => exact .refl s
  | cons x l ih => exact (h s x).trans (ih (f s x))

theorem stopRouteState_steady (s : State) : Steady s (stopRouteState s) := by
  intro free h
  unfold stopRouteState
  split
  · next hst => exact enterStopping_stance _ _ h (.inl hst)
  · next hst => exact enterStopping_stance _ _ h (.inr hst)
  · exact onMotion_steady _ s ⟨rfl, rfl, rfl, rfl⟩ free h
  · exact move_idle_steady _ s free h
  · exact move_idle_steady _ s free h
  · exact h

/-- An entry to the current segment's record clamps the ceiling to its speed limit (R118). -/
theorem enterSegment_stance {free : Prop} {s : State} {r : Segment} (d : Direction) (h : Stance free s)
    (hrecord : s.segment? r.number = some r) : Stance free (enterSegment r d s) := by
  unfold enterSegment
  dsimp only
  generalize hs2 : openPass _ _ = s2
  have hkeeps : Keeps s s2 := by
    rw [← hs2]
    exact (((finaliseAndFlush_keeps s).trans (onOdo_keeps _ _)).trans (leaveSegment_keeps _ _ _)).trans (openPass_keeps _ _)
  have hlimit : s2.currentRecord.map (·.speedLimit) = some r.speedLimit := by
    let s0 := s.onOdo fun o => { o with entry := (Odo.entered s.cfg r d s.odo).entry }
    have hs0 : s0.currentRecord.map (·.speedLimit) = some r.speedLimit := by
      show Option.map _ (s.segment? r.number) = _
      rw [hrecord]
      rfl
    rw [← hs0]
    refine currentLimit_eq hkeeps.sampled.loaded ?_
    simp [← hs2, State.currentSegment, Odo.entered, s0]
  have h3 : Stance free (s2.onMotion fun m => { m with ceiling := min m.ceiling r.speedLimit }) := by
    refine h.lowered (by simp [← hs2]) ?_ (by simp [← hs2]) (by simp [← hs2]) (by simp [← hs2]) (by simp [← hs2])
      (by simp [← hs2]) (by simp [← hs2]) (by simp [← hs2]) ?_
    · simp [← hs2]
    · show ∀ n ∈ s2.currentRecord.map (·.speedLimit), min s2.motion.ceiling r.speedLimit ≤ n
      rw [hlimit]
      rintro n hn
      cases hn
      exact min_le_right _ _
  have h4 := evalCaution_steady _ free h3
  split
  · next hstop => exact enterMoving_of_drives _ h4 (by simp [hstop.1]) (by simp [hstop.1])
  · exact h4

theorem chargeCount_steady (blade : Bool) (s : State) : Steady s (chargeCount blade s) :=
  steady_same (chargeCount_keeps blade s) rfl rfl rfl rfl

theorem crossCell_steady {e : Entry} (cell : Nat) {s : State} (he : s.odo.entry = some e) : Steady s (crossCell e cell s) :=
  steady_of_keeps (crossCell_keeps e cell s) (by simp [crossCell]) (by simp [crossCell]) (by simp [crossCell])
    (by simp [crossCell]) (by simp [crossCell]) (by simp [crossCell]) (by simp [State.currentSegment, crossCell, he])

theorem completeSegment_steady {e : Entry} (cell : Nat) {s : State} (he : s.currentSegment = some e.segment) :
    Steady s (completeSegment e cell s) := by
  unfold completeSegment
  dsimp only
  generalize hs2 : post _ _ = s2
  have hsteady : Steady s s2 := by
    have hkeeps : Keeps s s2 := by
      rw [← hs2]
      exact (((onOdo_keeps _ _).trans (finaliseAndFlush_keeps _)).trans (openPass_keeps _ _)).trans (post_keeps _ _)
    have hentry : s2.currentSegment = s.currentSegment := by
      rw [he, ← hs2]
      simp [State.currentSegment]
    refine steady_of_keeps hkeeps ?_ ?_ ?_ ?_ ?_ ?_ hentry <;> simp [← hs2]
  split
  · next hmoving => exact fun free h => enterStopping_stance _ _ (hsteady free h) hmoving
  · exact hsteady

theorem countOnSegment_steady {e : Entry} (blade : Bool) {s : State} (he : s.odo.entry = some e) :
    Steady s (countOnSegment e blade s) := by
  unfold countOnSegment
  dsimp only
  generalize cellIndex s.cfg (accounting e.length s.odo.position) = cell
  have hcross : Steady s (if cell = e.cell then s else crossCell e cell s) := by
    split
    · exact .refl s
    · exact crossCell_steady cell he
  have hcurrent : (if cell = e.cell then s else crossCell e cell s).currentSegment = some e.segment := by
    split
    · simp [State.currentSegment, he]
    · simp [State.currentSegment, crossCell]
  split
  · exact (hcross.trans (completeSegment_steady cell hcurrent)).trans (chargeCount_steady blade _)
  · exact hcross.trans (chargeCount_steady blade _)

/-! ### Going silent, going offline -/

theorem enterOffline_stance {s : State} (h : Stance True s) : Stance True (enterOffline s) := by
  have hkeeps := enterOffline_keeps s
  have hmotion : (enterOffline s).motion.state = s.motion.state ∧ (enterOffline s).motion.ceiling = s.motion.ceiling ∧
      (enterOffline s).motion.faults = s.motion.faults := by simp [enterOffline]
  obtain ⟨hstate, hceiling, hfaults⟩ := hmotion
  have hlatch := hkeeps.sampled.scanner.2.2.2.2
  have hgroup : (enterOffline s).group.holds = [] ∧ (enterOffline s).group.retained = false := by simp [enterOffline]
  obtain ⟨hholds, hretained⟩ := hgroup
  have hlimit : (enterOffline s).currentRecord.map (·.speedLimit) = s.currentRecord.map (·.speedLimit) :=
    currentLimit_eq hkeeps.sampled.loaded (by simp [State.currentSegment, enterOffline])
  have hrobot : (enterOffline s).isRobot = s.isRobot := by
    simp only [State.isRobot, State.cfg, hkeeps.owned.config, hkeeps.owned.configValid]
  refine ⟨fun hh => absurd hholds hh, ?_, fun hr => by simp at hr, ?_, ?_, fun _ => hretained, ?_, ?_, ?_, ?_⟩
  · rw [hstate, hceiling]; exact h.still
  · rw [hstate, hfaults]; exact h.faults
  · rw [hstate, hlatch]; exact h.latched
  · rw [hstate, hceiling, hkeeps.owned.config]; exact h.crawl
  · rw [hlimit, hceiling]; exact h.limit
  · rw [hstate]; exact h.parked
  · rw [hrobot, hstate]; exact h.robot

theorem enterOffline_law {s : State} (h : Stance True s) : (enterOffline s).MotionLaw :=
  (motionLaw_iff _).2 ((enterOffline_stance h).mono fun _ => trivial)

theorem Steady.motionLaw {s t : State} (h : Steady s t) (hpark : t.mustPark → s.mustPark)
    (hs : s.MotionLaw) : t.MotionLaw :=
  (motionLaw_iff t).2 ((h _ ((motionLaw_iff s).1 hs)).mono hpark)

theorem endOfStep_law {s : State} (h : s.MotionLaw) : (endOfStep s).MotionLaw := by
  have hleft : (settleLeave s).MotionLaw := by
    unfold settleLeave
    split
    · next hleave => exact enterOffline_law (((motionLaw_iff s).1 h).mono fun _ => .inr hleave.1)
    · exact h
  exact (steady_same (settleFeed_keeps _) (by simp) (by simp) (by simp) (by simp)).motionLaw
    (by simp [State.mustPark]) hleft

end Sys2Proof.Machine

/-! ## The laws of the motion supervisor (O8): the commands -/

namespace Sys2Proof.Machine

/-- The laws of the motion supervisor go on holding. -/
def Driven (s t : State) : Prop := s.MotionLaw → t.MotionLaw

theorem Steady.driven {s t : State} (h : Steady s t) (hpark : t.mustPark → s.mustPark) : Driven s t := fun hs =>
  h.motionLaw hpark hs

theorem Untouched.driven {s t : State} (h : Untouched s t) : Driven s t :=
  (steady_congr h).driven (by simp only [State.mustPark, h.2.2.1, imp_self])

theorem finish_driven {s x : State} (h : Driven s x) : Answers (finish x) (Driven s) :=
  answers_finish fun hs => endOfStep_law (h hs)

theorem finish_steady {s x : State} (h : Steady s x) (hpark : x.mustPark → s.mustPark) : Answers (finish x) (Driven s) :=
  finish_driven (h.driven hpark)

/-- A command that leaves the units the laws name, with its step ended. -/
theorem finish_same {s x : State} (h : Untouched s x) : Answers (finish x) (Driven s) := finish_driven h.driven

theorem ok_steady (bs : List Byte) (s : State) : Steady s (ok bs s) := steady_congr (by simp [Untouched])

theorem finish_ok_steady {s x : State} (bs : List Byte) (h : Steady s x) (hpark : x.mustPark → s.mustPark) :
    Answers (finish (ok bs x)) (Driven s) :=
  finish_steady (h.trans (ok_steady bs x)) (by simpa [State.mustPark] using hpark)

/-- A command that leaves the units the laws name. -/
theorem next_same {s t : State} (h : Untouched s t) : Answers (.next t) (Driven s) := answers_next h.driven

theorem whenTaken_driven {s : State} {r : Result} (h : Answers r (Driven s)) : Answers (whenTaken s r) (Driven s) :=
  answers_whenTaken (Untouched.driven (by simp [Untouched])) h

theorem refuse_driven (b : Byte) (s : State) : Answers (refuse b s) (Driven s) :=
  answers_refuse (Untouched.driven (by simp [Untouched]))

theorem nothing_driven (s : State) : Answers (.next s) (Driven s) := answers_next id

theorem receive_steady (sender : Nat) {deliver : State → State} {s : State} (h : Steady s (deliver s)) :
    Steady s (receive sender deliver s) := by
  unfold receive
  split
  · exact .refl s
  · split
    · exact steady_congr (by simp [Untouched])
    · split
      · exact steady_congr (by simp [Untouched])
      · exact h.trans (steady_congr (by simp [Untouched]))

/-- A frame heard. -/
theorem heard_driven {sender : Nat} {deliver : State → State} {s : State} (h : Steady s (deliver s))
    (hstation : (deliver s).station.state = s.station.state ∧
      (deliver s).station.leavePending = s.station.leavePending) :
    Answers (finish (receive sender deliver s)) (Driven s) := by
  refine finish_steady (receive_steady sender h) ?_
  unfold receive State.mustPark
  (repeat' split) <;> simp [hstation]

theorem inGap_driven (sender : Nat) (v : Option Nat) (s : State) : Answers (inGap sender v s) (Driven s) := by
  obtain ⟨c, h, -⟩ := inGap_next sender v s
  rw [h]
  exact next_same ⟨rfl, rfl, rfl, rfl, rfl⟩

/-- With a Leave pending a station may be ACTIVE, and a station at work has none (R31). -/
theorem working_drives {s : State} (h : s.mayDrive = true) : ¬ s.mustPark ∧ s.isRobot = true := by
  simp only [State.mayDrive, State.working, Bool.and_eq_true, beq_iff_eq, Bool.not_eq_true'] at h
  obtain ⟨hrobot, hactive, hleave⟩ := h
  exact ⟨by simp [State.mustPark, hactive, hleave], hrobot⟩

/-! ### The host port, claims and callouts -/

theorem execUnknownRequest_driven (c : Nat) (s : State) : Answers (execUnknownRequest c s) (Driven s) := by
  refine whenTaken_driven ?_
  split
  · exact nothing_driven s
  · exact refuse_driven _ s

theorem execTakeEvent_driven (s : State) : Answers (execTakeEvent s) (Driven s) := by
  refine whenTaken_driven ?_
  split
  · exact next_same (by simp [Untouched])
  · exact next_same (by simp [Untouched])

theorem execRequestClaim_driven (n i u : Nat) (s : State) : Answers (execRequestClaim n i u s) (Driven s) := by
  refine whenTaken_driven ?_
  split
  · exact refuse_driven _ s
  · split
    · split
      · exact next_same (by simp [Untouched])
      · split
        · exact refuse_driven _ s
        · dsimp only
          split
          · exact next_same (by simp [Untouched])
          · exact finish_same (by simp [Untouched])
    · exact refuse_driven _ s

theorem execReleaseClaim_driven (n : Nat) (s : State) : Answers (execReleaseClaim n s) (Driven s) := by
  refine whenTaken_driven ?_
  split
  · exact refuse_driven _ s
  · split
    · exact refuse_driven _ s
    · split
      · exact finish_same (by simp [Untouched])
      · exact finish_same (by simp [Untouched])
      · split
        · exact refuse_driven _ s
        · exact finish_same (by simp [Untouched])

theorem execRefresh_driven (n : Nat) (s : State) : Answers (execRefresh n s) (Driven s) := by
  unfold execRefresh
  split
  · exact nothing_driven s
  · split
    · exact nothing_driven s
    · dsimp only
      split
      · exact finish_same (by simp [Untouched])
      · exact next_same (by simp [Untouched])

theorem execLapse_driven (n : Nat) (s : State) : Answers (execLapse n s) (Driven s) := by
  unfold execLapse
  split
  · exact nothing_driven s
  · split
    · exact finish_steady (endClaim_steady n _ _ s) (by simp [State.mustPark])
    · exact nothing_driven s

theorem execClaimViewExpiry_driven (n h : Nat) (s : State) : Answers (execClaimViewExpiry n h s) (Driven s) := by
  unfold execClaimViewExpiry
  split
  · exact next_same ⟨rfl, rfl, rfl, rfl, rfl⟩
  · exact nothing_driven s

theorem execRaiseCallout_driven (u n c d : Nat) (s : State) : Answers (execRaiseCallout u n c d s) (Driven s) := by
  refine whenTaken_driven ?_
  split
  · exact refuse_driven _ s
  · split
    · exact refuse_driven _ s
    · split
      · exact refuse_driven _ s
      · exact finish_same (by simp [Untouched])

theorem execCalloutBackoff_driven (n : Nat) (s : State) : Answers (execCalloutBackoff n s) (Driven s) := by
  unfold execCalloutBackoff
  split
  · exact nothing_driven s
  · split
    · exact finish_same (by simp [Untouched])
    · exact nothing_driven s

theorem execRelayBackoff_driven (o n : Nat) (s : State) : Answers (execRelayBackoff o n s) (Driven s) := by
  unfold execRelayBackoff
  split
  · exact nothing_driven s
  · split
    · exact finish_same (by simp [Untouched])
    · exact nothing_driven s

theorem meetStanding_steady (n h : Nat) (i : Intent) (r : Nat) (s : State) : Steady s (meetStanding n h i r s) := by
  unfold meetStanding
  split
  · exact .refl s
  · split
    · split
      · split
        · exact .refl s
        · exact endClaim_steady _ _ _ s
      · exact endOwn_steady _ _ _ s
    · exact .refl s

theorem hearClaim_steady (o n i r m v : Nat) (s : State) : Steady s (hearClaim o n i r m v s) := by
  unfold hearClaim
  split
  · exact .refl s
  · split
    · exact Steady.trans (t := s.onClaims fun c => { c with view := standingView s.now n o _ r c.view })
        (steady_congr ⟨rfl, rfl, rfl, rfl, rfl⟩) (meetStanding_steady _ _ _ _ _)
    · exact .refl s

theorem claimSettled_steady (n mode sensed : Nat) (s : State) : Steady s (claimSettled n mode sensed s) := by
  unfold claimSettled
  split
  · exact .refl s
  · dsimp only
    split
    · split
      · exact steady_congr (by simp [Untouched])
      · exact endOwn_steady _ _ _ s
    · have hkept : Steady s (updateOwn n (fun x => { x with frame := .none }) s) := steady_congr (by simp [Untouched])
      split
      · exact hkept.trans (steady_congr (by simp [Untouched]))
      · split
        · exact hkept.trans (endClaim_steady _ _ _ _)
        · split
          · exact hkept.trans (endClaim_steady _ _ _ _)
          · exact hkept

theorem frameSent_steady (sensed : Nat) (s : State) : Steady s (frameSent sensed s) := by
  unfold frameSent
  split
  · exact steady_congr (by simp [Untouched])
  · dsimp only
    split
    · exact Steady.trans (t := noteOutcome _) (steady_congr (by simp [Untouched])) (claimSettled_steady _ _ _ _)
    · split
      · exact steady_congr (by simp [Untouched])
      · exact steady_congr (by simp [Untouched])
    · exact steady_congr (by simp [Untouched])

/-! ### The channel -/

theorem execSeize_driven (s : State) : Answers (execSeize s) (Driven s) := by
  unfold execSeize
  split
  · exact nothing_driven s
  · dsimp only
    split
    · refine finish_steady (Steady.trans ?_ (evalCaution_steady _)) (by simp [State.mustPark])
      exact Steady.trans (t := post _ _) (steady_congr (by simp [Untouched])) (onMotion_steady _ _ (by simp))
    · exact finish_same (by simp [Untouched])

theorem execTxUnheard_driven (s : State) : Answers (execTxUnheard s) (Driven s) := by
  unfold execTxUnheard
  dsimp only
  split
  · exact nothing_driven s
  · next q _ =>
    generalize hs2 : unheard _ _ _ = s2
    have hsteady : Steady s s2 := by
      rw [← hs2]
      exact steady_congr (by simp [Untouched])
    have hpark : s2.mustPark → s.mustPark := by simp [State.mustPark, ← hs2]
    split
    · split
      · next hleave => exact finish_driven fun hs =>
          enterOffline_law (((motionLaw_iff _).1 (hsteady.driven hpark hs)).mono fun _ => .inr hleave)
      · split
        · next hleave hactive =>
          refine finish_driven fun hs => ?_
          have h2 := (motionLaw_iff _).1 (hsteady.driven hpark hs)
          refine (motionLaw_iff _).2 (Stance.mono (free := s2.mustPark) ?_ ?_)
          · refine h2.lowered (by simp [goSilent]) (by simp [goSilent]) (by simp [goSilent]) (by simp [goSilent])
              (by simp [goSilent]) (by simp [goSilent]) (by simp [goSilent]) (by simp [goSilent]) (by simp [goSilent]) ?_
            rw [currentRecord_congr (s := s2) (by simp [goSilent]) (by simp [goSilent])]
            simpa [goSilent] using h2.limit
          · simp [State.mustPark, goSilent, hleave]
        · exact finish_steady hsteady hpark
    · exact finish_steady hsteady hpark

theorem execArbitrationWon_driven (s : State) : Answers (execArbitrationWon s) (Driven s) := by
  unfold execArbitrationWon
  split
  · split
    · exact nothing_driven s
    · exact finish_same (by simp [Untouched])
  · exact nothing_driven s

theorem execArbitrationLost_driven (s : State) : Answers (execArbitrationLost s) (Driven s) := by
  unfold execArbitrationLost
  split
  · split
    · exact nothing_driven s
    · exact finish_same (by simp [Untouched])
  · exact nothing_driven s

theorem execResponseFieldSpoiled_driven (k : SpoilCause) (s : State) :
    Answers (execResponseFieldSpoiled k s) (Driven s) := by
  unfold execResponseFieldSpoiled
  split
  · exact nothing_driven s
  · split
    · exact finish_same (by simp [Untouched])
    · exact next_same ⟨rfl, rfl, rfl, rfl, rfl⟩

theorem execSentResponded_driven (v : Nat) (s : State) : Answers (execSentResponded v s) (Driven s) := by
  unfold execSentResponded
  split
  · exact next_same (by simp [Untouched])
  · split
    · exact finish_steady (frameSent_steady v s) (by simp [State.mustPark])
    · exact nothing_driven s

theorem execStale_driven (n : Nat) (s : State) : Answers (execStale n s) (Driven s) := by
  unfold execStale
  split
  · exact nothing_driven s
  · split
    · exact next_same ⟨rfl, rfl, rfl, rfl, rfl⟩
    · exact finish_same (by simp [Untouched])

/-- The commands that only the channel controller, or the event queue beside it, can notice. -/
theorem execStartMark_driven (s : State) : Answers (execStartMark s) (Driven s) := by
  unfold execStartMark
  split
  · exact nothing_driven s
  · split
    · exact next_same ⟨rfl, rfl, rfl, rfl, rfl⟩
    · exact next_same ⟨rfl, rfl, rfl, rfl, rfl⟩

theorem execFrameStart_driven (s : State) : Answers (execFrameStart s) (Driven s) := by
  unfold execFrameStart
  split
  · split
    · exact nothing_driven s
    · exact next_same ⟨rfl, rfl, rfl, rfl, rfl⟩
  · exact nothing_driven s

theorem answers_ite {p : Prop} [Decidable p] {r r' : Result} {P : State → Prop} (h : Answers r P) (h' : Answers r' P) :
    Answers (if p then r else r') P := by
  split
  · exact h
  · exact h'

/-! ### Group control -/

theorem takeGo_steady (o : Nat) (s : State) : Steady s (takeGo o s) := by
  intro free h
  unfold takeGo
  split
  · next hst => exact disarm_steady _ free (enterMoving_of_drives _ h (by simp [hst]) (by simp [hst]))
  · split
    · exact post_steady _ s free h
    · exact h
  · split
    · exact post_steady _ s free h
    · exact h
  · exact h

theorem execSendGo_driven (s : State) : Answers (execSendGo s) (Driven s) := by
  refine whenTaken_driven ?_
  split
  · exact finish_ok_steady _ (Steady.trans (t := queueFrame _ _ s) (steady_congr (by simp [Untouched])) (takeGo_steady _ _)) (by simp [State.mustPark])
  · exact refuse_driven _ s

theorem execSendHold_driven (t r : Nat) (s : State) : Answers (execSendHold t r s) (Driven s) := by
  refine whenTaken_driven ?_
  split
  · split
    · exact finish_ok_steady _ (hostHold_steady _ _ s) (by simp [State.mustPark])
    · exact refuse_driven _ s
  · exact refuse_driven _ s

theorem execSendResume_driven (s : State) : Answers (execSendResume s) (Driven s) := by
  refine whenTaken_driven ?_
  have cleared : Steady s (lowerOwnHold true (s.onGroup fun g => { g with hostMark := none })) :=
    (onGroup_steady _ s (by simp)).trans (lowerOwnHold_steady true _)
  split
  · dsimp only
    split
    · exact finish_ok_steady _ cleared (by simp [State.mustPark])
    · exact finish_ok_steady _ cleared (by simp [State.mustPark])
    · exact finish_same (by simp [Untouched])
    · exact finish_ok_steady _ (queueResume_steady s) (by simp [State.mustPark])
  · exact refuse_driven _ s

theorem execHoldRepeatInterval_driven (s : State) : Answers (execHoldRepeatInterval s) (Driven s) := by
  unfold execHoldRepeatInterval
  split
  · exact finish_steady ((onGroup_steady _ s (by simp)).trans (offerHold_steady _)) (by simp [State.mustPark])
  · exact nothing_driven s

theorem execHoldExpiry_driven (o : Nat) (s : State) : Answers (execHoldExpiry o s) (Driven s) := by
  unfold execHoldExpiry
  split
  · exact nothing_driven s
  · split
    · exact nothing_driven s
    · split
      · exact finish_steady (removeHold_steady _ _ s) (by simp [State.mustPark])
      · exact nothing_driven s

theorem hearHold_steady (o g t r : Nat) (s : State) : Steady s (hearHold o g t r s) := by
  unfold hearHold
  split
  · split
    · exact receiveHold_steady _ _ _ s
    · exact .refl s
  · exact .refl s

theorem hearResume_steady (o g : Nat) (s : State) : Steady s (hearResume o g s) := by
  unfold hearResume
  split
  · exact removeHold_steady _ _ s
  · exact .refl s

theorem hearGo_steady (o g : Nat) (s : State) : Steady s (hearGo o g s) := by
  unfold hearGo
  split
  · exact takeGo_steady _ s
  · exact .refl s

/-! ### Segments -/

/-- A station that is OFFLINE stands still (R31, R114). -/
theorem Stance.offline_still {s : State} (h : Stance s.mustPark s) (hoff : s.station.state = .offline) :
    (s.motion.state = .idle ∨ s.motion.state = .faultStop) ∧ s.motion.ceiling = 0 := by
  have hparked := h.parked (.inl hoff)
  exact ⟨hparked, h.still (by rcases hparked with e | e <;> simp [e]) (by rcases hparked with e | e <;> simp [e])
    (by rcases hparked with e | e <;> simp [e])⟩

/-- The segment records may change while OFFLINE (R45, R46). -/
theorem onSegs_driven (f : Segments → Segments) (bs : List Byte) (s : State) (hoff : s.station.state = .offline) :
    Answers (finish (ok bs (s.onSegs f))) (Driven s) := by
  refine finish_driven fun hs => (motionLaw_iff _).2 ?_
  have h := (motionLaw_iff s).1 hs
  refine (h.mono (free' := (ok bs (s.onSegs f)).mustPark) (by simp [State.mustPark])).lowered (by simp) (by simp) (by simp)
    (by simp) (by simp) (by simp) (by simp) (by simp) (by simp) fun n _ => ?_
  simp [(h.offline_still hoff).2]

theorem execLoadSegment_driven (f : LoadFields) (s : State) : Answers (execLoadSegment f s) (Driven s) := by
  refine whenTaken_driven ?_
  split
  · exact refuse_driven _ s
  · next hoff =>
    split
    · exact next_same (by simp [Untouched])
    · split
      · exact refuse_driven _ s
      · exact onSegs_driven _ _ s (by simpa using hoff)

theorem execClearSegments_driven (s : State) : Answers (execClearSegments s) (Driven s) := by
  refine whenTaken_driven ?_
  split
  · exact refuse_driven _ s
  · next hoff => exact onSegs_driven _ _ s (by simpa using hoff)

theorem execReadSegment_driven (n : Nat) (s : State) : Answers (execReadSegment n s) (Driven s) := by
  refine whenTaken_driven ?_
  split
  · exact refuse_driven _ s
  · exact next_same (by simp [Untouched])

theorem execReadCells_driven (n a b : Nat) (s : State) : Answers (execReadCells n a b s) (Driven s) := by
  refine whenTaken_driven ?_
  split
  · exact refuse_driven _ s
  · exact next_same (by simp [Untouched])

/-- A change of a record's runtime parts. -/
theorem updateSegment_steady (n : Nat) (f : Segment → Segment) (s : State) (h : ∀ r, (f r).loaded = r.loaded) :
    Steady s (updateSegment n f s) :=
  steady_same (updateSegment_keeps n f s h) (by simp) (by simp) (by simp) (by simp)

theorem recomputeNeed_steady (s : State) : Steady s (recomputeNeed s) := steady_congr (by simp [Untouched])

theorem execReportTemperature_driven (n : Nat) (t : Int) (s : State) :
    Answers (execReportTemperature n t s) (Driven s) := by
  refine whenTaken_driven ?_
  split
  · exact refuse_driven _ s
  · have reported := updateSegment_steady n (fun x => { x with reported := some (clampTemp t, s.now) }) s fun _ => rfl
    dsimp only
    split
    · exact finish_ok_steady _ (reported.trans (recomputeNeed_steady _)) (by simp [State.mustPark])
    · exact finish_ok_steady _ reported (by simp [State.mustPark])

theorem fill_steady (o a b : Nat) (c : Bool) (s : State) : Steady s (fill o a b c s) :=
  steady_same (fill_keeps o a b c s) (by simp) (by simp) (by simp) (by simp)

theorem execMarkSnowfall_driven (a b c d : Nat) (s : State) : Answers (execMarkSnowfall a b c d s) (Driven s) := by
  refine whenTaken_driven ?_
  split
  · exact refuse_driven _ s
  · split
    · next c _ _ _ _ =>
      have filled := fill_steady 0 a b c s
      dsimp only
      split
      · exact finish_ok_steady _ (filled.trans (steady_congr (by simp [Untouched]))) (by simp [State.mustPark])
      · exact finish_ok_steady _ filled (by simp [State.mustPark])
    · exact refuse_driven _ s

theorem hearSnowfall_steady (o a b c : Nat) (s : State) : Steady s (hearSnowfall o a b c s) := by
  unfold hearSnowfall
  split
  · exact fill_steady _ _ _ _ s
  · exact .refl s

theorem setGuest_steady (r : Segment) (g : Option PeerGuest) (o k : Nat) (e : Bool) (s : State) :
    Steady s (setGuest r g o k e s) := by
  have held := updateSegment_steady r.number (fun x => { x with guest := g }) s fun _ => rfl
  unfold setGuest
  dsimp only
  split
  · exact held
  · exact (held.trans (post_steady _ _)).trans (evalCaution_steady _)

theorem hearGuest_steady (o n k z : Nat) (s : State) : Steady s (hearGuest o n k z s) := by
  unfold hearGuest
  split
  · exact setGuest_steady _ _ _ _ _ s
  · exact .refl s

theorem execGuestStateExpiry_driven (n : Nat) (s : State) : Answers (execGuestStateExpiry n s) (Driven s) := by
  unfold execGuestStateExpiry
  split
  · exact nothing_driven s
  · split
    · exact nothing_driven s
    · split
      · exact finish_steady (setGuest_steady _ _ _ _ _ s) (by simp [State.mustPark])
      · exact nothing_driven s

theorem progressCells_steady (n a b w d : Nat) (s : State) : Steady s (progressCells n a b w d s) := by
  unfold progressCells
  split
  · split
    · exact updateSegment_steady _ _ s fun _ => rfl
    · exact .refl s
  · exact .refl s

/-! ### The station controller -/

/-- A change of the station controller's other fields: its record stands, and it is not newly OFFLINE. -/
theorem station_steady {s t : State} (hsame : t.motion = s.motion ∧ t.group = s.group ∧ t.segs = s.segs ∧ t.odo = s.odo ∧
      (t.station.state = .offline → s.station.state = .offline) ∧ t.station.config = s.station.config ∧
      t.station.configValid = s.station.configValid) : Steady s t := by
  intro free h
  obtain ⟨hmotion, hgroup, hsegs, hodo, hoffline, hconfig, hvalid⟩ := hsame
  refine h.lowered (by rw [hmotion]) (by rw [hmotion]) (by rw [hmotion]) (by rw [hmotion]) (by rw [hgroup]) (by rw [hgroup])
    hoffline hconfig hvalid ?_
  rw [currentRecord_congr hsegs hodo, hmotion]
  exact h.limit

theorem execJoin_driven (s : State) : Answers (execJoin s) (Driven s) := by
  refine whenTaken_driven ?_
  split
  · next hoff =>
    exact answers_next (Steady.driven (station_steady (by simp)) (by simp [State.mustPark, hoff.1]))
  · exact refuse_driven _ s

theorem execListenDone_driven (s : State) : Answers (execListenDone s) (Driven s) := by
  unfold execListenDone
  split
  · next hstate => exact finish_steady (station_steady (by simp)) (by simp [State.mustPark, hstate.1])
  · exact nothing_driven s

theorem execPresenceInterval_driven (s : State) : Answers (execPresenceInterval s) (Driven s) := by
  unfold execPresenceInterval
  split
  · exact finish_steady (station_steady (by simp)) (by simp [State.mustPark])
  · exact nothing_driven s

theorem execNeighbourLost_driven (n : Nat) (s : State) : Answers (execNeighbourLost n s) (Driven s) := by
  unfold execNeighbourLost
  split
  · exact answers_next (Steady.driven (station_steady (by simp)) (by simp [State.mustPark]))
  · exact nothing_driven s

theorem execLeaveComplete_driven (s : State) : Answers (execLeaveComplete s) (Driven s) := by
  unfold execLeaveComplete
  split
  · next hleave => exact finish_driven fun hs => enterOffline_law (((motionLaw_iff s).1 hs).mono fun _ => .inr hleave)
  · exact nothing_driven s

/-- The robot comes to IDLE before the Leave takes effect (R31). -/
theorem execLeave_driven (s : State) : Answers (execLeave s) (Driven s) := by
  refine whenTaken_driven ?_
  have left (send : Bool) {free : Prop} {x : State} (h : Stance free x) : Stance True (clearHostMark send (endRoute send x)) :=
    clearHostMark_steady send _ _ ((endRoute_steady send x free h).park (endRoute_idle send h))
  split
  · exact refuse_driven _ s
  · split
    · exact next_same (by simp [Untouched])
    · refine finish_driven fun hs => (motionLaw_iff _).2 (Stance.mono (free := True) ?_ fun _ => trivial)
      have h0 : Steady s (s.onStation fun t =>
          { t with leavePending := true, leaveMs := 0, leaveFrames := [], presenceMs := 0 }) :=
        station_steady ⟨rfl, rfl, rfl, rfl, id, rfl, rfl⟩
      exact ok_steady _ _ _ (foldl_steady leaveClaim leaveClaim_steady _ _ _ (left true (h0 _ ((motionLaw_iff s).1 hs))))
  · refine finish_driven fun hs => (motionLaw_iff _).2 (Stance.mono (free := True) ?_ fun _ => trivial)
    exact ok_steady _ _ _ (enterOffline_stance (left false ((motionLaw_iff s).1 hs)))

theorem configured_eq (c : Configuration) (s : State) :
    configured c s = zoneChanged s.zone (recomputeDistance (s.reconfigured c)) := rfl

/-- What a record taken while OFFLINE leaves of the motion supervisor (R35, R122, R136). -/
theorem Motion.configured_values (cls : StationClass) {m : Motion} (hparked : m.state = .idle ∨ m.state = .faultStop)
    (hceiling : m.ceiling = 0) (hfaults : m.faults ≠ FaultSet.empty ↔ m.state = .faultStop) :
    ((m.configured cls).state = .idle ∨ (m.configured cls).state = .faultStop) ∧ (m.configured cls).ceiling = 0 ∧
      ((m.configured cls).faults ≠ FaultSet.empty ↔ (m.configured cls).state = .faultStop) ∧
      (m.configured cls).latch = false ∧ (cls = .depot → (m.configured cls).state = .idle) := by
  cases cls with
  | robot => exact ⟨hparked, hceiling, hfaults, rfl, nofun⟩
  | depot => exact ⟨.inl rfl, rfl, by simp [Motion.configured], rfl, fun _ => rfl⟩

theorem reconfigured_law (c : Configuration) (s : State) (hoff : s.station.state = .offline) (hs : s.MotionLaw) :
    (s.reconfigured c).MotionLaw := by
  have h := (motionLaw_iff s).1 hs
  obtain ⟨hparked, hceiling⟩ := h.offline_still hoff
  obtain ⟨hparked, hceiling, hfaults, hlatch, hdepot⟩ := Motion.configured_values c.cls hparked hceiling h.faults
  have hmotion : (s.reconfigured c).motion = s.motion.configured c.cls := rfl
  refine (motionLaw_iff _).2 ⟨?_, ?_, ?_, ?_, ?_, h.offline, ?_, ?_, ?_, ?_⟩
  · rw [hmotion]
    exact fun _ => by rcases hparked with e | e <;> simp [e]
  · rw [hmotion]
    exact fun _ _ _ => hceiling
  · exact fun hr => absurd (show s.group.retained = true from hr) (by simp [h.offline hoff])
  · rw [hmotion]; exact hfaults
  · rw [hmotion]; exact fun hl => absurd hl (by simp [hlatch])
  · rw [hmotion, hceiling]; exact fun _ => Nat.zero_le _
  · rw [hmotion, hceiling]; exact fun _ _ => Nat.zero_le _
  · rw [hmotion]; exact fun _ => hparked
  · rw [hmotion]
    intro hrobot
    refine hdepot ?_
    have hcls : (true && c.cls == .robot) = false := hrobot
    cases hc : c.cls with
    | robot => simp [hc] at hcls
    | depot => rfl

theorem execConfigure_driven (f : ConfigureFields) (s : State) : Answers (execConfigure f s) (Driven s) := by
  refine whenTaken_driven ?_
  split
  · exact refuse_driven _ s
  · next hoff =>
    split
    · exact next_same (by simp [Untouched])
    · refine finish_driven fun hs => ?_
      have hdistance : Steady (s.reconfigured (configureRecord f)) (recomputeDistance (s.reconfigured (configureRecord f))) :=
        station_steady (by simp)
      exact ((hdistance.trans (zoneChanged_steady s.zone _)).trans (ok_steady [] _)).driven (by simp [State.mustPark])
        (reconfigured_law (configureRecord f) s (by simpa using hoff) hs)

end Sys2Proof.Machine

/-! ## The laws of the motion supervisor (O8): motion requests, samples and timers -/

namespace Sys2Proof.Machine

theorem enterSegment_station (r : Segment) (d : Direction) (s : State) : (enterSegment r d s).station = s.station := by
  unfold enterSegment
  dsimp only
  split <;> simp

theorem execEnterSegment_driven (n d : Nat) (s : State) : Answers (execEnterSegment n d s) (Driven s) := by
  refine whenTaken_driven ?_
  split
  · exact refuse_driven _ s
  · split
    · split
      · exact refuse_driven _ s
      · next r hrecord =>
        split
        · exact refuse_driven _ s
        · split
          · exact refuse_driven _ s
          · have hnumber : r.number = n := by simpa using List.find?_some hrecord
            exact finish_ok_steady _ (fun free h => enterSegment_stance _ h (hnumber ▸ hrecord))
              (by simp [State.mustPark, enterSegment_station])
    · exact refuse_driven _ s

theorem execStart_driven (s : State) : Answers (execStart s) (Driven s) := by
  refine whenTaken_driven ?_
  split
  · exact refuse_driven _ s
  · next hdrive =>
    split
    · split
      · exact refuse_driven _ s
      · split
        · exact refuse_driven _ s
        · refine finish_driven fun hs => (ok_steady [] _).driven (by simp [State.mustPark]) ((motionLaw_iff _).2 ?_)
          refine (enterMoving_stance _ ((motionLaw_iff s).1 hs) (working_drives (by simpa using hdrive))).mono ?_
          simp [State.mustPark]
    · split
      · exact finish_ok_steady _ (move_idle_steady _ s) (by simp [State.mustPark])
      · exact next_same (by simp [Untouched])
    · exact refuse_driven _ s

theorem execArmStart_driven (s : State) : Answers (execArmStart s) (Driven s) := by
  refine whenTaken_driven ?_
  split
  · exact refuse_driven _ s
  · next hidle =>
    split
    · exact refuse_driven _ s
    · next hholds =>
      split
      · exact refuse_driven _ s
      · split
        · exact refuse_driven _ s
        · have hdrive : s.mayDrive = true := by simpa using (not_or.1 hidle).1
          have hholds : s.group.holds = [] := by simpa using hholds
          have hactive : s.station.state ≠ .offline := fun hoff => (working_drives hdrive).1 (.inl hoff)
          refine finish_driven fun hs => (ok_steady [] _).driven (by simp [State.mustPark]) ((motionLaw_iff _).2 ?_)
          have hmoved := move_standing (new := .retained) .arm ((motionLaw_iff s).1 hs) (by decide)
            (fun hh => absurd hholds hh) (by decide) fun _ => working_drives hdrive
          refine Stance.mono (free := s.mustPark) ?_ (by simp [State.mustPark])
          exact { hmoved with
            armed := fun _ => .inl (moveTo_state ..)
            offline := fun hoff => absurd (by simpa using hoff) hactive }

theorem execStopRoute_driven (s : State) : Answers (execStopRoute s) (Driven s) := by
  refine whenTaken_driven ?_
  split
  · exact finish_ok_steady _ (((endEntry_steady s).trans (disarm_steady _)).trans (stopRouteState_steady _)) (by simp [State.mustPark])
  · exact refuse_driven _ s

theorem execSetBeacon_driven (n : Nat) (s : State) : Answers (execSetBeacon n s) (Driven s) := by
  refine whenTaken_driven ?_
  split
  · refine answers_next fun hs => (motionLaw_iff _).2 ?_
    obtain ⟨held, still, armed, faults, latched, offline, crawl, limit, parked, robot⟩ := (motionLaw_iff s).1 hs
    exact ⟨held, still, armed, faults, latched, offline, crawl, limit, parked, robot⟩
  · exact refuse_driven _ s

theorem runTarget_le (s : State) : ∀ n ∈ s.currentRecord.map (·.speedLimit), s.runTarget ≤ n := by
  intro n hn
  unfold State.runTarget
  cases hrecord : s.currentRecord with
  | none => exact Nat.zero_le _
  | some r =>
    have hn : r.speedLimit = n := by simpa [hrecord] using hn
    dsimp only
    split
    · exact hn ▸ min_le_right _ _
    · exact hn.le

/-- The target respects the speed limit, and the crawl speed in CAUTION (R113). -/
theorem target_le (s : State) : ∀ n ∈ s.currentRecord.map (·.speedLimit), s.target ≤ n := by
  intro n hn
  unfold State.target
  split
  · exact runTarget_le s n hn
  · exact (min_le_left _ _).trans (runTarget_le s n hn)
  · exact Nat.zero_le _

theorem rampCeiling_le (a d target ceiling : Nat) : rampCeiling a d target ceiling ≤ max target ceiling := by
  unfold rampCeiling
  split
  · omega
  · split <;> omega

theorem target_still (s : State) (hrun : s.motion.state ≠ .run) (hcaution : s.motion.state ≠ .caution) : s.target = 0 := by
  unfold State.target
  split
  · next h => exact absurd h hrun
  · next h => exact absurd h hcaution
  · rfl

theorem ramped_steady (s : State) : Steady s
    (s.onMotion fun m => { m with ceiling := rampCeiling s.cfg.accel s.cfg.decel s.target m.ceiling }) := by
  rintro free ⟨held, still, armed, faults, latched, offline, crawl, limit, parked, robot⟩
  have hle := rampCeiling_le s.cfg.accel s.cfg.decel s.target s.motion.ceiling
  refine ⟨held, fun hrun hcaution hstopping => ?_, armed, faults, latched, offline, fun hcaution => ?_, fun n hn => ?_,
    parked, robot⟩
  · have hzero := still hrun hcaution hstopping
    rw [target_still s hrun hcaution, hzero] at hle
    simpa [hzero, target_still s hrun hcaution] using hle
  · have hcaution : s.motion.state = .caution := hcaution
    have htarget : s.target ≤ s.cfg.crawl := by
      simp only [State.target, hcaution]
      exact min_le_right _ _
    exact hle.trans (max_le htarget (crawl hcaution))
  · exact hle.trans (max_le (target_le s n hn) (limit n hn))

theorem execRampStep_driven (s : State) : Answers (execRampStep s) (Driven s) :=
  finish_steady ((ramped_steady s).trans (checkStopped_steady _)) (by simp [State.mustPark])

/-! ### The scanner -/

theorem sampleWarn_steady (active : Bool) (s : State) : Steady s (sampleWarn active s) := by
  unfold sampleWarn
  dsimp only
  split
  · exact onMotion_steady _ s (by simp)
  · exact ((onMotion_steady _ s (by simp)).trans (zoneChanged_steady _ _)).trans (evalCaution_steady _)

theorem zoneChanged_values (z : Zone) (s : State) :
    (zoneChanged z s).motion.state = s.motion.state ∧ (zoneChanged z s).motion.ceiling = s.motion.ceiling := by
  unfold zoneChanged
  split <;> simp

theorem guestStopped_stance {free : Prop} {s t : State} (h : Stance free s) (hidle : s.motion.state ≠ .idle)
    (hfault : s.motion.state ≠ .faultStop) (hguest : s.motion.state ≠ .guestStop)
    (hmotion : t.motion.state = s.motion.state ∧ t.motion.ceiling = s.motion.ceiling) (hgroup : t.group = s.group)
    (hstation : t.station = s.station) (hsegs : t.segs = s.segs) (hodo : t.odo = s.odo) : Stance free (guestStopped t) := by
  obtain ⟨hfree, hrobot⟩ := h.drives hidle hfault
  obtain ⟨hstate, hceiling⟩ := hmotion
  have hstopped : Stance free (move .guestStop .guest t) := by
    refine moveTo_stance _ ⟨fun _ => by decide, fun _ => by decide, by decide, fun _ => by decide, ?_, ?_,
      fun hf => absurd hf hfree, fun hr => ?_⟩ fun hst => absurd (hstate ▸ hst) hguest
    · rw [hstation, hgroup]; exact h.offline
    · rw [currentRecord_congr hsegs hodo, hceiling]; exact h.limit
    · simp [State.isRobot, State.cfg, hstation] at hr
      simp [State.isRobot, State.cfg] at hrobot
      exact absurd hrobot.2 (hr hrobot.1)
  unfold guestStopped
  dsimp only
  split
  · exact raiseOwnHold_steady _ _ (onGroup_steady _ _ ⟨rfl, rfl⟩ _ (onMotion_steady _ _ ⟨rfl, rfl, rfl, rfl⟩ _ hstopped))
  · exact hstopped

theorem setLatch_steady (s : State) : Steady s (setLatch s) := by
  intro free h
  have standing (hrun : s.motion.state ≠ .run) (hcaution : s.motion.state ≠ .caution) (hstopping : s.motion.state ≠ .stopping) :
      Stance free (zoneChanged s.zone (s.onMotion fun m => { m with latch := true })) :=
    zoneChanged_steady _ _ _ { h with latched := fun _ => ⟨hrun, hcaution, hstopping⟩ }
  have stopped (hidle : s.motion.state ≠ .idle) (hfault : s.motion.state ≠ .faultStop) (hguest : s.motion.state ≠ .guestStop) :
      Stance free (guestStopped (zoneChanged s.zone (s.onMotion fun m => { m with latch := true }))) :=
    guestStopped_stance h hidle hfault hguest (zoneChanged_values _ _) (by simp) (by simp) (by simp) (by simp)
  unfold setLatch
  dsimp only
  split
  · next hst => exact stopped (by simp [hst]) (by simp [hst]) (by simp [hst])
  · next hst => exact stopped (by simp [hst]) (by simp [hst]) (by simp [hst])
  · next hst => exact stopped (by simp [hst]) (by simp [hst]) (by simp [hst])
  · next hst => exact stopped (by simp [hst]) (by simp [hst]) (by simp [hst])
  · next hrun hcaution hstopping _ => exact standing hrun hcaution hstopping

theorem raiseGuestBlocked_steady (s : State) : Steady s (raiseGuestBlocked s) :=
  (onMotion_steady (fun m => { m with guestBlockedRaised := true }) s (by simp)).trans (raiseHere_steady _ _ _)

theorem sampleProt_steady (active : Bool) (s : State) : Steady s (sampleProt active s) := by
  have sampled := onMotion_steady
    (fun m => { m with lastProt := active, restartMs := if active then 0 else m.restartMs }) s (by simp)
  unfold sampleProt
  dsimp only
  generalize hs1 : s.onMotion _ = s1 at sampled ⊢
  have risen : Steady s
      (if active ∧ !s.motion.lastProt then (if (requestSeize s1).motion.latch then requestSeize s1 else setLatch (requestSeize s1))
        else s1) := by
    split
    · have asked : Steady s (requestSeize s1) := sampled.trans (steady_congr (by simp [Untouched]))
      split
      · exact asked
      · exact asked.trans (setLatch_steady _)
    · exact sampled
  generalize (if active ∧ !s.motion.lastProt then _ else s1) = s2 at risen ⊢
  split
  · exact risen.trans (raiseGuestBlocked_steady _)
  · exact risen

theorem execScannerSample_driven (w p : Bool) (s : State) : Answers (execScannerSample w p s) (Driven s) := by
  have lines := onMotion_steady (fun m => { m with warnLine := w, protLine := p }) s (by simp)
  unfold execScannerSample
  dsimp only
  split
  · exact finish_steady ((lines.trans (sampleWarn_steady w _)).trans (sampleProt_steady p _)) (by simp [State.mustPark])
  · exact answers_next (lines.driven (by simp [State.mustPark]))

theorem execGuestCleared_driven (s : State) : Answers (execGuestCleared s) (Driven s) := by
  unfold execGuestCleared
  dsimp only
  split
  · generalize hs1 : zoneChanged _ _ = s1
    have cleared : Steady s s1 := fun free h => by
      rw [← hs1]
      exact zoneChanged_steady _ _ free { h with latched := nofun }
    have hstation : s1.station = s.station := by simp [← hs1]
    have hpark {x : State} (hx : x.station = s1.station) : x.mustPark → s.mustPark := by
      simp [State.mustPark, hx, hstation]
    split
    · next hguest =>
      have released := cleared.trans (releaseGuestHold_steady true s1)
      split
      · exact finish_steady (released.trans (move_idle_steady _ _)) (hpark (by simp))
      · have hdrives {free : Prop} (h : Stance free s) : ¬ free ∧ (releaseGuestHold true s1).isRobot = true := by
          simpa [State.isRobot, State.cfg] using (cleared free h).drives (by simp [hguest]) (by simp [hguest])
        split
        · next harmed =>
          refine finish_steady (fun free h => ?_) (hpark (by simp))
          exact move_standing _ (released free h) (by decide) (fun hh => absurd (by simpa using harmed.2) hh) (by decide)
            fun _ => hdrives h
        · exact finish_steady (fun free h => enterMoving_stance _ (released free h) (hdrives h)) (hpark (by simp))
    · exact finish_steady cleared (hpark rfl)
  · exact nothing_driven s

theorem execGuestBlocked_driven (s : State) : Answers (execGuestBlocked s) (Driven s) := by
  have reached := onMotion_steady (fun m => { m with guestBlockedMs := max m.guestBlockedMs Config.guestBlockedLimit }) s (by simp)
  unfold execGuestBlocked
  dsimp only
  split
  · split
    · exact finish_steady (reached.trans (raiseGuestBlocked_steady _)) (by simp [State.mustPark])
    · exact answers_next (reached.driven (by simp [State.mustPark]))
  · exact nothing_driven s

theorem execNoticeInterval_driven (s : State) : Answers (execNoticeInterval s) (Driven s) := by
  unfold execNoticeInterval
  split
  · exact nothing_driven s
  · exact finish_steady ((onMotion_steady _ s (by simp)).trans (offerNotice_steady _)) (by simp [State.mustPark])

theorem execSeizeCautionPeriod_driven (s : State) : Answers (execSeizeCautionPeriod s) (Driven s) := by
  unfold execSeizeCautionPeriod
  split
  · exact finish_steady ((onMotion_steady _ s (by simp)).trans (evalCaution_steady _)) (by simp [State.mustPark])
  · exact nothing_driven s

/-! ### The odometry unit -/

/-- A change of the odometry unit that leaves the current segment. -/
theorem onOdo_steady (f : Odo → Odo) (s : State) (hentry : (f s.odo).entry = s.odo.entry) : Steady s (s.onOdo f) :=
  steady_of_keeps (onOdo_keeps f s) rfl rfl rfl rfl rfl rfl (by simp [State.currentSegment, hentry])

theorem countOnSegment_station (e : Entry) (blade : Bool) (s : State) :
    (countOnSegment e blade s).station = s.station := by
  have completed (cell : Nat) (x : State) : (completeSegment e cell x).station = x.station := by
    unfold completeSegment
    dsimp only
    split <;> simp
  have crossed (cell : Nat) : (if cell = e.cell then s else crossCell e cell s).station = s.station := by
    split
    · rfl
    · simp [crossCell]
  unfold countOnSegment
  dsimp only
  split
  · simp only [chargeCount, onSegs_station, completed, crossed]
  · simp only [chargeCount, onSegs_station, crossed]

theorem execWheelCount_driven (e : Edge) (b : Bool) (s : State) : Answers (execWheelCount e b s) (Driven s) := by
  have sensed := onOdo_steady (Odo.sensed e b) s (Odo.sensed_entry e b s.odo)
  unfold execWheelCount
  dsimp only
  split
  · have counted := sensed.trans (onOdo_steady (Odo.counted (edgeCount s.cfg.decodeMode e)) _ rfl)
    split
    · exact answers_next (counted.driven (by simp [State.mustPark]))
    · next he =>
      exact finish_steady (counted.trans (countOnSegment_steady b he)) (by simp [State.mustPark, countOnSegment_station])
  · exact answers_next (sensed.driven (by simp [State.mustPark]))

theorem execDecodeError_driven (s : State) : Answers (execDecodeError s) (Driven s) := by
  unfold execDecodeError
  dsimp only
  split
  · next hruns =>
    have counted := onOdo_steady
      (fun o => { o with lineA := !o.lineA, lineB := !o.lineB, errors := min 255 (o.errors + 1) }) s (by simp)
    split
    · refine finish_steady (fun free h => ?_) (by simp [State.mustPark])
      have raised := counted.trans
        (onOdo_steady (fun o => { o with fault := true, faultFresh := true, faultWindows := 0 }) _ rfl)
      exact raised_stance _ _ _ (raised free h) hruns
    · exact answers_next (counted.driven (by simp [State.mustPark]))
  · exact answers_next
      ((onOdo_steady (fun o => { o with lineA := !o.lineA, lineB := !o.lineB }) s (by simp)).driven (by simp [State.mustPark]))

theorem testOverspeed_steady (s : State) : Steady s (testOverspeed s) := by
  intro free h
  unfold testOverspeed
  split
  · exact h
  · next hmoves =>
    split
    · split
      · exact onMotion_steady _ s ⟨rfl, rfl, rfl, rfl⟩ free h
      · exact faultStop_stance _ h (h.robot_of_not_idle (not_or.1 hmoves).1)
    · exact onMotion_steady _ s ⟨rfl, rfl, rfl, rfl⟩ free h

/-- Only a robot that drives has the permit (R112). -/
theorem permit_moves {s : State} (h : s.permit = true) :
    s.motion.state = .run ∨ s.motion.state = .caution ∨ s.motion.state = .stopping := by
  simp only [State.permit, Bool.and_eq_true, Bool.or_eq_true, beq_iff_eq] at h
  rcases h.1 with (e | e) | e
  · exact .inl e
  · exact .inr (.inl e)
  · exact .inr (.inr e)

theorem testStuck_steady (s : State) : Steady s (testStuck s) := by
  intro free h
  unfold testStuck
  split
  · next hpermit =>
    split
    · exact raised_stance _ _ _ h (h.robot_of_not_idle (by
        rcases permit_moves hpermit.1 with e | e | e <;> simp [e]))
    · exact onMotion_steady _ s ⟨rfl, rfl, rfl, rfl⟩ free h
  · exact onMotion_steady _ s ⟨rfl, rfl, rfl, rfl⟩ free h

theorem Odo.faultAged_entry (o : Odo) : o.faultAged.entry = o.entry := by
  unfold Odo.faultAged
  (repeat' split) <;> rfl

theorem followSpeed_steady (s : State) : Steady s (followSpeed s) := steady_congr (by simp [Untouched])

theorem execSpeedSample_driven (s : State) : Answers (execSpeedSample s) (Driven s) := by
  have sampled := (onOdo_steady (Odo.sampled s.decoderRuns s.cfg) s (Odo.faultAged_entry s.odo)).trans
    (onMotion_steady (fun m => { m with history := pushHistory m.ceiling m.history }) _ (by simp))
  exact finish_steady ((((sampled.trans (testOverspeed_steady _)).trans (testStuck_steady _)).trans
    (checkStopped_steady _)).trans (followSpeed_steady _)) (by simp [State.mustPark])

/-! ### Resets, time, and the step -/

/-- A state whose motion supervisor and group control stand at reset, at a station that is OFFLINE. -/
theorem atReset_law {s : State} (hstate : s.motion.state = .idle) (hceiling : s.motion.ceiling = 0)
    (hfaults : s.motion.faults = FaultSet.empty) (hlatch : s.motion.latch = false) (hholds : s.group.holds = [])
    (hretained : s.group.retained = false) : s.MotionLaw := by
  refine (motionLaw_iff s).2 ⟨fun hh => absurd hholds hh, fun _ _ _ => hceiling, fun hr => ?_, ?_, fun hl => ?_,
    fun _ => hretained, fun _ => hceiling ▸ Nat.zero_le _, fun _ _ => hceiling ▸ Nat.zero_le _, fun _ => .inl hstate,
    fun _ => hstate⟩
  · simp [hretained] at hr
  · simp [hfaults, hstate]
  · simp [hlatch] at hl

theorem execRestart_driven (s : State) : Answers (execRestart s) (Driven s) := by
  refine whenTaken_driven (answers_next fun _ => atReset_law ?_ ?_ ?_ ?_ ?_ ?_) <;> simp [State.restarted] <;> rfl

theorem idle_driven (s : State) : Driven s (idle s) := by
  unfold idle
  split
  · exact Untouched.driven (s := s) (t := s.setPending _) ⟨rfl, rfl, rfl, rfl, rfl⟩
  · exact Steady.driven (fun _ h => h.lowered rfl le_rfl rfl rfl rfl rfl id rfl rfl h.limit) id

theorem hearNeighbour_leavePending (n : Neighbour) (s : State) :
    (hearNeighbour n s).station.leavePending = s.station.leavePending := by
  unfold hearNeighbour
  split
  · simp only [recomputeDistance_frame]
    split <;> simp
  · dsimp only
    rw [(recomputeDistance_frame _).2.2.2.2.2.2.2.2.2.2.2.2.2.1]
    (repeat' split) <;> simp

theorem hearPresence_leavePending (o c d m g : Nat) (s : State) :
    (hearPresence o c d m g s).station.leavePending = s.station.leavePending := by
  unfold hearPresence
  split
  · rfl
  · split
    · exact hearNeighbour_leavePending _ s
    · rfl

theorem progressNeighbour_leavePending (o d : Nat) (s : State) :
    (progressNeighbour o d s).station.leavePending = s.station.leavePending := by
  unfold progressNeighbour
  split
  · split
    · exact hearNeighbour_leavePending _ s
    · exact hearNeighbour_leavePending _ s
  · rfl

theorem onDosing_steady (f : Dosing → Dosing) (s : State) : Steady s (s.onDosing f) := fun _ h =>
  h.lowered rfl le_rfl rfl rfl rfl rfl id rfl rfl h.limit

theorem stockTests_steady (before : Nat) (s : State) : Steady s (emptyTest before (lowTest s)) := steady_congr (by simp [Untouched])

theorem execReadStatus_driven (s : State) : Answers (execReadStatus s) (Driven s) :=
  whenTaken_driven (next_same (by simp [Untouched]))

theorem execReadClaims_driven (s : State) : Answers (execReadClaims s) (Driven s) :=
  whenTaken_driven (next_same (by simp [Untouched]))

theorem execLoadStock_driven (n : Nat) (s : State) : Answers (execLoadStock n s) (Driven s) :=
  whenTaken_driven (finish_same ⟨(by split <;> simp), (by split <;> simp), (by split <;> simp), (by split <;> simp), (by split <;> simp)⟩)

theorem execWorkClockTick_driven (s : State) : Answers (execWorkClockTick s) (Driven s) :=
  answers_next (Steady.driven (station_steady ⟨rfl, rfl, rfl, rfl, id, rfl, rfl⟩) (by simp [State.mustPark]))

theorem execJammed_driven (s : State) : Answers (execJammed s) (Driven s) :=
  answers_ite (next_same (by simp [Untouched])) (nothing_driven s)

theorem execJamCleared_driven (s : State) : Answers (execJamCleared s) (Driven s) :=
  answers_ite (next_same (by simp [Untouched])) (nothing_driven s)

theorem execDuplicateStation_driven (s : State) : Answers (execDuplicateStation s) (Driven s) :=
  answers_ite (next_same (by simp [Untouched])) (nothing_driven s)

theorem execCollided_driven (s : State) : Answers (execCollided s) (Driven s) :=
  answers_ite (finish_same (by simp [Untouched])) (nothing_driven s)

theorem execSent_driven (s : State) : Answers (execSent s) (Driven s) :=
  finish_steady (frameSent_steady _ s) (by simp [State.mustPark])

theorem execPresence_driven (o c d m g : Nat) (s : State) : Answers (execPresence o c d m g s) (Driven s) :=
  heard_driven (station_steady (by simp)) ⟨(by simp), (hearPresence_leavePending _ _ _ _ _ s)⟩

theorem execRelease_driven (o n : Nat) (s : State) : Answers (execRelease o n s) (Driven s) :=
  heard_driven (steady_congr (by simp [Untouched])) (by simp)

theorem execProgress_driven (o n a b w d x : Nat) (s : State) : Answers (execProgress o n a b w d x s) (Driven s) :=
  heard_driven (Steady.trans (station_steady (by simp)) (progressCells_steady _ _ _ _ _ _)) ⟨(by simp), (by simpa using progressNeighbour_leavePending _ _ s)⟩

theorem execCallout_driven (w o n c g k h x d v : Nat) (s : State) : Answers (execCallout w o n c g k h x d v s) (Driven s) :=
  heard_driven (steady_congr (by simp [Untouched])) (by simp)

theorem execFeedPulse_driven (s : State) : Answers (execFeedPulse s) (Driven s) := by
  unfold execFeedPulse
  split
  · refine finish_steady (Steady.trans ?_ (stockTests_steady _ _)) (by simp [State.mustPark])
    exact (onDosing_steady _ s).trans (steady_same (onSegs_same_keeps _ _ rfl) rfl rfl rfl rfl)
  · exact nothing_driven s

theorem execSeizeEnds_driven (s : State) : Answers (execSeizeEnds s) (Driven s) :=
  answers_ite (finish_same (by simp [Untouched])) (nothing_driven s)

theorem execTransactionAborted_driven (s : State) : Answers (execTransactionAborted s) (Driven s) :=
  next_same (by simp [Untouched])

theorem execClaim_driven (o n i r m v : Nat) (s : State) : Answers (execClaim o n i r m v s) (Driven s) :=
  heard_driven (hearClaim_steady _ _ _ _ _ _ s) (by simp)

theorem execGuest_driven (o n k z : Nat) (s : State) : Answers (execGuest o n k z s) (Driven s) :=
  heard_driven (hearGuest_steady _ _ _ _ s) (by simp)

theorem execHold_driven (o g t r : Nat) (s : State) : Answers (execHold o g t r s) (Driven s) :=
  heard_driven (hearHold_steady _ _ _ _ s) (by simp)

theorem execResume_driven (o g : Nat) (s : State) : Answers (execResume o g s) (Driven s) :=
  heard_driven (hearResume_steady _ _ s) (by simp)

theorem execGo_driven (o g : Nat) (s : State) : Answers (execGo o g s) (Driven s) :=
  heard_driven (hearGo_steady _ _ s) (by simp)

theorem execSnowfall_driven (o a b c : Nat) (s : State) : Answers (execSnowfall o a b c s) (Driven s) :=
  heard_driven (hearSnowfall_steady _ _ _ _ s) (by simp)

theorem exec_driven (c : Instr) (s : State) : Answers (exec c s) (Driven s) := by
  cases c with
  | powerOn => exact answers_next fun _ => atReset_law rfl rfl rfl rfl rfl rfl
  | resetN => exact answers_next fun _ => atReset_law rfl rfl rfl rfl rfl rfl
  | transactionAborted => exact execTransactionAborted_driven s
  | unknownRequest _ => exact execUnknownRequest_driven _ s
  | readStatus => exact execReadStatus_driven s
  | takeEvent => exact execTakeEvent_driven s
  | configure _ => exact execConfigure_driven _ s
  | loadSegment _ => exact execLoadSegment_driven _ s
  | clearSegments => exact execClearSegments_driven s
  | join => exact execJoin_driven s
  | leave => exact execLeave_driven s
  | restart => exact execRestart_driven s
  | readSegment _ => exact execReadSegment_driven _ s
  | readCells _ _ _ => exact execReadCells_driven _ _ _ s
  | reportTemperature _ _ => exact execReportTemperature_driven _ _ s
  | markSnowfall _ _ _ _ => exact execMarkSnowfall_driven _ _ _ _ s
  | requestClaim _ _ _ => exact execRequestClaim_driven _ _ _ s
  | releaseClaim _ => exact execReleaseClaim_driven _ s
  | readClaims => exact execReadClaims_driven s
  | enterSegment _ _ => exact execEnterSegment_driven _ _ s
  | start => exact execStart_driven s
  | armStart => exact execArmStart_driven s
  | stopRoute => exact execStopRoute_driven s
  | sendGo => exact execSendGo_driven s
  | sendHold _ _ => exact execSendHold_driven _ _ s
  | sendResume => exact execSendResume_driven s
  | setBeacon _ => exact execSetBeacon_driven _ s
  | loadStock _ => exact execLoadStock_driven _ s
  | raiseCallout _ _ _ _ => exact execRaiseCallout_driven _ _ _ _ s
  | workClockTick => exact execWorkClockTick_driven s
  | channelIdle => exact answers_ite (next_same ⟨rfl, rfl, rfl, rfl, rfl⟩) (nothing_driven s)
  | noise => exact answers_ite (next_same ⟨rfl, rfl, rfl, rfl, rfl⟩) (nothing_driven s)
  | frameDiscarded _ => exact answers_ite (next_same ⟨rfl, rfl, rfl, rfl, rfl⟩) (nothing_driven s)
  | seize => exact execSeize_driven s
  | jammed => exact execJammed_driven s
  | jamCleared => exact execJamCleared_driven s
  | duplicateStation => exact execDuplicateStation_driven s
  | frameStart => exact execFrameStart_driven s
  | arbitrationWon => exact execArbitrationWon_driven s
  | arbitrationLost => exact execArbitrationLost_driven s
  | collided => exact execCollided_driven s
  | responseFieldSpoiled _ => exact execResponseFieldSpoiled_driven _ s
  | txUnheard => exact execTxUnheard_driven s
  | sent => exact execSent_driven s
  | sentResponded _ => exact execSentResponded_driven _ s
  | stale _ => exact execStale_driven _ s
  | objection _ _ _ _ _ => exact inGap_driven _ _ s
  | acknowledgement _ _ _ _ _ _ _ _ _ => exact inGap_driven _ _ s
  | presence _ _ _ _ _ => exact execPresence_driven _ _ _ _ _ s
  | claim _ _ _ _ _ _ => exact execClaim_driven _ _ _ _ _ _ s
  | release _ _ => exact execRelease_driven _ _ s
  | progress _ _ _ _ _ _ _ => exact execProgress_driven _ _ _ _ _ _ _ s
  | guest _ _ _ _ => exact execGuest_driven _ _ _ _ s
  | hold _ _ _ _ => exact execHold_driven _ _ _ _ s
  | resume _ _ => exact execResume_driven _ _ s
  | go _ _ => exact execGo_driven _ _ s
  | callout _ _ _ _ _ _ _ _ _ _ => exact execCallout_driven _ _ _ _ _ _ _ _ _ _ s
  | snowfall _ _ _ _ => exact execSnowfall_driven _ _ _ _ s
  | listenDone => exact execListenDone_driven s
  | presenceInterval => exact execPresenceInterval_driven s
  | neighbourLost _ => exact execNeighbourLost_driven _ s
  | leaveComplete => exact execLeaveComplete_driven s
  | refresh _ => exact execRefresh_driven _ s
  | lapse _ => exact execLapse_driven _ s
  | claimViewExpiry _ _ => exact execClaimViewExpiry_driven _ _ s
  | guestStateExpiry _ => exact execGuestStateExpiry_driven _ s
  | wheelCount _ _ => exact execWheelCount_driven _ _ s
  | decodeError => exact execDecodeError_driven s
  | speedSample => exact execSpeedSample_driven s
  | rampStep => exact execRampStep_driven s
  | scannerSample _ _ => exact execScannerSample_driven _ _ s
  | guestCleared => exact execGuestCleared_driven s
  | guestBlocked => exact execGuestBlocked_driven s
  | noticeInterval => exact execNoticeInterval_driven s
  | seizeCautionPeriod => exact execSeizeCautionPeriod_driven s
  | holdRepeatInterval => exact execHoldRepeatInterval_driven s
  | holdExpiry _ => exact execHoldExpiry_driven _ s
  | feedPulse => exact execFeedPulse_driven s
  | calloutBackoff _ => exact execCalloutBackoff_driven _ s
  | relayBackoff _ _ => exact execRelayBackoff_driven _ _ s
  | recentRelayExpiry _ _ => exact next_same ⟨rfl, rfl, rfl, rfl, rfl⟩
  | startMark => exact execStartMark_driven s
  | breakInIdleCount => exact answers_ite (next_same ⟨rfl, rfl, rfl, rfl, rfl⟩) (nothing_driven s)
  | seizeEnds => exact execSeizeEnds_driven s

theorem step_driven {s t : State} (h : step s = .next t) : Driven s t := by
  intro hs
  unfold step at h
  split at h
  · cases h
    exact idle_driven s hs
  · next c rest _ =>
    have hrest : (s.setPending rest).MotionLaw := hs
    exact (exec_driven c (s.setPending rest)).of_eq h hrest

/-- Settles O8: every command ends the changes it makes to the motion supervisor with a change of motion state, or a
clamped ceiling, after which the laws hold again. -/
theorem everyStepKeepsTheMotionLaw : Obligations.EveryStepKeepsTheMotionLaw := by
  unfold Obligations.EveryStepKeepsTheMotionLaw
  exact fun _ _ hs h => step_driven h hs

end Sys2Proof.Machine

/-! ## Frames heard, neighbours and presence (O25 to O29) -/

namespace Sys2Proof.Machine

/-! ### What a command means, by its name -/

theorem exec_presence (sender cls distance motion group : Nat) (s : State) :
    exec (.presence sender cls distance motion group) s =
      .next (endOfStep (receive sender (hearPresence sender cls distance motion group) s)) := rfl

/-- A frame of another station that has ended is received, and then the step ends (R10, R11). -/
theorem exec_heard {c : Instr} {n : Nat} (h : frameSender c = some n) (s : State) :
    ∃ deliver, exec c s = .next (endOfStep (receive n deliver s)) := by
  cases c <;> simp only [frameSender, reduceCtorEq, Option.some.injEq] at h <;> subst h <;> exact ⟨_, rfl⟩

/-! ### The receiver -/

theorem receiverOn_eq_true {s : State} (h : s.station.state ≠ .offline) : s.receiverOn = true := by
  simp [State.receiverOn, h]

theorem receiverOn_eq_false {s : State} (h : s.station.state = .offline) : s.receiverOn = false := by
  simp [State.receiverOn, h]

/-- The condition that a dominant symbol leaves (R3, R6). -/
theorem Condition.broken_eq (k : Condition) :
    (if k = .idle then Condition.busy else k) = if k = .jammed then Condition.jammed else .busy := by
  cases k <;> rfl

theorem Channel.broken_eq (c : Channel) : c.broken = { c with
    condition := if c.condition = .jammed then Condition.jammed else .busy
    idleCount := 0
    run := if c.seizeLeft = 0 then 0 else c.run
    runCounted := c.seizeLeft != 0 && c.runCounted } := by
  rw [Channel.broken, Condition.broken_eq]

theorem Channel.frameOver_eq (c : Channel) : c.frameOver = { c with
    condition := if c.condition = .jammed then Condition.jammed else .busy
    idleCount := 0, assembler := .waitIdle, response := none, echo := false, abandoned := none, symbol := 0
    run := if c.seizeLeft = 0 then 0 else c.run
    runCounted := c.seizeLeft != 0 && c.runCounted } := by
  rw [Channel.frameOver, Channel.broken_eq]

theorem receive_malformed (n : Nat) (deliver : State → State) (s : State) (hon : s.station.state ≠ .offline)
    (hn : n = 0 ∨ 254 < n) : receive n deliver s = s.onChannel fun c => c.frameOver.addNoise := by
  simp [receive, receiverOn_eq_true hon, hn]

theorem receive_own (n : Nat) (deliver : State → State) (s : State) (hon : s.station.state ≠ .offline) (h1 : 1 ≤ n)
    (h2 : n ≤ 254) (hown : n = s.station.config.station) :
    receive n deliver s = post (.channel .duplicateStation false) (s.onChannel Channel.frameOver) := by
  have hrange : ¬ (n = 0 ∨ 254 < n) := by omega
  rw [receive, receiverOn_eq_true hon, if_neg (by simp), if_neg hrange, if_pos (show n = s.cfg.station from hown)]

theorem post_events (e : Event) (s : State) :
    post e s = { s with host := { s.host with events := s.withEvents [e] } } := by
  rw [post_eq, withEvents_singleton]

/-- Settles O29. -/
theorem framesNotDelivered : Obligations.FramesNotDelivered := by
  unfold Obligations.FramesNotDelivered
  intro c n s hsender
  obtain ⟨deliver, hexec⟩ := exec_heard hsender s
  rw [hexec]
  refine ⟨fun hoff => ?_, fun hon hn => ?_, fun hon h1 h2 hown => ?_⟩
  · rw [receive_off _ _ _ (receiverOn_eq_false hoff)]
  · rw [receive_malformed n deliver s hon hn]
    rfl
  · rw [receive_own n deliver s hon h1 h2 hown, post_events]
    rfl

/-! ### What the receiver senses -/

theorem execNoise_on (s : State) (hon : s.station.state ≠ .offline) :
    execNoise s = .next (s.onChannel fun c => c.frameOver.addNoise) := if_pos (receiverOn_eq_true hon)

theorem Channel.atRest_iff (c : Channel) : c.atRest = true ↔
    c.assembler.inFrame = false ∧ c.flight = none ∧ c.seizeLeft = 0 := by
  simp [Channel.atRest, and_assoc]

/-- With no frame of this station in flight SENT and SENT_RESPONDED end the echo of a withdrawn one, if there is one (R25). -/
theorem echoEnds_eq (s : State) : echoEnds s = { s with
    channel := if s.channel.echo then s.channel.frameOver else s.channel } := by
  unfold echoEnds
  split <;> rfl

theorem flightFrame_eq_none {s : State} (h : s.channel.flight = none) : s.flightFrame = none := by
  simp [State.flightFrame, h]

/-- Settles O28: each command by the state of the receiver that it asks for. -/
theorem receiverSenses : Obligations.ReceiverSenses := by
  unfold Obligations.ReceiverSenses
  intro s
  constructor
  · intro hoff d
    have hrec := receiverOn_eq_false hoff
    refine ⟨if_neg ?_, if_neg ?_, if_neg ?_, if_neg ?_, if_neg ?_, if_neg ?_, if_pos ?_, if_neg ?_⟩ <;> simp [hrec]
  · intro hon
    have hrec := receiverOn_eq_true hon
    refine ⟨fun hbusy hrest => if_pos ⟨hrec, hbusy, hrest⟩, fun hjam => ?_, ?_⟩
    · refine (if_pos ⟨hjam, hrec⟩).trans ?_
      rw [post_events]
      rfl
    · rintro k run counted rfl rfl rfl
      refine ⟨?_, ?_, ?_, fun _ => rfl, fun hhunt => ?_, fun hhunt hflight => ?_, fun hhunt hflight => ?_,
        fun hflight v c hc => ?_, fun hframe => ?_⟩
      · refine (if_pos hrec).trans ?_
        rw [post_events]
        simp only [State.onChannel, Channel.frameOver_eq]
        rfl
      · refine (if_pos hrec).trans ?_
        rw [post_events]
        simp only [State.onChannel, Channel.frameOver_eq]
        rfl
      · refine (execNoise_on s hon).trans ?_
        simp only [State.onChannel, Channel.addNoise, Channel.frameOver_eq]
      · show execStartMark s = _
        rw [execStartMark, hrec, if_neg (by simp), if_pos (.inr hhunt)]
        simp only [State.onChannel, Channel.marked, hhunt, if_true, Channel.broken_eq]
        rfl
      · show execStartMark s = _
        have hsome : s.channel.flight.isSome = true := Option.isSome_iff_ne_none.2 hflight
        rw [execStartMark, hrec, if_neg (by simp), if_pos (.inl hsome)]
        simp [State.onChannel, Channel.marked, hhunt]
      · show execStartMark s = execNoise s
        rw [execNoise_on s hon, execStartMark, hrec, if_neg (by simp), if_neg (by simp [hflight, hhunt])]
      · have hechoed : echoEnds s = { s with channel := c } := by
          rw [echoEnds_eq, hc, Channel.frameOver_eq]
        have hnone := flightFrame_eq_none hflight
        constructor
        · show finish (frameSent _ s) = _
          simp [finish, frameSent, hnone, hechoed]
        · show execSentResponded v s = _
          simp [execSentResponded, hnone, hechoed]
      · refine (if_pos ⟨hrec, by simp [hframe]⟩).trans ?_
        simp only [State.onChannel, Channel.broken_eq]

/-! ### The neighbour table -/

/-- The service distance depends on the record and the neighbour table alone (R43). -/
theorem serviceDistance_congr {s t : State} (hvalid : t.station.configValid = s.station.configValid)
    (hconfig : t.station.config = s.station.config) (hneighbours : t.station.neighbours = s.station.neighbours) :
    t.serviceDistance = s.serviceDistance := by
  simp only [State.serviceDistance, State.cfg, hvalid, hconfig, hneighbours]

theorem distanceSettled_of_eq {t : State} (h : t.station.distance = t.serviceDistance) : t.DistanceSettled := by
  refine ⟨h, fun hvalid hcls => ?_, fun hvalid hcls => ?_⟩
  · rw [h]
    simp [State.serviceDistance, State.cfg, hvalid, hcls]
  · rw [h]
    exact serviceDistance_robot t hvalid hcls

/-- Once it has been computed anew the service distance is that of R43. -/
theorem recomputeDistance_settled (s : State) : (recomputeDistance s).DistanceSettled := by
  refine distanceSettled_of_eq ?_
  rw [recomputeDistance_eq]
  exact (serviceDistance_congr rfl rfl rfl).symm

theorem withEvents_append (s : State) (l m : List Event) :
    ({ s with host := { s.host with events := s.withEvents l } } : State).withEvents m = s.withEvents (l ++ m) := by
  simp [State.withEvents]

/-- What hearing a neighbour changes (R40 to R43). -/
theorem hearNeighbour_shape (n : Neighbour) (s : State) : hearNeighbour n s = { s with
    station := { s.station with
      neighbours := (hearNeighbour n s).station.neighbours, distance := (hearNeighbour n s).station.distance }
    host := { s.host with events := (hearNeighbour n s).host.events } } := by
  rw [hearNeighbour_eq, recomputeDistance_eq]

/-- A change of the neighbour table, with the events `es`, and what follows for the service distance (R43). -/
theorem recomputed_values (s : State) (l : List Neighbour) (es : List Event) {t : State}
    (ht : t = recomputeDistance { s with
      station := { s.station with neighbours := l }, host := { s.host with events := s.withEvents es } }) :
    t.DistanceSettled ∧ (t.station.neighbours = l ∧ t.host.events = s.withEvents (es ++
      if t.station.distance = s.station.distance then [] else [.distance s.station.distance t.station.distance])) ∧
    t = { s with
      station := { s.station with neighbours := l, distance := t.station.distance }
      host := { s.host with events := t.host.events } } := by
  subst ht
  refine ⟨recomputeDistance_settled _, ⟨by simp, ?_⟩, ?_⟩
  · rw [recomputeDistance_eq]
    exact List.foldl_append.symm
  · rw [recomputeDistance_eq]

/-- What hearing a neighbour does, in the terms of the statements (R40 to R43). -/
theorem hearNeighbour_learns (n : Neighbour) (s : State) : s.Learns n (hearNeighbour n s) := by
  have hlast {old : Neighbour} (hold : s.station.neighbours.find? (·.station == n.station) = some old) :
      { old with lastHeard := n.lastHeard, station := n.station } = { old with lastHeard := n.lastHeard } := by
    have : old.station = n.station := by simpa using List.find?_some hold
    rw [← this]
  have hheard := hearNeighbour_eq n s
  refine ⟨?_, ?_⟩
  · rw [hheard]
    exact recomputeDistance_settled _
  · rintro moved rfl
    refine ⟨fun old hold => ?_, fun hnew => ⟨fun hroom => ?_, fun h r hfull htable => ?_⟩⟩
    · simp only [hold, hlast hold] at hheard
      exact (recomputed_values s _ _ hheard).2.1
    · simp only [hnew, hroom, if_true] at hheard
      exact (recomputed_values s _ _ hheard).2.1
    · have hfull : ¬ s.station.neighbours.length < 24 := by omega
      simp only [hnew, hfull, if_false] at hheard
      simp only [htable, List.drop_one, List.tail_cons] at hheard
      exact (recomputed_values s _ _ hheard).2.1

theorem classOf_eq_none {n : Nat} (h : 1 < n) : classOf n = none := by
  match n, h with
  | n + 2, _ => rfl

/-- The learning does not look at the frame that ends with it (R10, R11). -/
theorem learns_onChannel {s t : State} {n : Neighbour} (h : s.Learns n t) (c : Channel) :
    s.Learns n { t with channel := c } := h

/-- Settles O26. -/
theorem presenceTeachesANeighbour : Obligations.PresenceTeachesANeighbour := by
  unfold Obligations.PresenceTeachesANeighbour
  intro sender cls distance motion group s hdel
  simp only [exec_presence, receive_delivers _ _ s hdel]
  refine ⟨fun hbad => ?_, fun k hk hdistance => ⟨_, rfl, ?_, ?_⟩⟩
  · have hsame : hearPresence sender cls distance motion group s = s := by
      unfold hearPresence
      split
      · rfl
      · next k hk =>
        refine if_neg fun hd => ?_
        rcases hbad with hcls | hfar
        · simp [classOf_eq_none hcls] at hk
        · omega
    rw [hsame]
  · simp only [hearPresence, hk, hdistance, if_true]
    conv_lhs => rw [hearNeighbour_shape]
  · simp only [hearPresence, hk, hdistance, if_true]
    exact learns_onChannel (hearNeighbour_learns _ s) _

/-- Settles O27. -/
theorem neighbourLostAndDistance : Obligations.NeighbourLostAndDistance := by
  unfold Obligations.NeighbourLostAndDistance
  intro n s
  refine ⟨fun hearly => if_neg ?_, fun ⟨x, hx, hstation, hold⟩ => ?_⟩
  · simp only [List.any_eq_true, Bool.and_eq_true, beq_iff_eq, decide_eq_true_eq, not_exists, not_and]
    intro x hx hstation hold
    have := hearly x hx hstation
    simp only [Config.neighbourLife, State.now] at hold
    omega
  · have hdue : s.station.neighbours.any
        (fun y => y.station == n && decide (y.lastHeard + Config.neighbourLife ≤ s.now)) = true := by
      simp only [List.any_eq_true, Bool.and_eq_true, beq_iff_eq, decide_eq_true_eq]
      exact ⟨x, hx, hstation, hold⟩
    obtain ⟨hsettled, ⟨-, hevents⟩, hshape⟩ := recomputed_values s
      (s.station.neighbours.filter fun y => !(y.station == n)) [.neighbourLost n] rfl
    refine ⟨_, (if_pos hdue).trans (by rw [post_events]; rfl), ?_, hsettled⟩
    rw [← hevents]
    exact hshape

end Sys2Proof.Machine

/-! ## The transmit queue and presence (O25, O37) -/

namespace Sys2Proof.Machine

/-! ### Changes of the queue -/

theorem onChannel_eq (f : Channel → Channel) (s : State) : s.onChannel f = { s with channel := f s.channel } := rfl

/-- Queueing with room changes the channel controller alone (R22, R23). -/
theorem queueFrame_shape (b : Block) (p : Payload) (s : State) (h : s.hasRoom) :
    queueFrame b p s = { s with channel := (queueFrame b p s).channel } := by
  rw [queueFrame_room b p s h]

theorem changePayload_eq (n : Nat) (p : Payload) (s : State) : changePayload n p s = { s with
    channel := { s.channel with queue := s.channel.queue.map fun x =>
      if x.entry = n then { x with payload := p } else x } } := by
  simp [changePayload, updateIf, onChannel_eq]

/-- A frame of the kind is queued anew where none of it waits outside the flight (R38, R126, R144). -/
theorem offerFrame_new (b : Block) (same : Payload → Bool) (p : Payload) (s : State)
    (h : ∀ q ∈ s.channel.queue, same q.payload = true → s.channel.flight.map (·.entry) = some q.entry) :
    offerFrame b same p s = queueFrame b p s := by
  have hnone : s.waitingFrame same = none := by
    refine List.find?_eq_none.2 fun q hq hwaits => ?_
    simp only [Bool.and_eq_true, Bool.not_eq_true', beq_eq_false_iff_ne] at hwaits
    exact hwaits.2 (h q hq hwaits.1)
  rw [offerFrame, hnone]

/-- The frame of the kind that waits first takes the new values (R25). -/
theorem offerFrame_waiting (b : Block) (same : Payload → Bool) (p : Payload) (s : State) (q : Queued)
    (h : s.channel.queue.find? (fun x => same x.payload && !(s.channel.flight.map (·.entry) == some x.entry)) = some q) :
    offerFrame b same p s = changePayload q.entry p s := by
  rw [offerFrame, show s.waitingFrame same = some q from h]

/-- An outcome other than TX_UNHEARD sets the unheard count back, but at 3 (R16). -/
theorem noteOutcome_eq (s : State) : noteOutcome s = { s with
    channel := { s.channel with unheardCount := quietCount s.channel.unheardCount } } := rfl

/-- What a full queue does with a frame: it gives up the one that `giveUp` names, for a frame of a lower priority value
(R23). -/
theorem queueFrame_full (b : Block) (p : Payload) (s : State) (hon : s.station.state ≠ .offline)
    (hfull : 8 ≤ s.channel.queue.length) : queueFrame b p s =
      match giveUp s.channel.flightEntry s.channel.queue with
      | none => unsent p s
      | some v =>
        if p.priority < v.priority then unsent v.payload (enterQueue b p (withdraw (·.entry == v.entry) s))
        else unsent p s := by
  rw [queueFrame, if_neg hon, if_neg (show ¬ s.channel.queue.length < Config.txQueueCap from by
    simp only [Config.txQueueCap]; omega)] <;> rfl

theorem queueFrame_offline (b : Block) (p : Payload) (s : State) (hoff : s.station.state = .offline) :
    queueFrame b p s = unsent p s := by
  rw [queueFrame, if_pos hoff]

/-- A full queue without a frame to give up turns the new one away (R23). -/
theorem queueFrame_refused (b : Block) (p : Payload) (s : State) (hon : s.station.state ≠ .offline)
    (hfull : 8 ≤ s.channel.queue.length)
    (hnone : ∀ q ∈ s.channel.queue, q.priority ≤ p.priority ∨ s.channel.flight.map (·.entry) = some q.entry) :
    queueFrame b p s = unsent p s := by
  rw [queueFrame_full b p s hon hfull]
  split
  · rfl
  · next v hv =>
    obtain ⟨hmem, hflight, -⟩ := (giveUp_spec _ _).2 v hv
    exact if_neg fun hlt => (hnone v hmem).elim (by omega) hflight

/-- The frame given up is the one frame with the greatest priority value and, of these, the greatest entry number. -/
theorem giveUp_eq (s : State) (hq : s.QueueInOrder) (v : Queued) (hmem : v ∈ s.channel.queue)
    (hflight : s.channel.flight.map (·.entry) ≠ some v.entry)
    (hmost : ∀ q ∈ s.channel.queue, s.channel.flight.map (·.entry) ≠ some q.entry →
      q.priority < v.priority ∨ (q.priority = v.priority ∧ q.entry ≤ v.entry)) :
    giveUp s.channel.flightEntry s.channel.queue = some v := by
  obtain ⟨hnone, hsome⟩ := giveUp_spec s.channel.flightEntry s.channel.queue
  cases hgiven : giveUp s.channel.flightEntry s.channel.queue with
  | none => exact absurd (hnone hgiven v hmem) hflight
  | some w =>
    obtain ⟨hw, hwflight, hwmost⟩ := hsome w hgiven
    have hentry : w.entry = v.entry := by
      have h1 := hmost w hw hwflight
      have h2 := hwmost v hmem hflight
      omega
    rw [List.inj_on_of_nodup_map hq.2.1 hw hmem hentry]

/-- Settles O37. -/
theorem queueingAFrame : Obligations.QueueingAFrame := by
  unfold Obligations.QueueingAFrame
  intro b p s
  refine ⟨fun hroom => ⟨queueFrame_queues b p s hroom, queueFrame_shape b p s hroom⟩, fun hoff hplain => ?_,
    fun hon hfull hplain hnone => ?_, fun v hon hfull hq hmem hplain hlt hflight hmost => ⟨_, rfl, ?_⟩⟩
  · rw [queueFrame_offline b p s hoff, unsent_plain p s hplain]
  · rw [queueFrame_refused b p s hon hfull hnone, unsent_plain p s hplain]
  · have hwithdrawn : withdraw (·.entry == v.entry) s = { s with
        channel := { s.channel with queue := s.channel.queue.filter fun x => !(x.entry == v.entry) } } := by
      refine withdraw_sparing_flight _ s hq fun q hfl => ?_
      refine beq_eq_false_iff_ne.2 fun he => hflight ?_
      rw [← he]
      exact hfl
    have hgiven : queueFrame b p s =
        unsent v.payload (enterQueue b p (withdraw (·.entry == v.entry) s)) := by
      rw [queueFrame_full b p s hon hfull, giveUp_eq s hq v hmem hflight hmost]
      exact if_pos hlt
    rw [hgiven, unsent_plain _ _ hplain, hwithdrawn]
    exact ⟨insertFrame_joins _ _, rfl⟩

/-! ### Presence -/

theorem exec_listenDone (s : State) : exec .listenDone s = execListenDone s := rfl

theorem exec_presenceInterval (s : State) : exec .presenceInterval s = execPresenceInterval s := rfl

theorem presencePayload_eq (s : State) : s.presencePayload =
    .presence (classCode s.station.config.cls) s.station.distance
      (if s.station.config.cls = .depot then 0 else motionCode s.motion.state) s.station.config.group := by
  unfold State.presencePayload State.cfg
  cases s.station.config.cls <;> rfl

/-- Settles O25. -/
theorem presenceIsQueued : Obligations.PresenceIsQueued := by
  unfold Obligations.PresenceIsQueued
  rintro p s hroom rfl
  rw [← presencePayload_eq]
  refine ⟨fun hlisten hjam => ⟨_, if_pos ⟨hlisten, hjam⟩, ?_, ?_⟩, fun hactive hleave => ?_⟩
  · rw [post_events]
    exact queueFrame_shape _ _ _ ⟨by simp, hroom⟩
  · rw [post_events]
    have hqueues (t : State) (hstate : t.station.state = .active) (hch : t.channel = s.channel) :
        Queues .station s.presencePayload s (queueFrame .station s.presencePayload t) := by
      have h := queueFrame_queues .station s.presencePayload t ⟨by simp [hstate], by rw [hch]; exact hroom⟩
      rwa [Queues, hch] at h
    exact hqueues _ rfl rfl
  · have hruns : s.presenceRuns = true := by simp [State.presenceRuns, State.working, hactive, hleave]
    have hroom' : (s.onStation fun t => { t with presenceMs := 0 }).hasRoom :=
      ⟨by simp [hactive], hroom⟩
    have hshape : ∀ t, t = offerFrame .station Payload.isPresence s.presencePayload
        (s.onStation fun t => { t with presenceMs := 0 }) →
        t = { s with station := { s.station with presenceMs := 0 }, channel := t.channel } := by
      rintro t rfl
      unfold offerFrame
      split
      · rw [changePayload_eq]
        rfl
      · exact queueFrame_shape _ _ _ hroom'
    refine ⟨_, if_pos hruns, hshape _ rfl, fun hnone => ?_, fun q hq => ?_⟩
    · rw [offerFrame_new _ _ _ (s.onStation _) hnone]
      exact queueFrame_queues .station s.presencePayload _ hroom'
    · rw [offerFrame_waiting _ _ _ (s.onStation _) q hq, changePayload_eq]
      rfl

end Sys2Proof.Machine

/-! ## Records taken whole: CONFIGURE and LOAD_SEGMENT (O21, O38) -/

namespace Sys2Proof.Machine

/-! ### The first check that fails (R35, R45) -/

/-- The number of the first check that fails, of checks numbered from `k` on. -/
theorem firstFault_eq_some {k n : Nat} {l : List Bool} : firstFault k l = some n ↔
    k ≤ n ∧ l[n - k]? = some false ∧ ∀ m, k ≤ m → m < n → l[m - k]? = some true := by
  induction l generalizing k with
  | nil => simp [firstFault]
  | cons b r ih =>
    cases b with
    | false =>
      rw [firstFault, Option.some.injEq]
      constructor
      · rintro rfl
        exact ⟨le_rfl, by simp, fun m h1 h2 => by omega⟩
      · rintro ⟨hle, -, hbefore⟩
        by_contra hne
        simpa using hbefore k le_rfl (by omega)
    | true =>
      rw [firstFault, ih]
      have hshift (m : Nat) (hm : k + 1 ≤ m) : (true :: r)[m - k]? = r[m - (k + 1)]? := by
        rw [show m - k = (m - (k + 1)) + 1 from by omega, List.getElem?_cons_succ]
      constructor
      · rintro ⟨hle, hout, hbefore⟩
        refine ⟨by omega, by rw [hshift n hle, hout], fun m h1 h2 => ?_⟩
        rcases Nat.eq_or_lt_of_le h1 with rfl | hlt
        · simp
        · rw [hshift m hlt, hbefore m hlt h2]
      · rintro ⟨hle, hout, hbefore⟩
        have hne : k ≠ n := by
          rintro rfl
          simp at hout
        have hlt : k + 1 ≤ n := by omega
        exact ⟨hlt, by rw [← hshift n hlt, hout], fun m h1 h2 => by rw [← hshift m h1, hbefore m (by omega) h2]⟩

theorem firstFault_eq_none {k : Nat} {l : List Bool} : firstFault k l = none ↔ ∀ b ∈ l, b = true := by
  induction l generalizing k with
  | nil => simp [firstFault]
  | cons b r ih => cases b <;> simp [firstFault, ih]

/-- A list of checks decides the fields 1 to `top`. -/
def Decides (l : List Bool) (inRange : Nat → Prop) (top : Nat) : Prop :=
  l.length = top ∧ ∀ n, 1 ≤ n → n ≤ top → (l[n - 1]? = some true ↔ inRange n)

theorem Decides.firstFault_of_firstOut {l : List Bool} {inRange : Nat → Prop} {top n : Nat} (h : Decides l inRange top)
    (hn : FirstOut inRange top n) : firstFault 1 l = some n := by
  obtain ⟨hlen, hdecides⟩ := h
  obtain ⟨h1, htop, hout, hbefore⟩ := hn
  refine firstFault_eq_some.2 ⟨h1, ?_, fun m hm hlt => (hdecides m hm (by omega)).2 (hbefore m hm hlt)⟩
  obtain ⟨b, hb⟩ : ∃ b, l[n - 1]? = some b := ⟨_, List.getElem?_eq_getElem (by omega)⟩
  cases b with
  | false => exact hb
  | true => exact absurd ((hdecides n h1 htop).1 hb) hout

/-- With a field out of range there is a first one. -/
theorem exists_firstOut {inRange : Nat → Prop} {top : Nat} (h : ¬ ∀ n, 1 ≤ n → n ≤ top → inRange n) :
    ∃ n, FirstOut inRange top n := by
  classical
  have hex : ∃ n, 1 ≤ n ∧ n ≤ top ∧ ¬ inRange n := by
    push Not at h
    exact h
  obtain ⟨h1, htop, hout⟩ := Nat.find_spec hex
  refine ⟨Nat.find hex, h1, htop, hout, fun m hm hlt => ?_⟩
  by_contra hm'
  exact Nat.find_min hex hlt ⟨hm, by omega, hm'⟩

theorem Decides.firstFault_none {l : List Bool} {inRange : Nat → Prop} {top : Nat} (h : Decides l inRange top)
    (hall : ∀ n, 1 ≤ n → n ≤ top → inRange n) : firstFault 1 l = none := by
  obtain ⟨hlen, hdecides⟩ := h
  refine firstFault_eq_none.2 fun b hb => ?_
  obtain ⟨i, hi⟩ := List.mem_iff_getElem?.1 hb
  obtain ⟨hlt, -⟩ := List.getElem?_eq_some_iff.1 hi
  have htrue := (hdecides (i + 1) (by omega) (by omega)).2 (hall (i + 1) (by omega) (by omega))
  rw [Nat.add_sub_cancel, hi] at htrue
  exact Option.some.inj htrue

/-! ### The fields of Configure (R35) -/

@[simp] theorem within_iff (low high n : Nat) : within low high n = true ↔ low ≤ n ∧ n ≤ high := by
  simp [within]

theorem classOf_isSome_iff (n : Nat) : (classOf n).isSome = true ↔ n ≤ 1 := by
  rcases n with _ | _ | n <;> simp [classOf]

theorem flagOf_isSome_iff (n : Nat) : (flagOf n).isSome = true ↔ n ≤ 1 := by
  rcases n with _ | _ | n <;> simp [flagOf]

theorem flagOf_eq {n : Nat} (h : n ≤ 1) : flagOf n = some (n == 1) := by
  interval_cases n <;> rfl

theorem decodeModeOf_isSome_iff (n : Nat) : (decodeModeOf n).isSome = true ↔ n = 1 ∨ n = 2 ∨ n = 4 := by
  rcases n with _ | _ | _ | _ | _ | n <;> simp [decodeModeOf]

theorem decrementOf_isSome_iff (n : Nat) : (decrementOf n).isSome = true ↔ n = 0 ∨ n = 1 ∨ n = 2 ∨ n = 4 := by
  rcases n with _ | _ | _ | _ | _ | n <;> simp [decrementOf]

theorem configureField_dose (f : ConfigureFields) (i : Nat) :
    configureField f (24 + i) ↔ ∃ d, f.doses[i]? = some d ∧ d ≤ 60 := by
  rw [show 24 + i = i + 24 from by omega]
  simp [configureField]

theorem configureChecks_decides (f : ConfigureFields) : Decides (configureChecks f) (configureField f) 47 := by
  refine ⟨by simp [configureChecks], fun n h1 htop => ?_⟩
  by_cases hn : n ≤ 23
  · interval_cases n <;>
      simp [configureChecks, configureField, classOf_isSome_iff, flagOf_isSome_iff, decodeModeOf_isSome_iff,
        decrementOf_isSome_iff]
  · obtain ⟨i, rfl⟩ : ∃ i, n = 24 + i := ⟨n - 24, by omega⟩
    rw [configureField_dose, configureChecks, List.getElem?_append_right (by simp)]
    have hi : i < 24 := by omega
    have hindex : 24 + i - 1 - 23 = i := by omega
    simp only [List.length_cons, List.length_nil, Nat.zero_add, Nat.reduceAdd, hindex, List.getElem?_map,
      List.getElem?_range hi, Option.map_some, Option.some.injEq, within_iff, List.getD_eq_getElem?_getD]
    cases f.doses[i]? <;> simp

theorem configureInRange_iff (f : ConfigureFields) :
    ConfigureInRange f ↔ f.doses.length ≤ 24 ∧ ∀ n, 1 ≤ n → n ≤ 47 → configureField f n := by
  constructor
  · rintro ⟨h1, h2, h3, h4, h5, h6, h7, h8, h9, h10, h11, h12, h13, h14, h15, h16, h17, h18, h19, h20, h21, h22, h23,
      hlen, hdoses⟩
    refine ⟨hlen.le, fun n hn htop => ?_⟩
    by_cases h : n ≤ 23
    · interval_cases n <;> assumption
    · obtain ⟨i, rfl⟩ : ∃ i, n = 24 + i := ⟨n - 24, by omega⟩
      rw [configureField_dose]
      exact ⟨_, List.getElem?_eq_getElem (by omega), hdoses _ (List.getElem_mem _)⟩
  · rintro ⟨hlen, hall⟩
    have hdose (i : Nat) (hi : i < 24) := (configureField_dose f i).1 (hall (24 + i) (by omega) (by omega))
    have hfull : f.doses.length = 24 := by
      obtain ⟨d, hd, -⟩ := hdose 23 (by omega)
      obtain ⟨hlt, -⟩ := List.getElem?_eq_some_iff.1 hd
      omega
    have hdoses : ∀ d ∈ f.doses, d ≤ 60 := by
      intro d hd
      obtain ⟨i, hi⟩ := List.mem_iff_getElem?.1 hd
      obtain ⟨hlt, -⟩ := List.getElem?_eq_some_iff.1 hi
      obtain ⟨e, he, hle⟩ := hdose i (by omega)
      rw [hi] at he
      rwa [Option.some.inj he]
    have hfield (n : Nat) (h1 : 1 ≤ n) (h2 : n ≤ 23) := hall n h1 (by omega)
    refine ⟨hfield 1 ?_ ?_, hfield 2 ?_ ?_, hfield 3 ?_ ?_, hfield 4 ?_ ?_, hfield 5 ?_ ?_, hfield 6 ?_ ?_, hfield 7 ?_ ?_,
      hfield 8 ?_ ?_, hfield 9 ?_ ?_, hfield 10 ?_ ?_, hfield 11 ?_ ?_, hfield 12 ?_ ?_, hfield 13 ?_ ?_, hfield 14 ?_ ?_,
      hfield 15 ?_ ?_, hfield 16 ?_ ?_, hfield 17 ?_ ?_, hfield 18 ?_ ?_, hfield 19 ?_ ?_, hfield 20 ?_ ?_,
      hfield 21 ?_ ?_, hfield 22 ?_ ?_, hfield 23 ?_ ?_, hfull, hdoses⟩
    all_goals decide

theorem configureRecord_recordOf {f : ConfigureFields} (h : ConfigureInRange f) : RecordOf f (configureRecord f) := by
  obtain ⟨h1, h2, h3, h4, h5, h6, h7, h8, h9, h10, h11, h12, h13, h14, h15, h16, h17, h18, h19, h20, h21, h22, h23,
    hlen, hdoses⟩ := h
  have hsome {α : Type} (o : Option α) (d : α) (ho : o.isSome = true) : o = some (o.getD d) := by
    obtain ⟨x, rfl⟩ := Option.isSome_iff_exists.1 ho
    rfl
  exact ⟨rfl, hsome _ _ ((classOf_isSome_iff _).2 h2), rfl, rfl, rfl, rfl, rfl, rfl, rfl, rfl,
    hsome _ _ ((decodeModeOf_isSome_iff _).2 h11), rfl, hsome _ _ ((decrementOf_isSome_iff _).2 h13), rfl,
    hsome _ _ ((decrementOf_isSome_iff _).2 h15), flagOf_eq h16, flagOf_eq h17, flagOf_eq h18, flagOf_eq h19, rfl, rfl, rfl,
    rfl, List.take_of_length_le hlen.le⟩

/-! ### CONFIGURE -/

theorem exec_configure (f : ConfigureFields) (s : State) : exec (.configure f) s = execConfigure f s := rfl

/-- A frame of a plain kind queued while OFFLINE has no place and settles the unheard count (R16, R23). -/
theorem offerFrame_offline (b : Block) (same : Payload → Bool) (p : Payload) (s : State)
    (hoff : s.station.state = .offline) (hempty : s.channel.queue = []) (hplain : p.plain = true) :
    offerFrame b same p s =
      { s with channel := { s.channel with unheardCount := quietCount s.channel.unheardCount } } := by
  rw [offerFrame_new b same p s (by simp [hempty]), queueFrame_offline b p s hoff, unsent_plain p s hplain]

/-- The service distance of a station without neighbours (R43). -/
theorem serviceDistance_alone {s : State} (hvalid : s.station.configValid = true) (hnone : s.station.neighbours = []) :
    s.serviceDistance = if s.station.config.cls = .depot then 0 else 15 := by
  cases hcls : s.station.config.cls <;> simp [State.serviceDistance, State.cfg, hvalid, hnone, hcls]

@[simp] theorem Motion.configured_clear (cls : StationClass) (m : Motion) :
    (m.configured cls).latch = false ∧ (m.configured cls).warning = false := by
  cases cls <;> exact ⟨rfl, rfl⟩

/-- The own zone becomes CLEAR while OFFLINE (R126; log 16). -/
theorem zoneChanged_offline (z : Zone) (s : State) (hclear : s.zone = .clear) (hoff : s.station.state = .offline)
    (hempty : s.channel.queue = []) : zoneChanged z s = { s with
      channel := { s.channel with
        unheardCount := if z = .clear then s.channel.unheardCount else quietCount s.channel.unheardCount }
      motion := { s.motion with noticeMs := if z = .clear then s.motion.noticeMs else 0 }
      host := { s.host with events := s.withEvents (if z = .clear then [] else [.guestZone .clear z s.place]) } } := by
  unfold zoneChanged
  rw [hclear]
  by_cases hz : z = .clear
  · simp [hz, State.withEvents]
  · rw [if_neg (Ne.symm hz), post_events]
    simp only [if_neg hz]
    exact offerFrame_offline _ _ _ _ hoff hempty rfl

/-- A configuration record taken by a station off the air, in full (R35, R36; log 16). -/
theorem configured_offline (k : Configuration) (s : State) (hoff : s.station.state = .offline)
    (hempty : s.channel.queue = []) (hnone : s.station.neighbours = []) {d : Nat}
    (hd : d = if k.cls = .depot then 0 else 15) : configured k s = { s with
      station := { s.station with config := k, configValid := true, distance := d }
      odo := s.odo.configured k.cls
      channel := { s.channel with
        unheardCount := if s.zone = .clear then s.channel.unheardCount else quietCount s.channel.unheardCount }
      motion := { s.motion.configured k.cls with
        noticeMs := if s.zone = .clear then (s.motion.configured k.cls).noticeMs else 0 }
      dosing := { s.dosing with pulsesNow := 0 }
      host := { s.host with
        events := s.withEvents ((if d = s.station.distance then [] else [.distance s.station.distance d]) ++
          if s.zone = .clear then [] else [.guestZone .clear s.zone s.place]) } } := by
  have hdistance : (s.reconfigured k).serviceDistance = d := by
    rw [serviceDistance_alone (s := s.reconfigured k) rfl hnone, hd]
    rfl
  have hplace : (s.reconfigured k).place = s.place := by
    show Option.map _ (s.odo.configured k.cls).entry = _
    cases k.cls <;> rfl
  rw [configured_eq, recomputeDistance_eq, hdistance]
  refine (zoneChanged_offline _ _ ?_ ?_ ?_).trans ?_
  · simp [State.zone, State.reconfigured]
  · exact hoff
  · exact hempty
  · rw [← withEvents_append, ← hplace]
    rfl

theorem configureRecord_cls {f : ConfigureFields} (h : f.cls ≤ 1) :
    (f.cls = 0 ∧ (configureRecord f).cls = .robot) ∨ (f.cls = 1 ∧ (configureRecord f).cls = .depot) := by
  have hcases : f.cls = 0 ∨ f.cls = 1 := by omega
  rcases hcases with h0 | h1
  · exact .inl ⟨h0, by simp [configureRecord, h0, classOf]⟩
  · exact .inr ⟨h1, by simp [configureRecord, h1, classOf]⟩

theorem Odo.configured_eq {f : ConfigureFields} (h : f.cls ≤ 1) (o : Odo) : o.configured (configureRecord f).cls = { o with
    fault := o.fault && decide (f.cls = 0), faultFresh := o.faultFresh && decide (f.cls = 0)
    faultWindows := if f.cls = 0 then o.faultWindows else 0 } := by
  rcases configureRecord_cls h with ⟨hf, hclass⟩ | ⟨hf, hclass⟩ <;> simp [hf, hclass, Odo.configured]

/-- Settles O21. -/
theorem configureTakesTheRecordOrNamesTheFault : Obligations.ConfigureTakesTheRecordOrNamesTheFault := by
  unfold Obligations.ConfigureTakesTheRecordOrNamesTheFault
  intro f s hoff hsel
  have hexec : exec (.configure f) s = (match configureFault f with
      | some n => .next (reply [refusedRange, byteOf n] s)
      | none => finish (ok [] (configured (configureRecord f) s))) := by
    rw [exec_configure, execConfigure, whenTaken_taken _ _ hsel, if_neg (not_not.2 hoff)] <;> rfl
  have hnamed (n : Nat) (hn : FirstOut (configureField f) 47 n) :
      exec (.configure f) s = .next (s.answered [0x02, BitVec.ofNat 8 n]) := by
    rw [hexec, configureFault, (configureChecks_decides f).firstFault_of_firstOut hn]
    rfl
  refine ⟨hnamed, fun hout hlen => ?_, fun hin hair => ?_⟩
  · obtain ⟨n, hn⟩ := exists_firstOut fun hall => hout ((configureInRange_iff f).2 ⟨hlen, hall⟩)
    exact ⟨n, hn, hnamed n hn⟩
  · obtain ⟨-, hsilent⟩ := hair
    obtain ⟨hempty, -, -, -, -, hnone, -, -⟩ := hsilent hoff
    have hcls : f.cls ≤ 1 := hin.2.1
    have hfault : configureFault f = none :=
      (configureChecks_decides f).firstFault_none ((configureInRange_iff f).1 hin).2
    refine ⟨_, by rw [hexec, hfault]; rfl, ?_⟩
    have hd : (if f.cls = 1 then 0 else 15) = if (configureRecord f).cls = .depot then 0 else 15 := by
      rcases configureRecord_cls hcls with ⟨hf, hclass⟩ | ⟨hf, hclass⟩ <;> simp [hf, hclass]
    rw [ok_eq_answered, configured_offline _ s hoff hempty hnone hd, Odo.configured_eq hcls]
    refine ⟨rfl, configureRecord_recordOf hin, rfl, fun h0 => ?_, fun h1 => ?_, rfl⟩
    · have hclass : (configureRecord f).cls = .robot := by simp [configureRecord, h0, classOf]
      simp [State.answered, hclass, Motion.configured]
    · have hclass : (configureRecord f).cls = .depot := by simp [configureRecord, h1, classOf]
      simp [State.answered, hclass, Motion.configured]

/-! ### The fields of Load Segment (R45) -/

theorem surfaceOf_isSome_iff (n : Nat) : (surfaceOf n).isSome = true ↔ n ≤ 3 := by
  rcases n with _ | _ | _ | _ | n <;> simp [surfaceOf]

theorem loadField_adjacent (f : LoadFields) (i : Nat) : loadField f (8 + i) ↔
    ∃ a, f.adjacent[i]? = some a ∧ 1 ≤ a ∧ a ≤ 4000 ∧ a ≠ f.segment ∧ a ∉ f.adjacent.take i := by
  rw [show 8 + i = i + 8 from by omega]
  simp [loadField]

theorem adjacentOk_iff (f : LoadFields) (i : Nat) : adjacentOk f i = true ↔
    ∃ a, f.adjacent[i]? = some a ∧ 1 ≤ a ∧ a ≤ 4000 ∧ a ≠ f.segment ∧ a ∉ f.adjacent.take i := by
  simp only [adjacentOk, Config.maxSegment, Bool.and_eq_true, within_iff, bne_iff_ne, Bool.not_eq_true',
    List.getD_eq_getElem?_getD, List.contains_eq_mem, decide_eq_false_iff_not, and_assoc]
  cases f.adjacent[i]? <;> simp

theorem loadChecks_decides (f : LoadFields) : Decides (loadChecks f) (loadField f) (7 + f.adjacentCount) := by
  refine ⟨by simp [loadChecks]; omega, fun n h1 htop => ?_⟩
  by_cases hn : n ≤ 7
  · interval_cases n <;>
      simp [loadChecks, loadField, Config.maxSegment, surfaceOf_isSome_iff, flagOf_isSome_iff]
  · obtain ⟨i, rfl⟩ : ∃ i, n = 8 + i := ⟨n - 8, by omega⟩
    rw [loadField_adjacent, loadChecks, List.getElem?_append_right (by simp)]
    have hi : i < f.adjacentCount := by omega
    have hindex : 8 + i - 1 - 7 = i := by omega
    simp only [List.length_cons, List.length_nil, Nat.zero_add, Nat.reduceAdd, hindex, List.getElem?_map,
      List.getElem?_range hi, Option.map_some, Option.some.injEq, adjacentOk_iff]

/-- A list has no repeat within its first `k` entries exactly where each of them is new (R45). -/
theorem nodup_take_iff {l : List Nat} {k : Nat} (hk : k ≤ l.length) :
    (l.take k).Nodup ↔ ∀ i a, i < k → l[i]? = some a → a ∉ l.take i := by
  induction k with
  | zero => simp
  | succ k ih =>
    have hlast : l.take (k + 1) = l.take k ++ [l[k]] := List.take_succ_eq_append_getElem hk
    rw [hlast, List.nodup_append, ih (by omega)]
    constructor
    · rintro ⟨hbefore, -, hnew⟩ i a hi ha
      rcases Nat.lt_succ_iff_lt_or_eq.1 hi with hlt | rfl
      · exact hbefore i a hlt ha
      · intro hmem
        refine hnew a hmem l[i] (by simp) ?_
        obtain ⟨-, rfl⟩ := List.getElem?_eq_some_iff.1 ha
        rfl
    · intro hall
      refine ⟨fun i a hi ha => hall i a (by omega) ha, by simp, fun a hmem b hb => ?_⟩
      rintro rfl
      rw [List.mem_singleton.1 hb] at hmem
      exact hall k l[k] (by omega) (List.getElem?_eq_getElem _) hmem

theorem loadInRange_iff (f : LoadFields) :
    LoadInRange f ↔ ∀ n, 1 ≤ n → n ≤ 7 + f.adjacentCount → loadField f n := by
  constructor
  · rintro ⟨h1, h2, h3, h4, h5, h6, h7, hlen, hnodup, hadj⟩ n hn htop
    by_cases h : n ≤ 7
    · interval_cases n <;> assumption
    · obtain ⟨i, rfl⟩ : ∃ i, n = 8 + i := ⟨n - 8, by omega⟩
      rw [loadField_adjacent]
      have hi : i < f.adjacentCount := by omega
      have hget := List.getElem?_eq_getElem (l := f.adjacent) (i := i) (by omega)
      obtain ⟨hlow, hhigh, hown⟩ := hadj f.adjacent[i] (List.mem_take_iff_getElem.2 ⟨i, by omega, rfl⟩)
      exact ⟨_, hget, hlow, hhigh, hown, (nodup_take_iff hlen).1 hnodup i _ hi hget⟩
  · intro hall
    have hadjacent (i : Nat) (hi : i < f.adjacentCount) := (loadField_adjacent f i).1 (hall (8 + i) (by omega) (by omega))
    have hlen : f.adjacentCount ≤ f.adjacent.length := by
      by_contra hshort
      obtain ⟨a, ha, -⟩ := hadjacent f.adjacent.length (by omega)
      obtain ⟨hlt, -⟩ := List.getElem?_eq_some_iff.1 ha
      omega
    have hfield (n : Nat) (h1 : 1 ≤ n) (h2 : n ≤ 7) := hall n h1 (by omega)
    refine ⟨hfield 1 ?_ ?_, hfield 2 ?_ ?_, hfield 3 ?_ ?_, hfield 4 ?_ ?_, hfield 5 ?_ ?_, hfield 6 ?_ ?_, hfield 7 ?_ ?_,
      hlen, (nodup_take_iff hlen).2 fun i a hi ha => ?_, fun a ha => ?_⟩
    case refine_15 =>
      obtain ⟨b, hb, -, -, -, hnew⟩ := hadjacent i hi
      rw [ha] at hb
      rwa [Option.some.inj hb]
    case refine_16 =>
      obtain ⟨i, hi, rfl⟩ := List.mem_take_iff_getElem.1 ha
      obtain ⟨b, hb, hlow, hhigh, hown, -⟩ := hadjacent i (by omega)
      rw [List.getElem?_eq_getElem (by omega), Option.some.injEq] at hb
      rw [hb]
      exact ⟨hlow, hhigh, hown⟩
    all_goals decide

/-! ### LOAD_SEGMENT -/

theorem exec_loadSegment (f : LoadFields) (s : State) : exec (.loadSegment f) s = execLoadSegment f s := rfl

theorem insertSegment_find_same (r : Segment) (l : List Segment) :
    (insertSegment r l).find? (·.number == r.number) = some r := by
  induction l with
  | nil => simp [insertSegment]
  | cons x l ih =>
    unfold insertSegment
    split
    · rw [List.find?_cons_of_neg (by simp; omega), ih]
    · split <;> simp

theorem insertSegment_find_other (r : Segment) (l : List Segment) {n : Nat} (hn : n ≠ r.number) :
    (insertSegment r l).find? (·.number == n) = l.find? (·.number == n) := by
  induction l with
  | nil => simp [insertSegment, hn.symm]
  | cons x l ih =>
    unfold insertSegment
    split
    · simp only [List.find?_cons, ih]
    · split
      · next hx => rw [List.find?_cons_of_neg (by simp [hn.symm]), List.find?_cons_of_neg (by simp [hx, hn.symm])]
      · rw [List.find?_cons_of_neg (by simp [hn.symm])]

/-- The record that a Load Segment request in range makes holds its fields as sent (R45, R47). -/
theorem loadedRecord_fields {f : LoadFields} (h : LoadInRange f) :
    surfaceOf f.surface = some (loadedRecord f).surface ∧ flagOf f.saltPermitted = some (loadedRecord f).saltPermitted := by
  obtain ⟨-, -, -, hsurface, hsalt, -⟩ := h
  refine ⟨?_, flagOf_eq hsalt⟩
  obtain ⟨x, hx⟩ := Option.isSome_iff_exists.1 ((surfaceOf_isSome_iff _).2 hsurface)
  rw [hx]
  simp [loadedRecord, hx]

/-- The half of O38 on LOAD_SEGMENT. -/
theorem execLoadSegment_offline (f : LoadFields) (s : State) (hsel : s.host.heldSel = false)
    (hoff : s.station.state = .offline) :
    (∀ n, FirstOut (loadField f) (7 + f.adjacentCount) n →
      exec (.loadSegment f) s = .next (s.answered [0x02, BitVec.ofNat 8 n])) ∧
    (LoadInRange f → s.segs.records.find? (·.number == f.segment) = none → 96 ≤ s.segs.records.length →
      exec (.loadSegment f) s = .next (s.answered [0x03])) ∧
    (LoadInRange f → (s.segs.records.find? (·.number == f.segment) ≠ none ∨ s.segs.records.length < 96) →
      exec (.loadSegment f) s = .next (endOfStep { s with
        segs := { s.segs with records := insertSegment (loadedRecord f) s.segs.records }
        host := { s.host with reply := some [0x00] } })) := by
  have hexec : exec (.loadSegment f) s = (match firstFault 1 (loadChecks f) with
      | some n => .next (reply [refusedRange, byteOf n] s)
      | none =>
        if (s.segment? f.segment).isNone ∧ Config.segmentCap ≤ s.segs.records.length then refuse refusedFull s
        else finish (ok [] (s.onSegs fun t => { t with records := insertSegment (loadedRecord f) t.records }))) := by
    rw [exec_loadSegment, execLoadSegment, whenTaken_taken _ _ hsel, if_neg (not_not.2 hoff)] <;> rfl
  have hnone (hin : LoadInRange f) : firstFault 1 (loadChecks f) = none :=
    (loadChecks_decides f).firstFault_none ((loadInRange_iff f).1 hin)
  refine ⟨fun n hn => ?_, fun hin hnew hfull => ?_, fun hin hroom => ?_⟩
  · rw [hexec, (loadChecks_decides f).firstFault_of_firstOut hn]
    rfl
  · rw [hexec, hnone hin]
    exact if_pos ⟨Option.isNone_iff_eq_none.2 hnew, hfull⟩
  · rw [hexec, hnone hin]
    refine if_neg ?_
    rintro ⟨hnew, hfull⟩
    rcases hroom with hknown | hroom
    · exact hknown (Option.isNone_iff_eq_none.1 hnew)
    · exact absurd hfull (by simp only [Config.segmentCap]; omega)

/-! ### REPORT_TEMPERATURE -/

theorem exec_reportTemperature (n : Nat) (temp : Int) (s : State) :
    exec (.reportTemperature n temp) s = execReportTemperature n temp s := rfl

/-- A record found by its number, after a change of that record. -/
theorem updateSegment_segment (n : Nat) (g : Segment → Segment) (s : State) (hg : ∀ x, (g x).number = x.number) :
    (updateSegment n g s).segment? n = (s.segment? n).map g := by
  show (s.segs.records.map fun x => if x.number == n then g x else x).find? (·.number == n) = _
  unfold State.segment?
  induction s.segs.records with
  | nil => rfl
  | cons x l ih =>
    by_cases hx : x.number = n
    · simp [hx, hg]
    · simp only [List.map_cons, beq_iff_eq, hx, if_false]
      rw [List.find?_cons_of_neg (by simp [hx]), List.find?_cons_of_neg (by simp [hx])]
      simpa using ih

/-- Computing the cell need anew changes the need alone (R153). -/
theorem recomputeNeed_shape (s : State) :
    recomputeNeed s = { s with dosing := { s.dosing with need := (recomputeNeed s).dosing.need } } := by
  unfold recomputeNeed
  split <;> rfl

theorem recomputeNeed_no_pass (s : State) (h : s.segs.pass = none) : recomputeNeed s = s := by
  unfold recomputeNeed
  rw [h]
  split
  · next h2 => cases h2
  · rfl

/-- The need against the residual of the open pass (R152, R153). -/
theorem recomputeNeed_need {s : State} {r : Segment} {p : Pass} (hr : s.currentRecord = some r) (hp : s.segs.pass = some p) :
    (recomputeNeed s).dosing.need = cellNeed s.cfg s.now r p.residual := by
  unfold recomputeNeed
  rw [hr, hp]
  rfl

/-- Settles O38. -/
theorem loadAndReportTemperature : Obligations.LoadAndReportTemperature := by
  unfold Obligations.LoadAndReportTemperature
  intro s hsel
  refine ⟨fun f hoff => ?_, fun n temp T hT => ⟨fun hnone => ?_, fun r hr => ?_⟩⟩
  · obtain ⟨hnamed, hfull, htaken⟩ := execLoadSegment_offline f s hsel hoff
    refine ⟨hnamed, fun hout => ?_, hfull, fun hin hroom => ⟨_, htaken hin hroom, rfl, fun n hn => ?_, ?_⟩⟩
    · obtain ⟨n, hn⟩ := exists_firstOut fun hall => hout ((loadInRange_iff f).2 hall)
      exact ⟨n, hn, hnamed n hn⟩
    · exact insertSegment_find_other (loadedRecord f) _ hn
    · obtain ⟨hsurface, hsalt⟩ := loadedRecord_fields hin
      exact ⟨loadedRecord f, insertSegment_find_same (loadedRecord f) _, rfl, rfl, rfl, hsurface, hsalt, rfl, rfl, rfl, rfl,
        rfl⟩
  · rw [exec_reportTemperature, execReportTemperature, whenTaken_taken _ _ hsel, State.segment?, hnone]
    rfl
  · have htaken : exec (.reportTemperature n temp) s = finish (ok (be16 (twos16 T))
        (if s.currentSegment = some n then
          recomputeNeed (updateSegment n (fun x => { x with reported := some (T, s.now) }) s)
        else updateSegment n (fun x => { x with reported := some (T, s.now) }) s)) := by
      rw [exec_reportTemperature, execReportTemperature, whenTaken_taken _ _ hsel, State.segment?, hr, hT]
      rfl
    have hrecords : (updateSegment n (fun x => { x with reported := some (T, s.now) }) s).segs.records =
        s.segs.records.map fun x => if x.number = n then { x with reported := some (T, s.station.clock) } else x := by
      simp [updateSegment, updateIf, State.now]
    refine ⟨_, htaken, ?_, fun hno => ?_, fun p hn hp => ?_⟩
    · rw [← hrecords]
      split
      · rw [recomputeNeed_shape]
        rfl
      · rfl
    · rcases hno with hother | hpass
      · rw [if_neg (show ¬ s.currentSegment = some n from hother)]
        rfl
      · split
        · rw [recomputeNeed_no_pass (updateSegment n _ s) hpass]
          rfl
        · rfl
    · rw [if_pos (show s.currentSegment = some n from hn)]
      have hcurrent : (updateSegment n (fun x => { x with reported := some (T, s.now) }) s).currentRecord =
          some { r with reported := some (T, s.now) } := by
        have hfind := updateSegment_segment n (fun x => { x with reported := some (T, s.now) }) s (fun _ => rfl)
        rw [show s.segment? n = some r from hr] at hfind
        rw [State.currentRecord, show (updateSegment n _ s).currentSegment = some n from hn]
        exact hfind
      refine (recomputeNeed_need hcurrent hp).trans ?_
      simp [cellNeed, baseDose, surfaceTemp, State.now, State.cfg]

end Sys2Proof.Machine

/-! ## Seizes, frame starts and arbitration (O30, O31) -/

namespace Sys2Proof.Machine

/-! ### Changes of motion state -/

/-- A change of motion state that does not lead to IDLE, in full (R111, R114, R129, R138). -/
theorem moveTo_eq {new : MotionState} (cause : MotionCause) (faults : FaultSet) (s : State)
    (hne : s.motion.state ≠ new) (hnew : new ≠ .idle) : moveTo new cause faults s = { s with
      motion := s.motion.moved new faults s.station.config.crawl
      group := { s.group with retained := s.group.retained && keepsRetained new }
      host := { s.host with events := s.withEvents [.motion s.motion.state new cause
        (clampCeiling new s.station.config.crawl s.motion.ceiling) s.currentSegment faults] } } := by
  unfold moveTo
  rw [if_neg hne]
  simp only [post_events]
  split
  · exact absurd rfl hnew
  · rfl

/-- Caution is entered from RUN once a cause is there (R127). -/
theorem evalCaution_enters (s : State) (hrun : s.motion.state = .run) (hcause : s.cautionCause = true) :
    evalCaution s = move .caution .cautionOn s := if_pos ⟨hrun, hcause⟩

theorem evalCaution_stays (s : State) (hrun : s.motion.state ≠ .run) (hcause : s.cautionCause = true) :
    evalCaution s = s := by
  rw [evalCaution, if_neg fun h => hrun h.1, if_neg (by simp [hcause])]

theorem cautionCause_of_seize {s : State} {n : Nat} (h : s.motion.seizePeriod = some n) : s.cautionCause = true := by
  simp [State.cautionCause, State.causeSeize, h]

/-! ### The run in which a seize ends (R4) -/

theorem Channel.ran_one (c : Channel) : c.ran 1 =
    if c.assembler.inFrame then c
    else { c.broken with assembler := if c.assembler = .hunt then .waitIdle else c.assembler } := rfl

theorem Channel.broken_not_idle (c : Channel) : c.broken.condition ≠ .idle ∧ c.broken.idleCount = 0 := by
  rw [Channel.broken_eq]
  constructor
  · dsimp only
    split <;> decide
  · rfl

theorem Channel.frameOver_not_idle (c : Channel) : c.frameOver.condition ≠ .idle ∧ c.frameOver.idleCount = 0 :=
  c.broken_not_idle

/-- Where the assembler goes at the end of a dominant run (R4, R10). -/
theorem Channel.ran_assembler (n : Nat) (c : Channel) : (c.ran n).assembler =
    if n = 0 then c.assembler
    else if n = 1 then (if c.assembler = .hunt then .waitIdle else c.assembler)
    else if n = 4 ∧ c.assembler = .hunt then .header else .waitIdle := by
  by_cases h0 : n = 0
  · simp [h0, Channel.ran]
  by_cases h1 : n = 1
  · subst h1
    rw [Channel.ran_one]
    cases hassembler : c.assembler <;> simp [Assembler.inFrame, hassembler]
  by_cases h4 : n = 4 ∧ c.assembler = .hunt
  · obtain ⟨rfl, hhunt⟩ := h4
    simp [Channel.ran, Channel.marked, hhunt, Config.markDominants]
  · rw [Channel.ran, if_neg h0, if_neg h1, if_neg (show ¬ (n = Config.markDominants ∧ _) from h4), if_neg h0, if_neg h1, if_neg h4]
    split <;> rfl

/-- A run that ends nothing of the frame in assembly leaves the channel as it was (R4; log 28). -/
theorem Channel.ran_passes (n : Nat) (c : Channel) (h : n = 0 ∨ (n = 1 ∧ c.assembler.inFrame = true)) : c.ran n = c := by
  rcases h with rfl | ⟨rfl, hframe⟩
  · rfl
  · rw [Channel.ran_one, if_pos hframe]

/-- Any other run breaks the idle count (R3, R4). -/
theorem Channel.ran_breaks (n : Nat) (c : Channel) (hpos : 1 ≤ n) (h : n = 1 → c.assembler.inFrame = false) :
    (c.ran n).condition ≠ .idle ∧ (c.ran n).idleCount = 0 := by
  by_cases h1 : n = 1
  · subst h1
    rw [Channel.ran_one, if_neg (by simp [h rfl])]
    exact c.broken_not_idle
  · unfold Channel.ran
    rw [if_neg (by omega), if_neg h1]
    split
    · next hmark =>
      rw [Channel.marked, if_pos hmark.2]
      exact c.broken_not_idle
    · split
      · exact c.frameOver_not_idle
      · exact c.frameOver_not_idle

theorem seizeRunIsNoise_iff (s : State) : s.seizeRunIsNoise = true ↔
    2 ≤ s.seizeRunLength ∧ s.seizeRunLength < 24 ∧ ¬ (s.seizeRunLength = 4 ∧ s.channel.assembler = .hunt) ∧
      s.channel.runCounted = false := by
  simp only [State.seizeRunIsNoise, Bool.and_eq_true, decide_eq_true_eq, Bool.not_eq_true', and_assoc,
    Bool.and_eq_false_iff, beq_eq_false_iff_ne, ne_eq, not_and_or]

/-- The noise count after the end of an own seize (R12). -/
theorem Channel.seizeOver_noise (s : State) : s.channel.seizeOver.noiseCount =
    if s.seizeRunIsNoise then min 255 (s.channel.noiseCount + 1) else s.channel.noiseCount := by
  show (Channel.ran s.seizeRunLength { s.channel with seizeLeft := 0 }).noiseCount = _
  rw [Channel.ran_noise]
  exact if_congr (seizeRunIsNoise_iff s).symm rfl rfl

/-! ### Seizes -/

theorem exec_seize (s : State) : exec .seize s = execSeize s := rfl

theorem exec_seizeEnds (s : State) : exec .seizeEnds s = execSeizeEnds s := rfl

/-- With no frame in flight there is none to return (R26). -/
theorem frameReturns_none (reported : Bool) (s : State) (h : s.channel.flight = none) : frameReturns reported s = s := by
  rw [frameReturns, flightFrame_eq_none h]
  show { s with channel := { s.channel with flight := none } } = s
  rw [← h]

/-- A seize heard with no frame of this station in flight, before what a ROBOT does (R5). -/
theorem seized_eq (s : State) (hflight : s.channel.flight = none) :
    post (.channel .seize (s.channel.seizeLeft != 0))
      ((frameReturns true s).onChannel fun c => { c.frameOver with run := max Config.seizeRun c.run }) = { s with
        channel := { s.channel.frameOver with run := max 24 s.channel.run }
        host := { s.host with events := s.withEvents [.channel .seize (s.channel.seizeLeft != 0)] } } := by
  rw [frameReturns_none true s hflight, post_events]
  rfl

/-- Settles O30. -/
theorem seizeStartsCaution : Obligations.SeizeStartsCaution := by
  unfold Obligations.SeizeStartsCaution
  intro s hon hflight
  have hrec := receiverOn_eq_true hon
  have hseize : exec .seize s = if s.isRobot then
      finish (evalCaution { s with
        channel := { s.channel.frameOver with run := max 24 s.channel.run }
        motion := { s.motion with seizePeriod := some 0 }
        host := { s.host with events := s.withEvents [.channel .seize (s.channel.seizeLeft != 0)] } })
      else finish { s with
        channel := { s.channel.frameOver with run := max 24 s.channel.run }
        host := { s.host with events := s.withEvents [.channel .seize (s.channel.seizeLeft != 0)] } } := by
    rw [exec_seize, execSeize, hrec, if_neg (by simp)]
    simp only [seized_eq s hflight]
    rfl
  refine ⟨fun hdepot => ?_, fun hrobot hrun => ?_, fun hrobot hrun => ?_, fun hleft n hn => ?_, fun hleft => ?_⟩
  · rw [hseize, if_neg (by simp [hdepot])]
    rfl
  · rw [hseize, if_pos hrobot, evalCaution_stays _ (by exact hrun) (cautionCause_of_seize rfl)]
    rfl
  · rw [hseize, if_pos hrobot, evalCaution_enters _ (by exact hrun) (cautionCause_of_seize rfl), move,
      moveTo_eq _ _ _ (by simp [hrun]) (by decide)]
    simp only [hrun, keepsRetained, Bool.and_false]
    rfl
  · subst hn
    refine ⟨_, (if_pos hleft).trans (by rw [frameReturns_none true s hflight]; rfl), rfl, ?_⟩
    refine ⟨by simp, by simp, by simp, by simp, by simp, by simp, by simp [hflight], Channel.seizeOver_noise s,
      Channel.ran_assembler _ _, fun hpass => ?_, fun hpos hone => ?_⟩
    · have hsame := Channel.ran_passes s.seizeRunLength { s.channel with seizeLeft := 0 } hpass
      show (Channel.ran s.seizeRunLength { s.channel with seizeLeft := 0 }).condition = _ ∧
        (Channel.ran s.seizeRunLength { s.channel with seizeLeft := 0 }).idleCount = _ ∧
        (Channel.ran s.seizeRunLength { s.channel with seizeLeft := 0 }).response = _ ∧
        (Channel.ran s.seizeRunLength { s.channel with seizeLeft := 0 }).abandoned = _
      rw [hsame]
      exact ⟨rfl, rfl, rfl, rfl⟩
    · exact Channel.ran_breaks s.seizeRunLength { s.channel with seizeLeft := 0 } hpos hone
  · exact if_neg (not_not.2 hleft)

/-! ### Frame starts and arbitration -/

theorem exec_frameStart (s : State) : exec .frameStart s = execFrameStart s := rfl

theorem exec_arbitrationWon (s : State) : exec .arbitrationWon s = execArbitrationWon s := rfl

theorem flightFrame_eq_some {s : State} {f : Flight} {q : Queued} (h : s.Flying f q) : s.flightFrame = some q := by
  obtain ⟨hflight, hfind⟩ := h
  rw [State.flightFrame, hflight]
  exact hfind

theorem mayStartFrame_iff (s : State) : s.mayStartFrame = true ↔ s.station.state = .active ∧ s.channel.condition = .idle ∧
    s.channel.flight = none ∧ s.channel.seizeLeft = 0 ∧ s.channel.queue ≠ [] := by
  simp [State.mayStartFrame, and_assoc]

/-- The symbols of a frame, written out bit by bit (R2, R7). -/
theorem frameSymbols_eq (image : List Byte) : frameSymbols image = [true, true, true, true, false] ++
    image.flatMap (fun b => [7, 6, 5, 4, 3, 2, 1, 0].flatMap fun n => [!b.getLsbD n, false]) := rfl

/-- TXKEY with a frame in flight and no seize (R13). -/
theorem txkey_flying {s : State} {f : Flight} (hflight : s.channel.flight = some f) (hleft : s.channel.seizeLeft = 0)
    (sensed : List Bool) :
    s.txkey sensed = keyNext (if s.channel.assembler.keyed then frameSymbols f.image else []) sensed := by
  simp [State.txkey, hleft, State.keyedSymbols, hflight]

theorem keyNext_nil (sensed : List Bool) : keyNext [] sensed = false := by
  cases sensed <;> rfl

theorem updateOwn_eq (n : Nat) (g : OwnClaim → OwnClaim) (s : State) : updateOwn n g s = { s with
    claims := { s.claims with own := s.claims.own.map fun x => if x.segment = n then g x else x } } := by
  simp [updateOwn, updateIf, State.onClaims]

/-- A NEW claim whose frame won arbitration, QUEUED until now, is CONTESTING (R14, R76). -/
theorem wonNotice_new (n i r : Nat) (s : State) : wonNotice (.claim n i r 0) s = { s with
    claims := { s.claims with own := s.claims.own.map fun x =>
      if x.segment = n ∧ x.state = .queued then { x with state := .contesting } else x } } := by
  rw [wonNotice, if_pos rfl, updateOwn_eq]
  simp only [ite_and]

theorem wonNotice_plain (p : Payload) (s : State) (h : p.plain = true) : wonNotice p s = s := by
  unfold wonNotice
  split
  · cases h
  · rfl

/-- Settles O31. -/
theorem frameStartsAndWins : Obligations.FrameStartsAndWins := by
  unfold Obligations.FrameStartsAndWins
  intro q s
  refine ⟨fun r hqueue => ⟨fun hactive hidle hflight hleft => ?_, fun hbar => ?_⟩, fun f sensed hflight hleft hrest => ?_,
    fun f plan sensed hflight hleft hkeyed hplan => ?_, fun f m hflying hwon hm => ?_⟩
  · have hstart : s.mayStartFrame = true := (mayStartFrame_iff s).2 ⟨hactive, hidle, hflight, hleft, by simp [hqueue]⟩
    rw [exec_frameStart, execFrameStart, if_pos hstart, hqueue]
    simp only [State.onChannel, Channel.broken_eq, hidle, hleft]
    rfl
  · rw [exec_frameStart]
    refine if_neg fun hstart => ?_
    obtain ⟨hactive, hidle, hflight, hleft, -⟩ := (mayStartFrame_iff s).1 hstart
    simp [hactive, hidle, hflight, hleft] at hbar
  · rw [txkey_flying hflight hleft, if_neg, keyNext_nil]
    rcases hrest with h | h | h <;> simp [h, Assembler.keyed]
  · have hkeys : s.channel.assembler.keyed = true := by
      rcases hkeyed with h | h | h <;> simp [h, Assembler.keyed]
    rw [txkey_flying hflight hleft, if_pos hkeys, frameSymbols_eq, ← hplan]
    simp only [keyNext, List.isPrefixOf_iff_prefix]
    exact ⟨fun h => if_pos h, fun h => if_neg h⟩
  · have hexec : exec .arbitrationWon s = finish (wonNotice q.payload { s with
        channel := { m with flight := some { f with won := true }, symbol := max 37 s.channel.symbol } }) := by
      have hmarked : m = { s.channel.marked with symbol := m.symbol } := by
        rw [hm, Channel.marked]
        split <;> rfl
      rw [exec_arbitrationWon, execArbitrationWon, hflying.1, flightFrame_eq_some hflying, hmarked]
      simp only [hwon]
      rfl
    constructor
    · intro hplain
      rw [hexec, wonNotice_plain _ _ hplain]
      rfl
    · intro n i r hp
      rw [hexec, hp, wonNotice_new]
      rfl

end Sys2Proof.Machine

/-! ## Ends of frames: callouts and stale frames (O35, O36) -/

namespace Sys2Proof.Machine

/-! ### The end of an own claim (R72) -/

/-- The end of an own claim, in full. -/
theorem endOwn_eq {n : Nat} {r : OwnClaim} {s : State} (h : s.ownClaim? n = some r) (change : ClaimChange)
    (stronger : Option (Nat × Nat)) : endOwn n change stronger s = { s with
      channel := (withdraw (isClaimFor n) s).channel
      claims := { s.claims with
        own := s.claims.own.filter fun x => !(x.segment == n)
        deferrals := if change = .denied then min 255 (s.claims.deferrals + 1) else s.claims.deferrals }
      host := { s.host with
        events := s.withEvents [.claim n r.intent r.rank change (s.occupied r) stronger] } } := by
  rw [endOwn, h]
  simp only [post_events]
  rfl

theorem endOwn_none {n : Nat} {s : State} (h : s.ownClaim? n = none) (change : ClaimChange)
    (stronger : Option (Nat × Nat)) : endOwn n change stronger s = s := by
  rw [endOwn, h]

/-- With no frame in flight a withdrawal changes the queue alone (R25). -/
theorem withdraw_grounded (p : Queued → Bool) (s : State) (h : s.channel.flight = none) : withdraw p s = { s with
    channel := { s.channel with queue := s.channel.queue.filter fun x => !p x } } := by
  simp [withdraw, State.onChannel, Channel.flightIn, h]

theorem isClaimFor_iff (n : Nat) (q : Queued) : isClaimFor n q = true ↔ ∃ i k m, q.payload = .claim n i k m := by
  unfold isClaimFor
  cases q.payload <;> simp

/-- After a withdrawal of its CLAIM frames a segment has none in the queue (R72). -/
theorem withdraw_no_claim (n : Nat) (s : State) :
    ∀ q ∈ (withdraw (isClaimFor n) s).channel.queue, ∀ i k m, q.payload ≠ .claim n i k m := by
  intro q hq i k m hp
  have hkept : q ∈ s.channel.queue.filter fun x => !isClaimFor n x := hq
  rw [List.mem_filter, (isClaimFor_iff n q).2 ⟨i, k, m, hp⟩] at hkept
  exact absurd hkept.2 (by decide)

theorem occupied_eq (s : State) (r : OwnClaim) : s.occupied r =
    decide (r.state = .holding ∧ s.odo.entry.map (·.segment) = some r.segment ∧ s.motion.state ≠ .idle) := by
  rw [Bool.eq_iff_iff]
  simp [State.occupied, State.currentSegment, and_assoc]

/-! ### Callouts (R168 to R181) -/

theorem endCallout_eq (c : OwnCallout) (outcome : CalloutOutcome) (acked : Option (Nat × Nat)) (s : State) :
    endCallout c outcome acked s = { s with
      callout := { s.callout with own := s.callout.own.filter fun x => !(x.seq == c.seq) }
      host := { s.host with events := s.withEvents [.callout c.code (if outcome = .notSent then none else some c.seq)
        c.segment c.cell c.detail outcome c.attempts acked] } } :=
  post_events _ _

/-- A failed attempt before the fifth leaves an own callout waiting for its backoff (R172). -/
theorem ownAttempt_waits {c : OwnCallout} {s : State} (h : s.callout.own.find? (·.seq == c.seq) = some c)
    (hfew : c.attempts < 4) : ownAttempt c.seq s = { s with
      callout := { s.callout with own := s.callout.own.map fun x =>
        if x.seq = c.seq then { x with attempts := x.attempts + 1, retry := .awaiting 0 } else x } } := by
  have hlt : c.attempts + 1 < Config.ownAttempts := by
    simp only [Config.ownAttempts]
    omega
  simp [ownAttempt, h, if_pos hlt, updateIf, State.onCallout]

/-- The fifth failed attempt ends an own callout UNROUTED (R172). -/
theorem ownAttempt_ends {c : OwnCallout} {s : State} (h : s.callout.own.find? (·.seq == c.seq) = some c)
    (hmany : 4 ≤ c.attempts) : ownAttempt c.seq s = { s with
      callout := { s.callout with own := s.callout.own.filter fun x => !(x.seq == c.seq) }
      host := { s.host with
        events := s.withEvents
          [.callout c.code (some c.seq) c.segment c.cell c.detail .unrouted (c.attempts + 1) none] } } := by
  have hlt : ¬ c.attempts + 1 < Config.ownAttempts := by
    simp only [Config.ownAttempts]
    omega
  simp only [ownAttempt, h, if_neg hlt, endCallout_eq]
  rfl

theorem find_isPair (l : List RelayEntry) (origin seq : Nat) :
    l.find? (·.isPair origin seq) = l.find? (fun y => y.origin == origin && y.seq == seq) := rfl

/-- A failed attempt before the third leaves a relay entry waiting for its backoff (R179). -/
theorem relayAttempt_waits {e : RelayEntry} {s : State}
    (h : s.callout.relay.find? (fun y => y.origin == e.origin && y.seq == e.seq) = some e) (hfew : e.attempts < 2) :
    relayAttempt e.origin e.seq s = { s with
      callout := { s.callout with relay := s.callout.relay.map fun y => if y.origin = e.origin ∧ y.seq = e.seq then
        { y with attempts := y.attempts + 1, retry := .awaiting 0 } else y } } := by
  have hlt : e.attempts + 1 < Config.relayAttempts := by
    simp only [Config.relayAttempts]
    omega
  simp [relayAttempt, h, if_pos hlt, updateIf, State.onCallout, RelayEntry.isPair]

/-- A relay entry leaves the queue, and its pair is remembered (R179, R181). -/
theorem leaveRelay_eq {e : RelayEntry} {s : State}
    (h : s.callout.relay.find? (fun y => y.origin == e.origin && y.seq == e.seq) = some e)
    (hroom : s.callout.recent.length < 16) : leaveRelay e.origin e.seq s = { s with
      callout := { s.callout with
        relay := s.callout.relay.filter fun y => !(y.origin == e.origin && y.seq == e.seq)
        recent := s.callout.recent ++ [⟨e.origin, e.seq, s.station.clock + 120⟩] } } := by
  have hany : s.callout.relay.any (·.isPair e.origin e.seq) = true :=
    List.any_eq_true.2 ⟨e, List.mem_of_find?_eq_some h, by simp [RelayEntry.isPair]⟩
  have hcap : s.callout.recent.length < Config.recentCap := hroom
  simp only [leaveRelay, hany, if_true, addRecent, State.onCallout, hcap]
  rfl

/-- The third failed attempt makes a relay entry leave the queue (R179). -/
theorem relayAttempt_leaves {e : RelayEntry} {s : State}
    (h : s.callout.relay.find? (fun y => y.origin == e.origin && y.seq == e.seq) = some e) (hmany : 2 ≤ e.attempts) :
    relayAttempt e.origin e.seq s = leaveRelay e.origin e.seq s := by
  have hlt : ¬ e.attempts + 1 < Config.relayAttempts := by
    simp only [Config.relayAttempts]
    omega
  simp only [relayAttempt, find_isPair, h, if_neg hlt]

/-! ### A frame that has reached its end (R17) -/

/-- The channel after the end of the frame in flight, its response field over (R11, R16, R17). -/
def Channel.sentOver (f : Flight) (c : Channel) : Channel := { c.frameOver with
  queue := c.queue.filter (fun x => !(x.entry == f.entry)), flight := none, unheardCount := quietCount c.unheardCount }

theorem State.Flying.entry_eq {s : State} {f : Flight} {q : Queued} (h : s.Flying f q) : q.entry = f.entry := by
  simpa using List.find?_some h.2

/-- The frame in flight leaves the queue at its end. -/
theorem frame_leaves {s : State} {f : Flight} {q : Queued} (h : s.Flying f q) (hq : s.QueueInOrder) :
    noteOutcome ((withdraw (·.entry == q.entry) s).onChannel Channel.frameOver) =
      { s with channel := s.channel.sentOver f } := by
  rw [withdraw_flying _ s f q h hq, h.entry_eq]
  simp only [beq_self_eq_true, if_true]
  rfl

/-- What the end of a CALLOUT frame does at the list it is of (R17, R172, R179). -/
theorem frameSent_callout {s : State} {f : Flight} {q : Queued} {origin seq cd sg ce h d x : Nat} (hfly : s.Flying f q)
    (hq : s.QueueInOrder) (hp : q.payload = .callout origin seq cd sg ce h d x) (v : Nat) : frameSent v s =
      if origin = s.station.config.station then ownCalloutSent seq v { s with channel := s.channel.sentOver f }
      else relaySent origin seq v { s with channel := s.channel.sentOver f } := by
  have hwon : wonNotice q.payload s = s := by rw [hp]; rfl
  simp only [frameSent, flightFrame_eq_some hfly, hwon, frame_leaves hfly hq]
  rw [hp]
  rfl

theorem exec_sent (s : State) : exec .sent s = finish (frameSent 65535 s) := rfl

/-- SENT_RESPONDED at a frame with a response field (R17). -/
theorem exec_sentResponded {s : State} {f : Flight} {q : Queued} (hfly : s.Flying f q)
    (hfield : q.payload.hasResponse = true) (v : Nat) : exec (.sentResponded v) s = finish (frameSent v s) := by
  show execSentResponded v s = _
  rw [execSentResponded, flightFrame_eq_some hfly]
  exact if_pos hfield

/-- The end of an own callout's frame. -/
theorem frameSent_own {s : State} {f : Flight} {q : Queued} {c : OwnCallout} {cd sg ce h d x : Nat} (hfly : s.Flying f q)
    (hq : s.QueueInOrder) (hp : q.payload = .callout s.station.config.station c.seq cd sg ce h d x) (v : Nat) :
    frameSent v s = ownCalloutSent c.seq v { s with channel := s.channel.sentOver f } := by
  rw [frameSent_callout hfly hq hp, if_pos rfl]

/-- The end of a forward frame. -/
theorem frameSent_relay {s : State} {f : Flight} {q : Queued} {e : RelayEntry} {cd sg ce h d x : Nat}
    (hfly : s.Flying f q) (hq : s.QueueInOrder) (hp : q.payload = .callout e.origin e.seq cd sg ce h d x)
    (hother : e.origin ≠ s.station.config.station) (v : Nat) :
    frameSent v s = relaySent e.origin e.seq v { s with channel := s.channel.sentOver f } := by
  rw [frameSent_callout hfly hq hp, if_neg hother]

theorem ownCalloutSent_unanswered (seq : Nat) (s : State) : ownCalloutSent seq 65535 s = ownAttempt seq s := rfl

theorem relaySent_unanswered (origin seq : Nat) (s : State) : relaySent origin seq 65535 s = relayAttempt origin seq s :=
  rfl

/-- An acknowledged callout of this station ends (R172). -/
theorem ownCalloutSent_answered {c : OwnCallout} {v : Nat} {s : State} (hv : v ≠ 65535)
    (h : s.callout.own.find? (·.seq == c.seq) = some c) :
    ownCalloutSent c.seq v s = endCallout c .acked (some (v % 256, v / 256)) s := by
  simp only [ownCalloutSent, if_neg (show ¬ v = Config.noResponse from hv), h]

theorem relaySent_answered {v : Nat} (origin seq : Nat) (s : State) (hv : v ≠ 65535) :
    relaySent origin seq v s = leaveRelay origin seq s := if_neg hv

/-- Settles O35. -/
theorem ownCalloutOutcome : Obligations.OwnCalloutOutcome := by
  unfold Obligations.OwnCalloutOutcome
  intro f q cd sg ce h d x s hq hfly
  constructor
  · intro c hp hc
    have hsent (v : Nat) := frameSent_own hfly hq hp v
    refine ⟨fun v hv => ⟨_, ?_, rfl⟩, fun hfew => ?_, fun hfour => ?_⟩
    · rw [exec_sentResponded hfly (by rw [hp]; rfl), hsent, ownCalloutSent_answered hv (by exact hc), endCallout_eq]
      rfl
    · rw [exec_sent, hsent, ownCalloutSent_unanswered, ownAttempt_waits (by exact hc) hfew]
      rfl
    · rw [exec_sent, hsent, ownCalloutSent_unanswered, ownAttempt_ends (by exact hc) hfour.ge, hfour]
      exact ⟨_, rfl, rfl, rfl, rfl, rfl, rfl, rfl, rfl, rfl, rfl⟩
  · rintro e hp hother he sent rfl
    have hsent (v : Nat) := frameSent_relay hfly hq hp hother v
    refine ⟨fun hfew => ?_, fun i v hi hroom => ?_⟩
    · rw [exec_sent, hsent, relaySent_unanswered, relayAttempt_waits (by exact he) hfew]
      rfl
    · rcases hi with ⟨rfl, hv⟩ | ⟨rfl, hmany⟩
      · rw [exec_sentResponded hfly (by rw [hp]; rfl), hsent, relaySent_answered _ _ _ hv,
          leaveRelay_eq (by exact he) (by exact hroom)]
        rfl
      · rw [exec_sent, hsent, relaySent_unanswered, relayAttempt_leaves (by exact he) hmany,
          leaveRelay_eq (by exact he) (by exact hroom)]
        rfl

/-! ### Stale frames (R24) -/

/-- A queued frame is found by its entry number (R22). -/
theorem find_entry {s : State} {q : Queued} (hq : s.QueueInOrder) (hmem : q ∈ s.channel.queue) :
    s.channel.queue.find? (·.entry == q.entry) = some q := by
  obtain ⟨-, hnodup, -, -⟩ := hq
  cases hfind : s.channel.queue.find? (·.entry == q.entry) with
  | none => exact absurd (List.find?_eq_none.1 hfind q hmem) (by simp)
  | some v =>
    have hentry : v.entry = q.entry := by simpa using List.find?_some hfind
    rw [List.inj_on_of_nodup_map hnodup (List.mem_of_find?_eq_some hfind) hmem hentry]

/-- STALE at a frame that is not in flight (R24). -/
theorem exec_stale_waiting {s : State} {q : Queued} (hq : s.QueueInOrder) (hmem : q ∈ s.channel.queue)
    (hflight : s.channel.flight.map (·.entry) ≠ some q.entry) : exec (.stale q.entry) s =
      finish (unsent q.payload { s with
        channel := { s.channel with queue := s.channel.queue.filter fun x => !(x.entry == q.entry) } }) := by
  show execStale q.entry s = _
  rw [execStale, find_entry hq hmem]
  simp only [if_neg (show ¬ s.channel.flightEntry = some q.entry from hflight)]
  rw [withdraw_sparing_flight _ s hq fun x hx => ?_]
  refine beq_eq_false_iff_ne.2 fun he => hflight ?_
  rw [← he]
  exact hx

/-- Settles O36. -/
theorem staleFrameIsRemoved : Obligations.StaleFrameIsRemoved := by
  unfold Obligations.StaleFrameIsRemoved
  rintro q s left hq hmem rfl
  refine ⟨fun hflight hplain => ?_, fun n i k hflight hp => ?_, fun c cd sg ce h d x hflight hp hc => ?_,
    fun e cd sg ce h d x hflight hp hother he => ?_, fun n i k r hflight hp hr hqueued => ?_, fun hflight => ?_⟩
  · rw [exec_stale_waiting hq hmem hflight, unsent_plain _ _ hplain]
    rfl
  · rw [exec_stale_waiting hq hmem hflight, hp, unsent, if_neg (by decide), updateOwn_eq]
    rfl
  · rw [exec_stale_waiting hq hmem hflight, hp, unsent, calloutAttempt, if_pos (by rfl)]
    refine ⟨fun hfew => ?_, fun hmany => ?_⟩
    · rw [ownAttempt_waits (by exact hc) hfew]
      rfl
    · rw [ownAttempt_ends (by exact hc) hmany]
      rfl
  · rw [exec_stale_waiting hq hmem hflight, hp, unsent, calloutAttempt, if_neg (by exact hother)]
    refine ⟨fun hfew => ?_, fun hmany hroom => ?_⟩
    · rw [relayAttempt_waits (by exact he) hfew]
      rfl
    · rw [relayAttempt_leaves (by exact he) hmany, leaveRelay_eq (by exact he) (by exact hroom)]
      rfl
  · have hunoccupied : s.occupied r = false := by simp [State.occupied, hqueued]
    refine ⟨_, exec_stale_waiting hq hmem hflight, ?_⟩
    rw [hp, unsent, if_pos rfl, endOwn_eq (by exact hr)]
    refine ⟨rfl, rfl, rfl, rfl, rfl, rfl, rfl, rfl, fun hstays => ?_, ?_⟩
    · have hkept : q ∈ (s.channel.queue.filter fun x => !(x.entry == q.entry)).filter fun x => !isClaimFor n x := hstays
      simp at hkept
    · show s.withEvents [.claim n r.intent r.rank .stale (s.occupied r) none] = _
      rw [hunoccupied]
  · have hexec : exec (.stale q.entry) s = .next (s.onChannel fun c => { c with
        queue := updateIf (·.entry == q.entry) (fun x => { x with age := max x.age x.payload.staleLimit }) c.queue }) := by
      show execStale q.entry s = _
      rw [execStale, find_entry hq hmem]
      exact if_pos hflight
    refine ⟨_, hexec, rfl, ?_⟩
    simp [updateIf]

end Sys2Proof.Machine

/-! ## Frames stopped in flight (O32) -/

namespace Sys2Proof.Machine

/-! ### Records that have just joined the event queue (R190) -/

/-- Up to 32 records that join the event queue stand at its end (R190). -/
theorem withEvents_ends (s : State) (es : List Event) (h : es.length ≤ 32) :
    ∃ before joined, s.withEvents es = before ++ joined ∧ joined.map (·.event) = es := by
  induction es using List.reverseRecOn with
  | nil => exact ⟨s.host.events, [], by simp [State.withEvents], rfl⟩
  | append_singleton es e ih =>
    have hlen : es.length + 1 ≤ 32 := by simpa using h
    obtain ⟨before, joined, hall, hjoined⟩ := ih (by omega)
    have hcount : joined.length = es.length := by rw [← hjoined, List.length_map]
    have hstep : s.withEvents (es ++ [e]) = joinRecords s.station.clock (before ++ joined) e := by
      rw [← hall]
      simp [State.withEvents]
    rw [hstep, joinRecords]
    split
    · exact ⟨before, joined ++ [⟨e, s.station.clock, false⟩], by simp, by simp [hjoined]⟩
    · next hfull =>
      cases before with
      | nil => simp only [List.nil_append] at hfull; omega
      | cons b before => exact ⟨before, joined ++ [⟨e, s.station.clock, true⟩], by simp, by simp [hjoined]⟩

theorem mem_withEvents (s : State) {es : List Event} {e : Event} (h : es.length ≤ 32) (he : e ∈ es) :
    ∃ x ∈ s.withEvents es, x.event = e := by
  obtain ⟨before, joined, hall, hjoined⟩ := withEvents_ends s es h
  rw [← hjoined] at he
  obtain ⟨x, hx, hxe⟩ := List.mem_map.1 he
  exact ⟨x, by simp [hall, hx], hxe⟩

/-! ### What a frame that ends unsent leaves (R26) -/

/-- What may differ, with no frame in flight, between a state and the one in which a frame has ended or come back: queue,
unheard count, claims, callouts and the events posted. -/
structure Left where
  queue : List Queued
  unheard : Nat
  claims : Claims
  callout : Callouts
  events : List Event

/-- The state that such an end leaves. -/
def State.left (s : State) (l : Left) : State := { s with
  channel := { s.channel with queue := l.queue, flight := none, unheardCount := l.unheard }
  claims := l.claims, callout := l.callout, host := { s.host with events := s.withEvents l.events } }

/-- The own claim `r` of the segment has ended with its frame (R72). -/
def Left.ends (l : Left) (s : State) (n : Nat) (r : OwnClaim) (change : ClaimChange) : Prop :=
  l.claims = { s.claims with own := s.claims.own.filter fun x => !(x.segment == n) } ∧
    (∀ q ∈ l.queue, ∀ i k m, q.payload ≠ .claim n i k m) ∧ l.events = [.claim n r.intent r.rank change (s.occupied r) none]

theorem endOwn_left {s : State} {n : Nat} {r : OwnClaim} (hr : s.ownClaim? n = some r) (hflight : s.channel.flight = none)
    {change : ClaimChange} (hchange : change ≠ .denied) : ∃ l : Left, endOwn n change none s = s.left l ∧
      l.unheard = s.channel.unheardCount ∧ l.callout = s.callout ∧ (∀ y ∈ l.queue, y ∈ s.channel.queue) ∧
      l.ends s n r change := by
  refine ⟨⟨s.channel.queue.filter fun x => !isClaimFor n x, s.channel.unheardCount,
    { s.claims with own := s.claims.own.filter fun x => !(x.segment == n) }, s.callout,
    [.claim n r.intent r.rank change (s.occupied r) none]⟩, ?_, rfl, rfl, fun y hy => (List.mem_filter.1 hy).1, rfl,
    withdraw_no_claim n s, rfl⟩
  rw [endOwn_eq hr, withdraw_grounded _ _ hflight, if_neg hchange]
  simp only [State.left, hflight]

theorem left_self (s : State) (h : s.channel.flight = none) :
    s.left ⟨s.channel.queue, s.channel.unheardCount, s.claims, s.callout, []⟩ = s := by
  simp [State.left, State.withEvents, ← h]

/-- An outcome of an attempt changes the callouts and posts one event at most (R172, R179). -/
theorem calloutAttempt_left (origin seq : Nat) (s : State) : ∃ callout es, es.length ≤ 1 ∧ calloutAttempt origin seq s =
    { s with callout := callout, host := { s.host with events := s.withEvents es } } := by
  have hsame : ∃ callout es, es.length ≤ 1 ∧ s =
      { s with callout := callout, host := { s.host with events := s.withEvents es } } :=
    ⟨s.callout, [], by simp, rfl⟩
  unfold calloutAttempt ownAttempt relayAttempt
  split
  · split
    · exact hsame
    · split
      · exact ⟨_, [], by simp, rfl⟩
      · rw [endCallout_eq]
        exact ⟨_, _, by simp, rfl⟩
  · split
    · exact hsame
    · split
      · exact ⟨_, [], by simp, rfl⟩
      · unfold leaveRelay
        split
        · exact ⟨_, [], by simp, rfl⟩
        · exact hsame

/-- What the outcome STALE or DISPLACED leaves, by the kind of the frame (R26, R78, R87). -/
theorem unsent_left (p : Payload) (s : State) (hflight : s.channel.flight = none) : ∃ l : Left, unsent p s = s.left l ∧
    l.unheard = quietCount s.channel.unheardCount ∧ l.events.length ≤ 1 ∧ (∀ y ∈ l.queue, y ∈ s.channel.queue) ∧
    (p.plain = true → l.queue = s.channel.queue ∧ l.claims = s.claims ∧ l.callout = s.callout) ∧
    (∀ n i r, p = .claim n i r 1 → l.claims = { s.claims with
      own := s.claims.own.map fun x => if x.segment = n then { x with frame := .none } else x }) ∧
    ∀ n i r x, p = .claim n i r 0 → s.ownClaim? n = some x → l.ends s n x .stale := by
  by_cases hplain : p.plain = true
  · refine ⟨⟨s.channel.queue, quietCount s.channel.unheardCount, s.claims, s.callout, []⟩, ?_, rfl, by simp, fun _ => id,
      fun _ => ⟨rfl, rfl, rfl⟩, ?_, ?_⟩
    · rw [unsent_plain _ _ hplain]
      simp [State.left, State.withEvents, ← hflight]
    · rintro n i r rfl
      cases hplain
    · rintro n i r x rfl
      cases hplain
  · cases p with
    | claim n i r m =>
      by_cases hm : m = 0
      · subst hm
        cases hown : s.ownClaim? n with
        | none =>
          refine ⟨⟨s.channel.queue, quietCount s.channel.unheardCount, s.claims, s.callout, []⟩, ?_, rfl, by simp,
            fun _ => id, nofun, by simp, ?_⟩
          · rw [unsent, if_pos rfl, endOwn_none (by exact hown)]
            simp [State.left, State.withEvents, noteOutcome_eq, ← hflight]
          · intro n' i' r' x hp hx
            injection hp with hn
            rw [← hn, hown] at hx
            cases hx
        | some x =>
          obtain ⟨l, hl, hunheard, hcallout, hqueue, hends⟩ :=
            endOwn_left (s := noteOutcome s) (change := .stale) (by exact hown) hflight (by decide)
          refine ⟨l, by rw [unsent, if_pos rfl, hl]; rfl, hunheard, by simp [hends.2.2], hqueue, nofun, by simp, ?_⟩
          intro n' i' r' x' hp hx
          injection hp with hn
          rw [← hn, hown] at hx
          rw [← hn, ← Option.some.inj hx]
          exact hends
      · refine ⟨⟨s.channel.queue, quietCount s.channel.unheardCount, { s.claims with
          own := s.claims.own.map fun x => if x.segment = n then { x with frame := .none } else x }, s.callout, []⟩, ?_, rfl,
          by simp, fun _ => id, nofun, ?_, ?_⟩
        · rw [unsent, if_neg hm, updateOwn_eq]
          simp [State.left, State.withEvents, noteOutcome_eq, ← hflight]
        · intro n' i' r' hp
          injection hp with hn
          rw [hn]
        · intro n' i' r' x hp
          injection hp with _ _ _ hm'
          exact absurd hm' hm
    | callout origin seq cd sg ce h d x =>
      obtain ⟨callout, es, hes, heq⟩ := calloutAttempt_left origin seq (noteOutcome s)
      refine ⟨⟨s.channel.queue, quietCount s.channel.unheardCount, s.claims, callout, es⟩, ?_, rfl, hes, fun _ => id, nofun,
        by simp, by simp⟩
      rw [unsent, heq]
      simp [State.left, State.withEvents, noteOutcome_eq, ← hflight]
    | _ => exact absurd rfl hplain

/-! ### A frame that comes back (R24, R26) -/

/-- A frame in flight that returns keeps its place; a NEW claim is QUEUED again, or ends RELEASED with a release pending
(R78, R93). -/
def Left.returns (l : Left) (s : State) (q : Queued) (reported : Bool) : Prop :=
  l.callout = s.callout ∧
  l.unheard = (if reported then quietCount s.channel.unheardCount else s.channel.unheardCount) ∧
  ((∀ n i r x, q.payload = .claim n i r 0 → s.ownClaim? n = some x → x.releasePending = false) →
    l.queue = s.channel.queue ∧ l.events = [] ∧
    (∀ n i r, q.payload = .claim n i r 0 → l.claims = { s.claims with
      own := s.claims.own.map fun x => if x.segment = n then { x with state := .queued } else x }) ∧
    ((∀ n i r, q.payload ≠ .claim n i r 0) → l.claims = s.claims)) ∧
  ∀ n i r x, q.payload = .claim n i r 0 → s.ownClaim? n = some x → x.releasePending = true → l.ends s n x .released

/-- A frame in flight that is past its stale limit goes, and a NEW claim with it (R24, R78, R87). -/
def Left.stale (l : Left) (s : State) (f : Flight) (q : Queued) : Prop :=
  l.unheard = quietCount s.channel.unheardCount ∧
  (∀ y ∈ l.queue, y ∈ s.channel.queue ∧ y.entry ≠ f.entry) ∧
  (q.payload.plain = true → l.queue = s.channel.queue.filter (fun y => !(y.entry == f.entry)) ∧ l.claims = s.claims ∧
    l.callout = s.callout) ∧
  (∀ n i r, q.payload = .claim n i r 1 → l.claims = { s.claims with
    own := s.claims.own.map fun x => if x.segment = n then { x with frame := .none } else x }) ∧
  ∀ n i r x, q.payload = .claim n i r 0 → s.ownClaim? n = some x → l.ends s n x .stale

theorem map_of_not_found {l : List OwnClaim} {n : Nat} (h : l.find? (·.segment == n) = none) (g : OwnClaim → OwnClaim) :
    (l.map fun x => if x.segment = n then g x else x) = l := by
  refine (List.map_congr_left fun x hx => ?_).trans l.map_id
  exact if_neg fun he => List.find?_eq_none.1 h x hx (by simp [he])

/-- The frame that returns, its outcome noted, before what its block does (R26). -/
def State.returned (s : State) (reported : Bool) : State := { s with channel := { s.channel with
  flight := none, unheardCount := if reported then quietCount s.channel.unheardCount else s.channel.unheardCount } }

theorem frameReturns_eq {s : State} {f : Flight} {q : Queued} (hfly : s.Flying f q)
    (hage : q.age < q.payload.staleLimit) (reported : Bool) : frameReturns reported s =
      match q.payload with
      | .claim n _ _ mode => if mode = 0 then claimReturns n (s.returned reported) else s.returned reported
      | _ => s.returned reported := by
  have hnoted : (if reported then noteOutcome (endFlight s) else endFlight s) = s.returned reported := by
    cases reported <;> rfl
  simp only [frameReturns, flightFrame_eq_some hfly, if_neg (Nat.not_le.2 hage), hnoted] <;> rfl

theorem frameReturns_fresh {s : State} {f : Flight} {q : Queued} (hfly : s.Flying f q)
    (hage : q.age < q.payload.staleLimit) (reported : Bool) :
    ∃ l : Left, frameReturns reported s = s.left l ∧ l.events.length ≤ 1 ∧ l.returns s q reported := by
  rw [frameReturns_eq hfly hage]
  by_cases hnew : ∃ n i r, q.payload = .claim n i r 0
  · obtain ⟨n, i, r, hp⟩ := hnew
    have hsegment {n' i' r' : Nat} (h : q.payload = .claim n' i' r' 0) : n' = n := by
      rw [hp] at h
      injection h with h
      exact h.symm
    simp only [hp, if_true]
    cases hown : s.ownClaim? n with
    | none =>
      refine ⟨⟨s.channel.queue, (s.returned reported).channel.unheardCount, s.claims, s.callout, []⟩, ?_, by simp, rfl, rfl,
        fun _ => ⟨rfl, rfl, fun n' i' r' h => ?_, fun h => absurd hp (h n i r)⟩, fun n' i' r' x h hx => ?_⟩
      · rw [claimReturns, show (s.returned reported).ownClaim? n = none from hown]
        rfl
      · rw [hsegment h, map_of_not_found hown]
      · rw [hsegment h, hown] at hx
        cases hx
    | some x =>
      have hfound {n' i' r' : Nat} {x' : OwnClaim} (h : q.payload = .claim n' i' r' 0) (hx : s.ownClaim? n' = some x') :
          x' = x := by
        rw [hsegment h, hown] at hx
        exact (Option.some.inj hx).symm
      by_cases hpending : x.releasePending = true
      · obtain ⟨l, hl, hunheard, hcallout, hqueue, hends⟩ :=
          endOwn_left (s := s.returned reported) (change := .released) (by exact hown) rfl (by decide)
        refine ⟨l, ?_, by simp [hends.2.2], hcallout, hunheard, fun hno => ?_, fun n' i' r' x' h hx _ => ?_⟩
        · rw [claimReturns, show (s.returned reported).ownClaim? n = some x from hown]
          exact (if_pos hpending).trans hl
        · exact absurd hpending (by simp [hno n i r x hp hown])
        · rw [hsegment h, hfound h hx]
          exact hends
      · refine ⟨⟨s.channel.queue, (s.returned reported).channel.unheardCount, { s.claims with
          own := s.claims.own.map fun x => if x.segment = n then { x with state := .queued } else x }, s.callout, []⟩, ?_,
          by simp, rfl, rfl, fun _ => ⟨rfl, rfl, fun n' i' r' h => ?_, fun h => absurd hp (h n i r)⟩,
          fun n' i' r' x' h hx hpend => ?_⟩
        · rw [claimReturns, show (s.returned reported).ownClaim? n = some x from hown]
          refine (if_neg hpending).trans ?_
          rw [updateOwn_eq]
          rfl
        · rw [hsegment h]
        · rw [hfound h hx] at hpend
          exact absurd hpend hpending
  · have hsame : (match q.payload with
        | .claim n _ _ mode => if mode = 0 then claimReturns n (s.returned reported) else s.returned reported
        | _ => s.returned reported) = s.returned reported := by
      split
      · next n i r m hp => exact if_neg fun hm => hnew ⟨n, i, r, by rw [hp, hm]⟩
      · rfl
    rw [hsame]
    exact ⟨⟨s.channel.queue, (s.returned reported).channel.unheardCount, s.claims, s.callout, []⟩, rfl, by simp, rfl, rfl,
      fun _ => ⟨rfl, rfl, fun n i r h => absurd ⟨n, i, r, h⟩ hnew, fun _ => rfl⟩,
      fun n i r _ h => absurd ⟨n, i, r, h⟩ hnew⟩

theorem frameReturns_stale {s : State} {f : Flight} {q : Queued} (hfly : s.Flying f q)
    (hage : q.payload.staleLimit ≤ q.age) (reported : Bool) :
    ∃ l : Left, frameReturns reported s = s.left l ∧ l.events.length ≤ 1 ∧ l.stale s f q := by
  obtain ⟨l, hl, hunheard, hevents, hqueue, hplain, hrefresh, hnew⟩ :=
    unsent_left q.payload { s with channel := { s.channel with
      queue := s.channel.queue.filter (fun x => !(x.entry == f.entry)), flight := none } } rfl
  refine ⟨l, ?_, hevents, hunheard, fun y hy => ?_, hplain, hrefresh, hnew⟩
  · simp only [frameReturns, flightFrame_eq_some hfly, if_pos hage]
    rw [withdraw_grounded _ _ rfl, hfly.entry_eq]
    exact hl
  · obtain ⟨hmem, hne⟩ := List.mem_filter.1 (hqueue y hy)
    exact ⟨hmem, by simpa using hne⟩

/-- The frame in flight comes back, or goes with its age (R24, R26). -/
def Left.stops (l : Left) (s : State) (f : Flight) (q : Queued) (reported : Bool) : Prop :=
  l.events.length ≤ 1 ∧ (q.age < q.payload.staleLimit → l.returns s q reported) ∧
    (q.payload.staleLimit ≤ q.age → l.stale s f q)

theorem frameReturns_left {s : State} {f : Flight} {q : Queued} (hfly : s.Flying f q) (reported : Bool) :
    ∃ l : Left, frameReturns reported s = s.left l ∧ l.stops s f q reported := by
  rcases Nat.lt_or_ge q.age q.payload.staleLimit with hage | hage
  · obtain ⟨l, hl, hevents, hreturns⟩ := frameReturns_fresh hfly hage reported
    exact ⟨l, hl, hevents, fun _ => hreturns, fun h => absurd hage (Nat.not_lt.2 h)⟩
  · obtain ⟨l, hl, hevents, hstale⟩ := frameReturns_stale hfly hage reported
    exact ⟨l, hl, hevents, fun h => absurd hage (Nat.not_le.2 h), fun _ => hstale⟩

/-! ### The commands that stop a frame -/

/-- `t` is what the stopped frame leaves by `l`, but for receiver, motion supervisor, group control and further events. -/
def State.StoppedAs (s : State) (l : Left) (tail : List Event) (t : State) : Prop :=
  t = { s with
    channel := t.channel, claims := l.claims, callout := l.callout, motion := t.motion, group := t.group
    host := { s.host with events := s.withEvents (l.events ++ tail) } } ∧
  t.channel.queue = l.queue ∧ t.channel.unheardCount = l.unheard ∧ t.channel.flight = none ∧
  t.channel.nextEntry = s.channel.nextEntry

theorem left_stoppedAs (s : State) (l : Left) (h : Channel → Channel)
    (hsame : ∀ c, (h c).queue = c.queue ∧ (h c).unheardCount = c.unheardCount ∧ (h c).flight = c.flight ∧
      (h c).nextEntry = c.nextEntry) : s.StoppedAs l [] ((s.left l).onChannel h) := by
  obtain ⟨hqueue, hunheard, hflight, hnext⟩ := hsame (s.left l).channel
  refine ⟨?_, hqueue, hunheard, hflight, hnext⟩
  rw [List.append_nil]
  rfl

/-- What `Channel.discarded` leaves as it was. -/
@[simp] theorem Channel.discarded_frame (c : Channel) :
    c.discarded.queue = c.queue ∧ c.discarded.nextEntry = c.nextEntry ∧ c.discarded.flight = c.flight ∧
    c.discarded.unheardCount = c.unheardCount := by
  unfold Channel.discarded
  split <;> simp

/-- The noise of a frame that this station's assembler discards (R12, R15). -/
theorem Channel.discarded_noise (c : Channel) : c.discarded.noiseCount =
    if c.assembler.inFrame = true ∨ c.assembler = .hunt then min 255 (c.noiseCount + 1) else c.noiseCount := by
  unfold Channel.discarded
  split <;> rfl

/-- The noise that a stop counts (R12; logs 8, 9, 33). -/
def State.stopIsNoise (s : State) (c : Instr) : Prop :=
  ((s.channel.assembler.inFrame = true ∨ s.channel.assembler = .hunt) ∧
    (c = .collided ∨ c = .responseFieldSpoiled .codingViolation ∨ c = .responseFieldSpoiled .dominantRun)) ∨
  (c = .seizeEnds ∧ s.seizeRunIsNoise = true)

/-- The noise count after a stop. -/
def State.StopNoise (s : State) (c : Instr) (k : Channel) : Prop :=
  (s.stopIsNoise c → k.noiseCount = min 255 (s.channel.noiseCount + 1)) ∧
    (¬ s.stopIsNoise c → k.noiseCount = s.channel.noiseCount)

theorem discarded_stopNoise (s : State) (l : Left) {c : Instr}
    (hc : c = .collided ∨ c = .responseFieldSpoiled .codingViolation ∨ c = .responseFieldSpoiled .dominantRun) :
    s.StopNoise c (s.left l).channel.discarded := by
  have hseize : c ≠ .seizeEnds := by rcases hc with rfl | rfl | rfl <;> decide
  rw [State.StopNoise, Channel.discarded_noise]
  constructor
  · rintro (⟨hheld, -⟩ | ⟨h, -⟩)
    · exact if_pos hheld
    · exact absurd h hseize
  · exact fun hquiet => if_neg fun hheld => hquiet (.inl ⟨hheld, hc⟩)

theorem spoiled_stopNoise (s : State) (l : Left) (x : SpoilCause) : s.StopNoise (.responseFieldSpoiled x)
    ((if spoilIsNoise x then Channel.discarded else Channel.frameOver) (s.left l).channel) := by
  cases x with
  | codingViolation => exact discarded_stopNoise s l (.inr (.inl rfl))
  | dominantRun => exact discarded_stopNoise s l (.inr (.inr rfl))
  | seize => exact ⟨by simp [State.stopIsNoise], fun _ => rfl⟩

/-- What a start mark heard changes of the receiver (R10). -/
theorem Channel.marked_receiver (c : Channel) : c.marked = { c with
    condition := c.marked.condition, idleCount := c.marked.idleCount, assembler := c.marked.assembler
    symbol := c.marked.symbol, run := c.marked.run, runCounted := c.marked.runCounted } := by
  unfold Channel.marked
  split <;> rfl

/-- A lost arbitration (R14). -/
theorem exec_arbitrationLost {s : State} {f : Flight} {q : Queued} (hfly : s.Flying f q) (hwon : f.won = false) :
    ∃ l t, exec .arbitrationLost s = .next (endOfStep t) ∧ l.stops s f q false ∧ s.StoppedAs l [] t ∧
      t.motion = s.motion ∧ t.group = s.group ∧ t.channel.noiseCount = s.channel.noiseCount := by
  have hexec : exec .arbitrationLost s = finish (frameReturns false (s.onChannel Channel.marked)) := by
    show execArbitrationLost s = _
    rw [execArbitrationLost, hfly.1]
    exact if_neg (by simp [hwon])
  rw [hexec, onChannel_eq, s.channel.marked_receiver]
  obtain ⟨l, hl, hstops⟩ := frameReturns_left (s := { s with channel := { s.channel with
    condition := s.channel.marked.condition, idleCount := s.channel.marked.idleCount
    assembler := s.channel.marked.assembler, symbol := s.channel.marked.symbol, run := s.channel.marked.run
    runCounted := s.channel.marked.runCounted } }) hfly false
  rw [hl]
  refine ⟨l, _, rfl, hstops, ⟨?_, rfl, rfl, rfl, rfl⟩, rfl, rfl, rfl⟩
  rw [List.append_nil]
  rfl

/-- A frame in flight stopped by any command but a seize (R14, R15, R18, R21). -/
theorem exec_stops {s : State} {c : Instr} {f : Flight} {q : Queued} (hon : s.station.state ≠ .offline)
    (hfly : s.Flying f q) (hc : (c = .arbitrationLost ∧ f.won = false) ∨ c = .collided ∨
      (∃ x, c = .responseFieldSpoiled x) ∨ (c = .seizeEnds ∧ s.channel.seizeLeft ≠ 0)) :
    ∃ l t, exec c s = .next (endOfStep t) ∧ l.stops s f q (decide (c ≠ .arbitrationLost)) ∧
      s.StoppedAs l [] t ∧ t.motion = s.motion ∧ t.group = s.group ∧ s.StopNoise c t.channel := by
  have hsome : s.channel.flight.isSome = true := by rw [hfly.1]; rfl
  obtain ⟨l, hl, hstops⟩ := frameReturns_left hfly true
  rcases hc with ⟨rfl, hwon⟩ | rfl | ⟨x, rfl⟩ | ⟨rfl, hleft⟩
  · obtain ⟨l, t, hexec, hstops, hstopped, hmotion, hgroup, hnoise⟩ := exec_arbitrationLost hfly hwon
    exact ⟨l, t, hexec, hstops, hstopped, hmotion, hgroup, by simp [State.stopIsNoise], fun _ => hnoise⟩
  · have hexec : exec .collided s = finish ((s.left l).onChannel Channel.discarded) :=
      (if_pos hsome).trans (by rw [hl])
    exact ⟨l, _, hexec, hstops, left_stoppedAs s l Channel.discarded (by simp), rfl, rfl, discarded_stopNoise s l (.inl rfl)⟩
  · have hexec : exec (.responseFieldSpoiled x) s = finish ((s.left l).onChannel
        (if spoilIsNoise x then Channel.discarded else Channel.frameOver)) := by
      show execResponseFieldSpoiled x s = _
      rw [execResponseFieldSpoiled, receiverOn_eq_true hon, if_neg (by simp), if_pos hsome, hl]
    refine ⟨l, _, hexec, hstops, left_stoppedAs s l _ ?_, rfl, rfl, spoiled_stopNoise s l x⟩
    split <;> simp
  · have hexec : exec .seizeEnds s = finish ((s.left l).onChannel Channel.seizeOver) :=
      (if_pos hleft).trans (by rw [hl])
    refine ⟨l, _, hexec, hstops, left_stoppedAs s l Channel.seizeOver (by simp), rfl, rfl, ?_⟩
    have hnoise := Channel.seizeOver_noise (s.left l)
    rw [show (s.left l).seizeRunIsNoise = s.seizeRunIsNoise from rfl] at hnoise
    constructor
    · rintro (⟨-, h⟩ | ⟨-, h⟩)
      · simp at h
      · exact hnoise.trans (if_pos h)
    · exact fun h => hnoise.trans (if_neg fun hn => h (.inr ⟨rfl, hn⟩))

/-- A frame in flight stopped by a seize (R5, R18). -/
theorem exec_seize_stops {s : State} {f : Flight} {q : Queued} (hon : s.station.state ≠ .offline) (hfly : s.Flying f q) :
    ∃ l tail t, exec .seize s = .next (endOfStep t) ∧ l.stops s f q true ∧ s.StoppedAs l tail t ∧
      t.channel.noiseCount = s.channel.noiseCount ∧ tail.length ≤ 2 ∧
      (s.motion.state ≠ .run →
        t.motion = { s.motion with seizePeriod := if s.isRobot then some 0 else s.motion.seizePeriod } ∧
        t.group = s.group ∧ tail = [.channel .seize (s.channel.seizeLeft != 0)]) := by
  obtain ⟨l, hl, hstops⟩ := frameReturns_left hfly true
  have hexec : exec .seize s = if s.isRobot then
      finish (evalCaution { s.left l with
        channel := { (s.left l).channel.frameOver with run := max 24 s.channel.run }
        motion := { s.motion with seizePeriod := some 0 }
        host := { s.host with events := s.withEvents (l.events ++ [.channel .seize (s.channel.seizeLeft != 0)]) } })
      else finish { s.left l with
        channel := { (s.left l).channel.frameOver with run := max 24 s.channel.run }
        host := { s.host with events := s.withEvents (l.events ++ [.channel .seize (s.channel.seizeLeft != 0)]) } } := by
    rw [exec_seize, execSeize, receiverOn_eq_true hon, if_neg (by simp), hl]
    simp only [post_events]
    rw [← withEvents_append]
    rfl
  rw [hexec]
  by_cases hrobot : s.isRobot = true
  · by_cases hrun : s.motion.state = .run
    · rw [if_pos hrobot, evalCaution_enters _ (by exact hrun) (cautionCause_of_seize rfl), move,
        moveTo_eq _ _ _ (by simp [hrun]) (by decide)]
      refine ⟨l, [.channel .seize (s.channel.seizeLeft != 0)] ++ [.motion s.motion.state .caution .cautionOn
        (clampCeiling .caution s.station.config.crawl s.motion.ceiling) s.currentSegment FaultSet.empty], _, rfl, hstops,
        ⟨?_, rfl, rfl, rfl, rfl⟩, rfl, by simp, fun h => absurd hrun h⟩
      rw [← List.append_assoc, ← withEvents_append s (l.events ++ [_])]
      rfl
    · rw [if_pos hrobot, evalCaution_stays _ (by exact hrun) (cautionCause_of_seize rfl)]
      exact ⟨l, _, _, rfl, hstops, ⟨rfl, rfl, rfl, rfl, rfl⟩, rfl, by simp, fun _ => ⟨by rw [if_pos hrobot], rfl, rfl⟩⟩
  · rw [if_neg hrobot]
    exact ⟨l, _, _, rfl, hstops, ⟨rfl, rfl, rfl, rfl, rfl⟩, rfl, by simp, fun _ => ⟨by rw [if_neg hrobot]; rfl, rfl, rfl⟩⟩

/-- The consequences of a stop, in the terms of O32. -/
theorem stopped_outcome {s t : State} {l : Left} {f : Flight} {q : Queued} {tail : List Event} {reported : Bool}
    (hstops : l.stops s f q reported) (ht : s.StoppedAs l tail t) (htail : tail.length ≤ 2) :
    (q.age < q.payload.staleLimit →
      t.callout = s.callout ∧
      t.channel.unheardCount = (if reported then quietCount s.channel.unheardCount else s.channel.unheardCount) ∧
      ((∀ n i r x, q.payload = .claim n i r 0 → s.claims.own.find? (·.segment == n) = some x →
          x.releasePending = false) →
        t.channel.queue = s.channel.queue ∧
        (∀ n i r, q.payload = .claim n i r 0 → t.claims = { s.claims with
          own := s.claims.own.map fun x => if x.segment = n then { x with state := .queued } else x }) ∧
        ((∀ n i r, q.payload ≠ .claim n i r 0) → t.claims = s.claims) ∧
        t.host = { s.host with events := s.withEvents tail }) ∧
      ∀ n i r x, q.payload = .claim n i r 0 → s.claims.own.find? (·.segment == n) = some x →
        x.releasePending = true → s.EndsUnsent n x .released t) ∧
    (q.payload.staleLimit ≤ q.age →
      t.channel.unheardCount = quietCount s.channel.unheardCount ∧
      (∀ y ∈ t.channel.queue, y ∈ s.channel.queue ∧ y.entry ≠ f.entry) ∧
      (q.payload.plain = true →
        t.channel.queue = s.channel.queue.filter (fun y => !(y.entry == f.entry)) ∧ t.claims = s.claims ∧
        t.callout = s.callout) ∧
      (∀ n i r, q.payload = .claim n i r 1 → t.claims = { s.claims with
        own := s.claims.own.map fun x => if x.segment = n then { x with frame := .none } else x }) ∧
      ∀ n i r x, q.payload = .claim n i r 0 → s.claims.own.find? (·.segment == n) = some x →
        s.EndsUnsent n x .stale t) := by
  obtain ⟨hevents, hreturns, hstale⟩ := hstops
  obtain ⟨heq, hqueue, hunheard, -, -⟩ := ht
  have hclaims : t.claims = l.claims := by rw [heq]
  have hcallout : t.callout = l.callout := by rw [heq]
  have hhost : t.host = { s.host with events := s.withEvents (l.events ++ tail) } := by rw [heq]
  have hends (n : Nat) (x : OwnClaim) (change : ClaimChange) (h : l.ends s n x change) : s.EndsUnsent n x change t := by
    obtain ⟨hown, hnone, hevent⟩ := h
    refine ⟨hclaims.trans hown, by rwa [hqueue], ?_⟩
    rw [hhost, ← occupied_eq]
    exact mem_withEvents s (by simp; omega) (by simp [hevent])
  constructor
  · intro hage
    obtain ⟨hsame, hcount, hback, hreleased⟩ := hreturns hage
    refine ⟨hcallout.trans hsame, hunheard.trans hcount, fun hno => ?_, fun n i r x hp hx hpend =>
      hends n x _ (hreleased n i r x hp hx hpend)⟩
    obtain ⟨hplace, hnoevent, hnew, hother⟩ := hback hno
    refine ⟨hqueue.trans hplace, fun n i r hp => hclaims.trans (hnew n i r hp), fun hp => hclaims.trans (hother hp), ?_⟩
    rw [hhost, hnoevent, List.nil_append]
  · intro hage
    obtain ⟨hcount, hgone, hplain, hrefresh, hnew⟩ := hstale hage
    refine ⟨hunheard.trans hcount, by rwa [hqueue], fun hp => ?_, fun n i r hp => hclaims.trans (hrefresh n i r hp),
      fun n i r x hp hx => hends n x _ (hnew n i r x hp hx)⟩
    obtain ⟨h1, h2, h3⟩ := hplain hp
    exact ⟨hqueue.trans h1, hclaims.trans h2, hcallout.trans h3⟩

theorem State.StoppedAs.frame {s t : State} {l : Left} {tail : List Event} (h : s.StoppedAs l tail t) :
    t.channel.flight = none ∧ t.channel.nextEntry = s.channel.nextEntry ∧ t.station = s.station ∧ t.segs = s.segs ∧
      t.odo = s.odo ∧ t.dosing = s.dosing := by
  obtain ⟨heq, -, -, hflight, hnext⟩ := h
  refine ⟨hflight, hnext, ?_, ?_, ?_, ?_⟩ <;> rw [heq]

/-- Settles O32. -/
theorem stoppedFrameKeepsItsPlace : Obligations.StoppedFrameKeepsItsPlace := by
  unfold Obligations.StoppedFrameKeepsItsPlace
  intro s hon
  refine ⟨fun hflight x => ?_, fun c f q hfly hc => ?_⟩
  · have hexec : exec (.responseFieldSpoiled x) s =
        .next (s.onChannel fun c => if spoilIsNoise x then c.frameOver.addNoise else c.frameOver) := by
      show execResponseFieldSpoiled x s = _
      rw [execResponseFieldSpoiled, receiverOn_eq_true hon, if_neg (by simp), if_neg (by simp [hflight])]
    constructor
    · intro hx
      rw [hexec]
      refine Eq.trans ?_ (execNoise_on s hon).symm
      cases x with
      | seize => exact absurd rfl hx
      | _ => rfl
    · rintro rfl
      exact hexec
  · by_cases hseize : c = .seize
    · subst hseize
      obtain ⟨l, tail, t, hexec, hstops, hstopped, hnoise, hlen, hmotion⟩ := exec_seize_stops hon hfly
      obtain ⟨hflight, hnext, hstation, hsegs, hodo, hdosing⟩ := hstopped.frame
      obtain ⟨hfresh, hold⟩ := stopped_outcome hstops hstopped hlen
      refine ⟨t, hexec, hflight, hnext, hstation, hsegs, hodo, hdosing, by simp [hnoise], fun h => absurd rfl h,
        fun _ hrun => ⟨(hmotion hrun).1, (hmotion hrun).2.1⟩, fun hage => ?_, hold⟩
      obtain ⟨hcallout, hcount, hback, hends⟩ := hfresh hage
      refine ⟨hcallout, hcount.trans (by simp), fun hno => ?_, hends⟩
      obtain ⟨hqueue, hnew, hother, hhost⟩ := hback hno
      exact ⟨hqueue, hnew, hother, fun h => absurd rfl h, fun _ hrun => by rw [hhost, (hmotion hrun).2.2]⟩
    · have hkind : (c = .arbitrationLost ∧ f.won = false) ∨ c = .collided ∨ (∃ x, c = .responseFieldSpoiled x) ∨
          (c = .seizeEnds ∧ s.channel.seizeLeft ≠ 0) := by tauto
      obtain ⟨l, t, hexec, hstops, hstopped, hmotion, hgroup, hnoise, hquiet⟩ := exec_stops hon hfly hkind
      obtain ⟨hflight, hnext, hstation, hsegs, hodo, hdosing⟩ := hstopped.frame
      obtain ⟨hfresh, hold⟩ := stopped_outcome hstops hstopped (by simp)
      refine ⟨t, hexec, hflight, hnext, hstation, hsegs, hodo, hdosing, ?_, fun _ => ⟨hmotion, hgroup⟩,
        fun h => absurd h hseize, fun hage => ?_, hold⟩
      · split
        · next h => exact hnoise h
        · next h => exact hquiet h
      · obtain ⟨hcallout, hcount, hback, hends⟩ := hfresh hage
        refine ⟨hcallout, hcount.trans (by by_cases h : c = .arbitrationLost <;> simp [h]), fun hno => ?_, hends⟩
        obtain ⟨hqueue, hnew, hother, hhost⟩ := hback hno
        exact ⟨hqueue, hnew, hother, fun _ => hhost, fun h => absurd h hseize⟩

end Sys2Proof.Machine

/-! ## Frames sent or unheard (O33) -/

namespace Sys2Proof.Machine

/-! ### SENT -/

/-- The end of a frame of a plain kind (R17). -/
theorem frameSent_plain {s : State} {f : Flight} {q : Queued} (hfly : s.Flying f q) (hq : s.QueueInOrder)
    (hplain : q.payload.plain = true) (v : Nat) : frameSent v s = { s with channel := s.channel.sentOver f } := by
  simp only [frameSent, flightFrame_eq_some hfly, wonNotice_plain _ _ hplain, frame_leaves hfly hq]
  split
  · next hp => simp [hp, Payload.plain] at hplain
  · next hp => simp [hp, Payload.plain] at hplain
  · rfl

theorem hasResponse_of_plain {p : Payload} (h : p.plain = true) : p.hasResponse = false := by
  unfold Payload.hasResponse Payload.plain at *
  split at h <;> simp_all

/-- SENT_RESPONDED at a frame without a response field changes nothing (log 5). -/
theorem exec_sentResponded_plain {s : State} {f : Flight} {q : Queued} (hfly : s.Flying f q)
    (hplain : q.payload.plain = true) (v : Nat) : exec (.sentResponded v) s = .next s := by
  show execSentResponded v s = _
  rw [execSentResponded, flightFrame_eq_some hfly]
  exact if_neg (by simp [hasResponse_of_plain hplain])

/-! ### TX_UNHEARD -/

/-- The frame in flight is withdrawn: nothing is in flight, and its echo goes on where it was keyed whole (R11, R25). -/
theorem withdraw_flight {s : State} {f : Flight} {q : Queued} (hfly : s.Flying f q) :
    withdraw (·.entry == q.entry) s = { s with channel := { s.channel with
      queue := s.channel.queue.filter (fun x => !(x.entry == f.entry)), flight := none
      echo := s.channel.echo || s.channel.assembler.inField } } := by
  have hgone : (s.channel.queue.filter fun x => !(x.entry == f.entry)).any (·.entry == f.entry) = false := by
    simp
  simp [withdraw, State.onChannel, Channel.flightIn, hfly.1, hfly.entry_eq, hgone, Option.filter]

/-- The receiver after a frame of this station went unheard, by the place of the symbol (R4, R16; log 9). -/
def Channel.cutAt (n : Nat) (c : Channel) : Channel :=
  { (if c.assembler ≠ .hunt then
      { c with echo := c.echo || c.assembler == .gap || c.assembler == .response }
    else if n = 0 then
      { c with condition := .idle, idleCount := 16, assembler := .hunt, run := 0, runCounted := false }
    else if n = 1 then { c.broken with assembler := .waitIdle }
    else if n < 4 then (if c.runCounted then c.frameOver else c.frameOver.addNoise)
    else { c.broken with assembler := .header, symbol := 5 }) with cuts := c.cuts + 1 }

/-- A run of two or three symbols is noise, unless it is counted already (R4, R12). -/
theorem Channel.ran_spoils {n : Nat} (c : Channel) (h0 : n ≠ 0) (h1 : n ≠ 1) (h4 : n < 4) :
    c.ran n = if c.runCounted then c.frameOver else c.frameOver.addNoise := by
  have hlong : n < Config.seizeRun := by
    simp only [Config.seizeRun]
    omega
  rw [Channel.ran, if_neg h0, if_neg h1, if_neg fun h => absurd h.1 (by simp only [Config.markDominants]; omega)]
  cases hcounted : c.runCounted <;> simp [hlong]

/-- The channel once the unheard frame has left the queue. -/
theorem unheard_removed {s : State} {f : Flight} {q : Queued} {n : Nat} (hfly : s.Flying f q)
    (hn : n = max s.channel.symbol (Config.keyedUntil s.channel.cuts)) :
    (withdraw (·.entry == q.entry) s).onChannel (fun c =>
      { c.unheard with flight := none, unheardCount := min 3 (c.unheardCount + 1) }) = { s with
        channel := { s.channel.cutAt n with
          queue := s.channel.queue.filter (fun x => !(x.entry == f.entry)), flight := none
          unheardCount := min 3 (s.channel.unheardCount + 1) } } := by
  rw [withdraw_flight hfly, onChannel_eq]
  by_cases hhunt : s.channel.assembler = .hunt
  · have hecho : (s.channel.echo || s.channel.assembler.inField) = s.channel.echo := by simp [hhunt, Assembler.inField]
    rw [hecho]
    simp only [Channel.unheard, Channel.cutAt, hhunt, ← hn, ne_eq, not_true, if_true, if_false, Channel.markEnds,
      Config.markDominants]
    by_cases h0 : n = 0
    · simp only [if_pos h0]
      rfl
    · by_cases h1 : n = 1
      · subst h1
        simp only [Channel.ran_one]
        rfl
      · by_cases h4 : n < 4
        · simp only [if_neg h0, if_neg h1, if_pos h4]
          rw [Channel.ran_spoils _ h0 h1 h4]
          by_cases hcounted : s.channel.runCounted = true
          · simp only [if_pos hcounted]
            rfl
          · simp only [if_neg hcounted]
            rfl
        · simp only [if_neg h0, if_neg h1, if_neg h4, Channel.marked]
          rfl
  · have hecho : (s.channel.echo || s.channel.assembler.inField) =
        (s.channel.echo || s.channel.assembler == .gap || s.channel.assembler == .response) := by
      rw [Bool.or_assoc]
      cases s.channel.assembler <;> rfl
    simp only [Channel.unheard, Channel.cutAt, hhunt, ne_eq, not_false_eq_true, if_true, if_false, hecho]

/-! ### SILENT (R30, R95, R174, R180) -/

/-- What an operation at the entry into SILENT may change: the queue, claims, which only go, callouts and events. -/
structure Hushed (s : State) (es : List Event) (t : State) : Prop where
  station : t.station = s.station
  channel : t.channel = { s.channel with queue := t.channel.queue }
  events : t.host.events = s.withEvents es
  claims : ∀ x ∈ t.claims.own, ∃ y ∈ s.claims.own, y.segment = x.segment ∧ y.state = x.state

theorem withEvents_of_events {s t : State} {es : List Event} (hstation : t.station = s.station)
    (hevents : t.host.events = s.withEvents es) (es' : List Event) : t.withEvents es' = s.withEvents (es ++ es') := by
  simp [State.withEvents, hstation, hevents]

theorem Hushed.refl (s : State) : Hushed s [] s := ⟨rfl, rfl, rfl, fun x hx => ⟨x, hx, rfl, rfl⟩⟩

theorem Hushed.trans {s t u : State} {es es' : List Event} (h : Hushed s es t) (k : Hushed t es' u) :
    Hushed s (es ++ es') u := by
  refine ⟨k.station.trans h.station, ?_, ?_, fun x hx => ?_⟩
  · rw [k.channel, h.channel]
  · rw [k.events, withEvents_of_events h.station h.events]
  · obtain ⟨y, hy, h1, h2⟩ := k.claims x hx
    obtain ⟨z, hz, h3, h4⟩ := h.claims y hy
    exact ⟨z, hz, h3.trans h1, h4.trans h2⟩

theorem Hushed.flight {s t : State} {es : List Event} (h : Hushed s es t) (hflight : s.channel.flight = none) :
    t.channel.flight = none := by
  rw [h.channel]
  exact hflight

theorem withdraw_hushed (p : Queued → Bool) (s : State) (hflight : s.channel.flight = none) :
    Hushed s [] (withdraw p s) := by
  rw [withdraw_grounded p s hflight]
  exact ⟨rfl, rfl, rfl, fun x hx => ⟨x, hx, rfl, rfl⟩⟩

theorem endOwn_hushed {n : Nat} (change : ClaimChange) (hchange : change ≠ .denied) {s : State}
    (hflight : s.channel.flight = none) : ∃ es, es.length ≤ 1 ∧ Hushed s es (endOwn n change none s) ∧
      ∀ x ∈ (endOwn n change none s).claims.own, x.segment ≠ n := by
  cases hown : s.ownClaim? n with
  | none =>
    rw [endOwn_none hown]
    exact ⟨[], by simp, .refl s, fun x hx he => List.find?_eq_none.1 hown x hx (by simp [he])⟩
  | some r =>
    obtain ⟨l, hl, hunheard, -, -, hclaims, -, hevents⟩ := endOwn_left hown hflight hchange
    rw [hl]
    refine ⟨l.events, by simp [hevents], ⟨rfl, ?_, rfl, fun x hx => ?_⟩, fun x hx => ?_⟩
    · simp only [State.left, hunheard, ← hflight]
    all_goals
      have hkept : x ∈ s.claims.own.filter fun x => !(x.segment == n) := by
        rw [show (s.left l).claims = _ from hclaims] at hx
        exact hx
      obtain ⟨hmem, hne⟩ := List.mem_filter.1 hkept
    · exact ⟨x, hmem, rfl, rfl⟩
    · simpa using hne

theorem updateOwn_hushed (n : Nat) (g : OwnClaim → OwnClaim) (hg : ∀ x, (g x).segment = x.segment ∧ (g x).state = x.state)
    (s : State) : Hushed s [] (updateOwn n g s) := by
  rw [updateOwn_eq]
  refine ⟨rfl, rfl, rfl, fun x hx => ?_⟩
  obtain ⟨y, hy, rfl⟩ := List.mem_map.1 hx
  refine ⟨y, hy, ?_⟩
  split
  · exact ⟨(hg y).1.symm, (hg y).2.symm⟩
  · exact ⟨rfl, rfl⟩

theorem silenceClaim_hushed (s : State) (r : OwnClaim) (hflight : s.channel.flight = none) :
    ∃ es, es.length ≤ 1 ∧ Hushed s es (silenceClaim s r) ∧
      (r.state = .queued → ∀ x ∈ (silenceClaim s r).claims.own, x.segment ≠ r.segment) := by
  unfold silenceClaim
  split
  · obtain ⟨es, hes, hhushed, hgone⟩ := endOwn_hushed (n := r.segment) .stale (by decide) hflight
    exact ⟨es, hes, hhushed, fun _ => hgone⟩
  · next hstate =>
    refine ⟨[], by simp, ?_, fun h => absurd h hstate⟩
    split
    · exact (withdraw_hushed _ s hflight).trans (updateOwn_hushed _ _ (by exact fun _ => ⟨rfl, rfl⟩) _)
    · exact .refl s

theorem foldl_silenceClaim_hushed (l : List OwnClaim) (s : State) (hflight : s.channel.flight = none) :
    ∃ es, es.length ≤ l.length ∧ Hushed s es (l.foldl silenceClaim s) ∧
      ∀ r ∈ l, r.state = .queued → ∀ x ∈ (l.foldl silenceClaim s).claims.own, x.segment ≠ r.segment := by
  induction l generalizing s with
  | nil => exact ⟨[], by simp, .refl s, by simp⟩
  | cons r l ih =>
    obtain ⟨es, hes, hhushed, hgone⟩ := silenceClaim_hushed s r hflight
    obtain ⟨es', hes', hhushed', hgone'⟩ := ih (silenceClaim s r) (hhushed.flight hflight)
    refine ⟨es ++ es', by simp; omega, hhushed.trans hhushed', fun r' hr' hqueued x hx => ?_⟩
    rcases List.mem_cons.1 hr' with rfl | hmem
    · obtain ⟨y, hy, hsegment, -⟩ := hhushed'.claims x hx
      rw [← hsegment]
      exact hgone hqueued y hy
    · exact hgone' r' hmem hqueued x hx

/-- The event of an own callout that SILENT ends (R174). -/
def OwnCallout.unrouted (c : OwnCallout) : Event :=
  .callout c.code (some c.seq) c.segment c.cell c.detail .unrouted c.attempts none

theorem endCallout_hushed (c : OwnCallout) (s : State) : Hushed s [c.unrouted] (endCallout c .unrouted none s) := by
  rw [endCallout_eq]
  exact ⟨rfl, rfl, rfl, fun x hx => ⟨x, hx, rfl, rfl⟩⟩

theorem silenceCallout_hushed (s : State) (c : OwnCallout) (hflight : s.channel.flight = none) :
    Hushed s [c.unrouted] (silenceCallout s c) :=
  (withdraw_hushed _ s hflight).trans (endCallout_hushed c _)

theorem silenceCallout_callout (s : State) (c : OwnCallout) : (silenceCallout s c).callout =
    { s.callout with own := s.callout.own.filter fun x => !(x.seq == c.seq) } := by
  rw [silenceCallout, endCallout_eq]
  simp

theorem foldl_silenceCallout_hushed (l : List OwnCallout) (s : State) (hflight : s.channel.flight = none) :
    Hushed s (l.map OwnCallout.unrouted) (l.foldl silenceCallout s) ∧
      ∀ x ∈ (l.foldl silenceCallout s).callout.own, x ∈ s.callout.own ∧ x ∉ l := by
  induction l generalizing s with
  | nil => exact ⟨.refl s, fun x hx => ⟨hx, by simp⟩⟩
  | cons c l ih =>
    have hhushed := silenceCallout_hushed s c hflight
    obtain ⟨hhushed', hgone⟩ := ih (silenceCallout s c) (hhushed.flight hflight)
    refine ⟨hhushed.trans hhushed', fun x hx => ?_⟩
    obtain ⟨hmem, hout⟩ := hgone x hx
    rw [silenceCallout_callout] at hmem
    obtain ⟨hown, hne⟩ := List.mem_filter.1 hmem
    refine ⟨hown, ?_⟩
    rw [List.mem_cons, not_or]
    exact ⟨by rintro rfl; simp at hne, hout⟩

theorem leaveRelay_hushed (origin seq : Nat) (s : State) : Hushed s [] (leaveRelay origin seq s) :=
  ⟨by simp, by simp, by simp [State.withEvents], fun x hx => ⟨x, by simpa using hx, rfl, rfl⟩⟩

theorem leaveRelay_callout (origin seq : Nat) (s : State) : (leaveRelay origin seq s).callout.own = s.callout.own ∧
    (leaveRelay origin seq s).callout.relay = s.callout.relay.filter fun x => !x.isPair origin seq := by
  unfold leaveRelay
  split
  · exact ⟨rfl, rfl⟩
  · next h =>
    refine ⟨rfl, (List.filter_eq_self.2 fun x hx => ?_).symm⟩
    simp only [Bool.not_eq_true, List.any_eq_false] at h
    simp [h x hx]

theorem foldl_silenceRelay_hushed (l : List RelayEntry) (s : State) (hflight : s.channel.flight = none) :
    Hushed s [] (l.foldl silenceRelay s) ∧ (l.foldl silenceRelay s).callout.own = s.callout.own ∧
      ∀ x ∈ (l.foldl silenceRelay s).callout.relay, x ∈ s.callout.relay ∧ x ∉ l := by
  induction l generalizing s with
  | nil => exact ⟨.refl s, rfl, fun x hx => ⟨hx, by simp⟩⟩
  | cons e l ih =>
    have hhushed : Hushed s [] (silenceRelay s e) :=
      (withdraw_hushed _ s hflight).trans (leaveRelay_hushed e.origin e.seq _)
    obtain ⟨howns, hrelays⟩ := leaveRelay_callout e.origin e.seq (withdraw (isCalloutFor e.origin e.seq) s)
    have hown : (silenceRelay s e).callout.own = s.callout.own := howns.trans (by simp)
    have hrelay : (silenceRelay s e).callout.relay = s.callout.relay.filter fun x => !x.isPair e.origin e.seq :=
      hrelays.trans (by simp)
    obtain ⟨hhushed', hown', hgone⟩ := ih (silenceRelay s e) (hhushed.flight hflight)
    refine ⟨hhushed.trans hhushed', hown'.trans hown, fun x hx => ?_⟩
    obtain ⟨hmem, hout⟩ := hgone x hx
    rw [hrelay] at hmem
    obtain ⟨hin, hne⟩ := List.mem_filter.1 hmem
    refine ⟨hin, ?_⟩
    rw [List.mem_cons, not_or]
    exact ⟨by rintro rfl; simp [RelayEntry.isPair] at hne, hout⟩

/-- A station that has just become SILENT, before what its records do (R30). -/
def State.silent (s : State) : State := { s with
  station := { s.station with state := .silent, presenceMs := 0 }, channel := s.channel.silenced
  host := { s.host with events := s.withEvents [.stationState .unheard s.station.state .silent] } }

/-- The entry into SILENT: what goes, and what it posts (R30, R95, R174, R180). -/
theorem goSilent_hushed (s : State) (hflight : s.channel.flight = none) : ∃ es, es.length ≤ s.claims.own.length ∧
    Hushed s.silent (es ++ s.callout.own.map OwnCallout.unrouted) (goSilent s) ∧
    (∀ r ∈ (goSilent s).claims.own, r.state ≠ .queued) ∧
    (goSilent s).callout.own = [] ∧ (goSilent s).callout.relay = [] := by
  have hsilent : goSilent s = (let s2 := s.claims.own.foldl silenceClaim s.silent
      let s3 := s2.callout.own.foldl silenceCallout s2
      s3.callout.relay.foldl silenceRelay s3) := by
    simp only [goSilent, post_events]
    rfl
  have hground : s.silent.channel.flight = none := by simp [State.silent, hflight]
  obtain ⟨es, hes, hclaims, hnone⟩ := foldl_silenceClaim_hushed s.claims.own s.silent hground
  have hown : (s.claims.own.foldl silenceClaim s.silent).callout = s.callout := by
    simp [State.silent]
  obtain ⟨hcallouts, hgone⟩ := foldl_silenceCallout_hushed s.callout.own _ (hclaims.flight hground)
  obtain ⟨hrelays, hsame, hleft⟩ := foldl_silenceRelay_hushed
    (s.callout.own.foldl silenceCallout (s.claims.own.foldl silenceClaim s.silent)).callout.relay _
    (hcallouts.flight (hclaims.flight hground))
  have hall := (hclaims.trans hcallouts).trans hrelays
  rw [hsilent]
  simp only [hown]
  refine ⟨es, hes, by simpa using hall, fun r hr hqueued => ?_, ?_, ?_⟩
  · obtain ⟨y, hy, hsegment, hstate⟩ := (hcallouts.trans hrelays).claims r hr
    obtain ⟨z, hz, hsegment', hstate'⟩ := hclaims.claims y hy
    exact hnone z hz (by rw [hstate', hstate, hqueued]) y hy hsegment'.symm
  · refine List.eq_nil_iff_forall_not_mem.2 fun x hx => ?_
    rw [hsame] at hx
    obtain ⟨hmem, hout⟩ := hgone x hx
    rw [hown] at hmem
    exact hout hmem
  · exact List.eq_nil_iff_forall_not_mem.2 fun x hx => (hleft x hx).2 (hleft x hx).1

/-- SILENT leaves a HOLDING claim whose REFRESH frame has gone as it is (R95). -/
theorem foldl_silenceClaim_spares (l : List OwnClaim) (s : State) (x : OwnClaim) (hx : x ∈ s.claims.own)
    (hframe : x.frame = .none) (hheld : ∀ r ∈ l, r.segment = x.segment → r.state = .holding) :
    x ∈ (l.foldl silenceClaim s).claims.own := by
  induction l generalizing s with
  | nil => exact hx
  | cons r l ih =>
    refine ih (silenceClaim s r) ?_ fun r' hr' => hheld r' (List.mem_cons_of_mem _ hr')
    unfold silenceClaim
    split
    · next hqueued =>
      have hne : x.segment ≠ r.segment := fun he => by simp [hheld r (by simp) he.symm] at hqueued
      cases hown : s.ownClaim? r.segment with
      | none => rwa [endOwn_none hown]
      | some y =>
        rw [endOwn_eq hown]
        exact List.mem_filter.2 ⟨hx, by simpa using hne⟩
    · split
      · rw [updateOwn_eq]
        refine List.mem_map.2 ⟨x, by simpa using hx, ?_⟩
        split
        · rw [← hframe]
        · rfl
      · exact hx

theorem goSilent_spares {s : State} {x : OwnClaim} (hx : x ∈ s.claims.own) (hframe : x.frame = .none)
    (hheld : ∀ r ∈ s.claims.own, r.segment = x.segment → r.state = .holding) : x ∈ (goSilent s).claims.own := by
  have hclaims : (goSilent s).claims = (s.claims.own.foldl silenceClaim s.silent).claims := by
    simp only [goSilent, post_events, foldl_silenceRelay_frame, foldl_silenceCallout_frame]
    rfl
  rw [hclaims]
  exact foldl_silenceClaim_spares s.claims.own s.silent x hx hframe hheld

/-! ### TX_UNHEARD at the block (R79, R87, R172, R179) -/

/-- The state from which the unheard frame has gone (R16). -/
def State.unheardAt (s : State) (f : Flight) : State := { s with
  channel := { s.channel.cutAt (max s.channel.symbol (Config.keyedUntil s.channel.cuts)) with
    queue := s.channel.queue.filter (fun x => !(x.entry == f.entry)), flight := none
    unheardCount := min 3 (s.channel.unheardCount + 1) } }

theorem exec_txUnheard {s : State} {f : Flight} {q : Queued} (hfly : s.Flying f q) : exec .txUnheard s =
    if 3 ≤ s.channel.unheardCount + 1 then
      (if s.station.leavePending then finish (enterOffline (unheard true q.payload (s.unheardAt f)))
      else if s.station.state = .active then finish (goSilent (unheard true q.payload (s.unheardAt f)))
      else finish (unheard true q.payload (s.unheardAt f)))
    else finish (unheard false q.payload (s.unheardAt f)) := by
  show execTxUnheard s = _
  simp only [execTxUnheard, flightFrame_eq_some hfly, unheard_removed hfly rfl]
  by_cases hthird : 3 ≤ s.channel.unheardCount + 1
  · simp only [hthird, decide_true, if_true, unheard_frame]
    rfl
  · simp only [hthird, decide_false, if_false]
    rfl

@[simp] theorem Channel.cutAt_nextEntry (n : Nat) (c : Channel) : (c.cutAt n).nextEntry = c.nextEntry := by
  unfold Channel.cutAt
  (repeat' split) <;> rfl

theorem unheard_plain {third : Bool} {p : Payload} (s : State) (hplain : p.plain = true) : unheard third p s = s := by
  unfold unheard
  split
  · cases hplain
  · cases hplain
  · rfl

/-- The unheard frame is queued anew (R79, R87, R172, R179). -/
theorem requeues {s : State} {f : Flight} {c : Channel} (own : List OwnClaim) (b : Block) (p : Payload)
    (hc : c = s.channel.cutAt (max s.channel.symbol (Config.keyedUntil s.channel.cuts)))
    (hfew : s.channel.unheardCount < 2)
    (hroom : ({ s.unheardAt f with claims := { s.claims with own := own } } : State).hasRoom) :
    s.Requeues b p f.entry c (queueFrame b p { s.unheardAt f with claims := { s.claims with own := own } }) ∧
      (queueFrame b p { s.unheardAt f with claims := { s.claims with own := own } }).claims =
        { s.claims with own := own } := by
  have hcount : min 3 (s.channel.unheardCount + 1) = s.channel.unheardCount + 1 := by omega
  have hnext : (s.unheardAt f).channel.nextEntry = s.channel.nextEntry := Channel.cutAt_nextEntry _ _
  obtain ⟨hjoins, -⟩ := queueFrame_queues b p _ hroom
  rw [show ({ s.unheardAt f with claims := { s.claims with own := own } } : State).channel = (s.unheardAt f).channel from rfl,
    hnext] at hjoins
  refine ⟨⟨hjoins, ?_⟩, by rw [queueFrame_room b p _ hroom]⟩
  rw [queueFrame_room b p _ hroom, hc]
  simp only [State.unheardAt, hcount, Channel.cutAt_nextEntry]

theorem unheardAt_hasRoom {s : State} {f : Flight} {q : Queued} (hfly : s.Flying f q)
    (hon : s.station.state ≠ .offline) (hlen : s.channel.queue.length ≤ 8) (own : List OwnClaim) :
    ({ s.unheardAt f with claims := { s.claims with own := own } } : State).hasRoom := by
  refine ⟨hon, ?_⟩
  have hlt : (s.channel.queue.filter fun x => !(x.entry == f.entry)).length < s.channel.queue.length :=
    List.length_filter_lt_length_iff_exists.2 ⟨q, List.mem_of_find?_eq_some hfly.2, by simp [hfly.entry_eq]⟩
  exact Nat.lt_of_lt_of_le hlt hlen

/-- What is queued anew below the third unheard frame in a row, and the own claims then. -/
def State.Anew (s : State) (q : Queued) (p : Payload) (b : Block) (own : List OwnClaim) : Prop :=
  (∃ n i k r, q.payload = .claim n i k 0 ∧ s.claims.own.find? (·.segment == n) = some r ∧
    r.releasePending = false ∧ p = q.payload ∧ b = .claims ∧
    own = s.claims.own.map fun x => if x.segment = n then { x with state := .queued } else x) ∨
  (∃ n i k r, q.payload = .claim n i k 1 ∧ s.claims.own.find? (·.segment == n) = some r ∧ p = q.payload ∧
    b = .claims ∧ own = s.claims.own) ∨
  (∃ r cd sg ce h d x, q.payload = .callout s.station.config.station r.seq cd sg ce h d x ∧
    s.callout.own.find? (·.seq == r.seq) = some r ∧ b = .callout ∧ own = s.claims.own ∧
    p = .callout s.station.config.station r.seq r.code r.segment r.cell 0 s.station.distance r.detail) ∨
  ∃ e cd sg ce h d x, q.payload = .callout e.origin e.seq cd sg ce h d x ∧
    e.origin ≠ s.station.config.station ∧
    s.callout.relay.find? (fun y => y.origin == e.origin && y.seq == e.seq) = some e ∧ b = .callout ∧
    own = s.claims.own ∧
    p = .callout e.origin e.seq e.code e.segment e.cell e.hop s.station.distance e.detail

theorem unheard_anew {s : State} {f : Flight} {q : Queued} {p : Payload} {b : Block} {own : List OwnClaim}
    (h : s.Anew q p b own) : unheard false q.payload (s.unheardAt f) =
      queueFrame b p { s.unheardAt f with claims := { s.claims with own := own } } := by
  rcases h with ⟨n, i, k, r, hp, hr, hpend, rfl, rfl, rfl⟩ | ⟨n, i, k, r, hp, hr, rfl, rfl, rfl⟩ |
    ⟨r, cd, sg, ce, h, d, x, hp, hr, rfl, rfl, rfl⟩ | ⟨e, cd, sg, ce, h, d, x, hp, hother, he, rfl, rfl, rfl⟩
  · rw [hp, unheard, claimUnheard, show (s.unheardAt f).ownClaim? n = some r from hr]
    simp only [hpend, updateOwn_eq]
    rfl
  · rw [hp, unheard, claimUnheard, show (s.unheardAt f).ownClaim? n = some r from hr]
    rfl
  · rw [hp, unheard, if_pos (by rfl), ownCalloutUnheard,
      show (s.unheardAt f).callout.own.find? (·.seq == r.seq) = some r from hr]
    rfl
  · rw [hp, unheard, if_neg (by exact hother), relayUnheard,
      show (s.unheardAt f).callout.relay.find? (·.isPair e.origin e.seq) = some e from he]
    rfl

/-! ### The third unheard frame in a row (R30) -/

theorem claimUnheard_third (p : Payload) (n m : Nat) (u : State) (hflight : u.channel.flight = none) :
    ∃ es, es.length ≤ 1 ∧ Hushed u es (claimUnheard true p n m u) ∧
      (claimUnheard true p n m u).claims.own.length ≤ u.claims.own.length ∧
      (claimUnheard true p n m u).callout = u.callout ∧
      (m = 0 → ∀ x ∈ (claimUnheard true p n m u).claims.own, x.segment ≠ n) ∧
      (m ≠ 0 → ∀ r, u.ownClaim? n = some r → (claimUnheard true p n m u).claims.own =
        u.claims.own.map fun x => if x.segment = n then { x with frame := .none } else x) := by
  unfold claimUnheard
  split
  · next hown =>
    exact ⟨[], by simp, .refl u, le_rfl, rfl, fun _ x hx he => List.find?_eq_none.1 hown x hx (by simp [he]),
      fun _ r hr => by rw [hown] at hr; cases hr⟩
  · next r hown =>
    have hends (change : ClaimChange) (hchange : change ≠ .denied) : ∃ es, es.length ≤ 1 ∧
        Hushed u es (endOwn n change none u) ∧ (endOwn n change none u).claims.own.length ≤ u.claims.own.length ∧
        (endOwn n change none u).callout = u.callout ∧ ∀ x ∈ (endOwn n change none u).claims.own, x.segment ≠ n := by
      obtain ⟨es, hes, hhushed, hgone⟩ := endOwn_hushed (n := n) change hchange hflight
      refine ⟨es, hes, hhushed, ?_, by simp, hgone⟩
      rw [endOwn_eq hown]
      exact List.length_filter_le _ _
    by_cases hm : m = 0
    · rw [if_pos hm]
      by_cases hpend : r.releasePending = true
      · rw [if_pos hpend]
        obtain ⟨es, hes, hhushed, hlen, hcallout, hgone⟩ := hends .released (by decide)
        exact ⟨es, hes, hhushed, hlen, hcallout, fun _ => hgone, fun h => absurd hm h⟩
      · rw [if_neg hpend, if_pos rfl]
        obtain ⟨es, hes, hhushed, hlen, hcallout, hgone⟩ := hends .stale (by decide)
        exact ⟨es, hes, hhushed, hlen, hcallout, fun _ => hgone, fun h => absurd hm h⟩
    · rw [if_neg hm, if_pos rfl]
      refine ⟨[], by simp, updateOwn_hushed n _ (by exact fun _ => ⟨rfl, rfl⟩) u, ?_, by simp, fun h => absurd h hm,
        fun _ _ _ => by rw [updateOwn_eq]⟩
      simp [updateOwn_eq]

theorem ownCalloutUnheard_third (seq : Nat) (u : State) :
    ∃ es, es.length ≤ 1 ∧ Hushed u es (ownCalloutUnheard true seq u) ∧
      (ownCalloutUnheard true seq u).claims = u.claims ∧
      (ownCalloutUnheard true seq u).callout.own.length ≤ u.callout.own.length ∧
      ((u.callout.own.map (·.seq)).Nodup →
        ∀ c ∈ u.callout.own, c ∈ (ownCalloutUnheard true seq u).callout.own ∨ c.unrouted ∈ es) := by
  unfold ownCalloutUnheard
  split
  · exact ⟨[], by simp, .refl u, rfl, le_rfl, fun _ c hc => .inl hc⟩
  · next k hk =>
    rw [if_pos rfl]
    refine ⟨[k.unrouted], by simp, endCallout_hushed k u, by simp, ?_, fun hnodup c hc => ?_⟩
    · rw [endCallout_eq]
      exact List.length_filter_le _ _
    · by_cases hseq : c.seq = k.seq
      · rw [List.inj_on_of_nodup_map hnodup hc (List.mem_of_find?_eq_some hk) hseq]
        exact .inr (by simp)
      · rw [endCallout_eq]
        exact .inl (List.mem_filter.2 ⟨hc, by simpa using hseq⟩)

/-- What the third unheard frame leaves at its block: claims that only went, callouts that only went, and at most one
event, that of the callout that went. -/
theorem unheard_third (p : Payload) (u : State) (hflight : u.channel.flight = none) :
    ∃ es, es.length ≤ 1 ∧ Hushed u es (unheard true p u) ∧
      (unheard true p u).claims.own.length ≤ u.claims.own.length ∧
      (unheard true p u).callout.own.length ≤ u.callout.own.length ∧
      (∀ n i k, p = .claim n i k 0 → ∀ x ∈ (unheard true p u).claims.own, x.segment ≠ n) ∧
      (∀ n i k r, p = .claim n i k 1 → u.ownClaim? n = some r →
        (unheard true p u).claims.own = u.claims.own.map fun x => if x.segment = n then { x with frame := .none } else x) ∧
      ((u.callout.own.map (·.seq)).Nodup → ∀ c ∈ u.callout.own, c ∈ (unheard true p u).callout.own ∨ c.unrouted ∈ es) := by
  by_cases hplain : p.plain = true
  · rw [unheard_plain u hplain]
    refine ⟨[], by simp, .refl u, le_rfl, le_rfl, ?_, ?_, fun _ c hc => .inl hc⟩
    · rintro n i k rfl
      cases hplain
    · rintro n i k r rfl
      cases hplain
  · cases p with
    | claim n i k m =>
      have hsegment {n' i' k' m' : Nat} (h : Payload.claim n i k m = .claim n' i' k' m') : n' = n ∧ m' = m := by
        injection h with h1 _ _ h2
        exact ⟨h1.symm, h2.symm⟩
      obtain ⟨es, hes, hhushed, hlen, hcallout, hnew, hrefresh⟩ := claimUnheard_third (.claim n i k m) n m u hflight
      have hsame : (unheard true (.claim n i k m) u).callout = u.callout := hcallout
      refine ⟨es, hes, hhushed, hlen, by rw [hsame], ?_, ?_, ?_⟩
      · intro n' i' k' h
        obtain ⟨rfl, hm⟩ := hsegment h
        exact hnew hm.symm
      · intro n' i' k' r h hr
        obtain ⟨rfl, hm⟩ := hsegment h
        exact hrefresh (by omega) r hr
      · intro _ c hc
        rw [hsame]
        exact .inl hc
    | callout origin seq cd sg ce h d x =>
      by_cases horigin : origin = u.cfg.station
      · rw [show unheard true (.callout origin seq cd sg ce h d x) u = ownCalloutUnheard true seq u from if_pos horigin]
        obtain ⟨es, hes, hhushed, hclaims, hlen, hevent⟩ := ownCalloutUnheard_third seq u
        exact ⟨es, hes, hhushed, by rw [hclaims], hlen, nofun, nofun, hevent⟩
      · rw [show unheard true (.callout origin seq cd sg ce h d x) u = relayUnheard true origin seq u from if_neg horigin]
        unfold relayUnheard
        split
        · exact ⟨[], by simp, .refl u, le_rfl, le_rfl, nofun, nofun, fun _ c hc => .inl hc⟩
        · obtain ⟨hown, -⟩ := leaveRelay_callout origin seq u
          exact ⟨[], by simp, leaveRelay_hushed origin seq u, by simp, by simp [hown], nofun, nofun,
            fun _ c hc => .inl (by simpa [hown] using hc)⟩
    | _ => exact absurd rfl hplain

/-- Settles O33. -/
theorem sentOrUnheardFrameIsRemoved : Obligations.SentOrUnheardFrameIsRemoved := by
  unfold Obligations.SentOrUnheardFrameIsRemoved
  intro f q s hfly
  refine ⟨fun hplain hq => ⟨?_, exec_sentResponded_plain hfly hplain⟩, fun n c hn hc hfew => ⟨fun hplain => ?_, ?_⟩, ?_⟩
  · rw [exec_sent, frameSent_plain hfly hq hplain]
    rfl
  · have hcount : min 3 (s.channel.unheardCount + 1) = s.channel.unheardCount + 1 := by omega
    rw [exec_txUnheard hfly, if_neg (by omega), unheard_plain _ hplain, hc, hn]
    simp only [State.unheardAt, hcount]
    rfl
  · intro hon hlen
    have hcut : c = s.channel.cutAt (max s.channel.symbol (Config.keyedUntil s.channel.cuts)) := by rw [hc, hn]; rfl
    refine ⟨unheard false q.payload (s.unheardAt f), ?_, fun p b own hnew => ?_, fun n i k r hp hr hpend hq => ?_⟩
    · rw [exec_txUnheard hfly, if_neg (by omega)]
      rfl
    · rw [unheard_anew hnew]
      exact requeues own b p hcut hfew (unheardAt_hasRoom hfly hon hlen own)
    · have hends : unheard false q.payload (s.unheardAt f) = endOwn n .released none (s.unheardAt f) := by
        rw [hp, unheard, claimUnheard, show (s.unheardAt f).ownClaim? n = some r from hr]
        exact if_pos hpend
      obtain ⟨l, hl, -, -, -, hclaims, hnone, hevents⟩ :=
        endOwn_left (s := s.unheardAt f) (change := .released) (by exact hr) rfl (by decide)
      rw [hends, hl]
      refine ⟨hclaims, hnone, ?_⟩
      show ({ s.host with events := s.withEvents l.events } : HostPort) = _
      rw [hevents, occupied_eq]
      rfl
  · intro hactive hmany
    have hground : (s.unheardAt f).channel.flight = none := rfl
    obtain ⟨es, hes, hhushed, hlen, hcallouts, hnew, hrefresh, hevents⟩ := unheard_third q.payload (s.unheardAt f) hground
    by_cases hleave : s.station.leavePending = true
    · refine ⟨_, by rw [exec_txUnheard hfly, if_pos (by omega), if_pos hleave]; rfl, ?_⟩
      rw [endOfStep_eq_settleFeed _ (by simp)]
      exact ⟨by simp [State.unheardAt], by simp [State.unheardAt], fun _ => by simp, fun h => by simp [hleave] at h⟩
    · rw [Bool.not_eq_true] at hleave
      obtain ⟨es', hes', hsilent, hqueued, hnone, hrelay⟩ := goSilent_hushed _ (hhushed.flight hground)
      refine ⟨_, by rw [exec_txUnheard hfly, if_pos (by omega), if_neg (by simp [hleave]), if_pos hactive]; rfl, ?_⟩
      rw [endOfStep_eq_settleFeed _ (by simp [State.unheardAt, hleave])]
      have hcount : (unheard true q.payload (s.unheardAt f)).channel.unheardCount = 3 := by
        rw [hhushed.channel]
        simp only [State.unheardAt]
        omega
      refine ⟨by simp [State.unheardAt], by simp [State.unheardAt], fun h => by simp [hleave] at h, fun _ => ?_⟩
      simp only [settleFeed_frame]
      refine ⟨by simp, by rw [hsilent.station]; rfl, ?_, ?_, ?_, ?_, hqueued, hnone, hrelay, by simp [State.unheardAt],
        fun n i k hp x hx he => ?_, fun n i k r hp hkeyed hr hheld => ?_, fun r hr hbound hkeyed => ?_⟩
      · rw [hsilent.channel]
        simp [State.silent, hcount]
      · exact hsilent.flight (by simp [State.silent, hhushed.flight hground])
      · rw [hsilent.channel]
        simp [State.silent]
      · rw [hsilent.channel]
        simp [State.silent]
      · obtain ⟨y, hy, hsegment, -⟩ := hsilent.claims x hx
        exact hnew n i k hp y hy (hsegment.trans he)
      · obtain ⟨-, hnodup, -⟩ := hkeyed
        have hown := hrefresh n i k r hp hr
        have hsegment : r.segment = n := by simpa using List.find?_some hr
        refine ⟨{ r with frame := .none }, goSilent_spares ?_ rfl fun x hx he => ?_, hsegment, hheld, rfl⟩
        · rw [hown]
          exact List.mem_map.2 ⟨r, List.mem_of_find?_eq_some hr, if_pos hsegment⟩
        · rw [hown] at hx
          obtain ⟨y, hy, rfl⟩ := List.mem_map.1 hx
          have hyr : y.segment = r.segment := by
            rw [apply_ite OwnClaim.segment] at he
            simpa using he
          rw [List.inj_on_of_nodup_map hnodup hy (List.mem_of_find?_eq_some hr) hyr, if_pos hsegment]
          exact hheld
      · obtain ⟨-, -, -, -, hclaims, -, -, hown, -⟩ := hbound
        obtain ⟨-, -, -, -, -, hseqs, -⟩ := hkeyed
        have hall : (goSilent (unheard true q.payload (s.unheardAt f))).host.events = s.withEvents (es ++
            ([.stationState .unheard s.station.state .silent] ++
              (es' ++ (unheard true q.payload (s.unheardAt f)).callout.own.map OwnCallout.unrouted))) := by
          rw [hsilent.events]
          simp only [State.withEvents, State.silent, hhushed.station, hhushed.events, List.foldl_append]
          rfl
        rw [hall]
        refine mem_withEvents s ?_ ?_
        · have hown' : (s.unheardAt f).claims.own.length ≤ 4 := hclaims
          have hcallout' : (s.unheardAt f).callout.own.length ≤ 4 := hown
          simp only [List.length_append, List.length_map, List.length_singleton]
          omega
        · rcases hevents hseqs r hr with hstays | hgone
          · simp only [List.mem_append, List.mem_map]
            exact .inr (.inr (.inr ⟨r, hstays, rfl⟩))
          · exact List.mem_append_left _ hgone

end Sys2Proof.Machine

/-! ## The end of a CLAIM frame's field (O34): a refutation -/

namespace Sys2Proof.Machine

/-! ### The state after a command, evaluated -/

/-- The state after a command. -/
def State.after (c : Instr) (s : State) : State :=
  match exec c s with
  | .next t => t
  | _ => s

theorem State.after_eq {c : Instr} {s t : State} (h : exec c s = .next t) : s.after c = t := by
  simp [State.after, h]

/-- The end of a step that does not leave the channel leaves the claims (R32). -/
theorem endOfStep_claims {t : State} (hon : (endOfStep t).station.state ≠ .offline) :
    (endOfStep t).claims = t.claims := by
  have hsettle : (settleLeave t).station.state ≠ .offline := by simpa [endOfStep] using hon
  have hsame : settleLeave t = t := by
    unfold settleLeave at hsettle ⊢
    split at hsettle
    · simp at hsettle
    · next h => exact if_neg h
  simp [endOfStep, hsame]

/-! ### A claim displaced beside the one that ends -/

/-- Robot 12 in GUEST_STOP on segment 208, its own hold sent for the guest, with a full transmit queue: six GO frames, the
REFRESH frame of its occupied claim, in flight, and the NEW frame of a second claim. -/
def crowded : State := { State.reset with
  station := { Station.reset with
    state := .active, configValid := true, config := { Configuration.reset with station := 12, group := 3 } }
  channel := { Channel.reset with
    condition := .busy, assembler := .response
    queue := ((List.range 6).map fun n => ⟨.go 3, 1, .group, 5, n + 1⟩) ++
      [⟨.claim 208 2 160 1, 3, .claims, 5, 0⟩, ⟨.claim 300 2 160 0, 3, .claims, 5, 7⟩]
    nextEntry := 8, flight := some ⟨0, true, []⟩ }
  segs := ⟨[⟨208, 180, 1200, .street, true, -50, [], none, none, List.replicate 4 freshCell⟩], none, none⟩
  claims := ⟨[⟨208, .salt, 1, 160, .holding, .refresh, some 0, false, 0⟩,
    ⟨300, .salt, 1, 160, .queued, .new, none, false, 0⟩], [], 0⟩
  odo := { State.reset.odo with entry := some ⟨208, .forward, 18000, 0, false⟩ }
  motion := { State.reset.motion with state := .guestStop, holdSent := true }
  group := { State.reset.group with holds := [⟨12, .immediate, .guest, none, 1⟩], guestMark := true, nextStamp := 2 } }

theorem crowded_queueInOrder : crowded.QueueInOrder :=
  ⟨by decide, by decide, by decide, fun f hf =>
    ⟨⟨.claim 208 2 160 1, 3, .claims, 5, 0⟩, by decide, congrArg (fun x => (x.map Flight.entry).getD 0) hf⟩⟩

/-- The objection of station 5, occupied there, ends the occupied claim LAPSED. The fault stop queues a RESUME and the
callout CLAIM_LOST; the queue, full with the RESUME, gives up the NEW frame for the callout, and with it the second
claim. -/
theorem crowded_after : (crowded.after (.sentResponded 5)).claims.own = [] ∧
    (crowded.after (.sentResponded 5)).station.state = .active := by decide

/-- Refutes O34: where the fault stop of a LAPSED claim fills the transmit queue, the callout CLAIM_LOST displaces the NEW
frame of another own claim, whose record then goes too (R23, R78). -/
theorem not_contestEnds : ¬ Obligations.ContestEnds := by
  unfold Obligations.ContestEnds
  intro h
  obtain ⟨-, hrefresh⟩ := h (.sentResponded 5) 5 ⟨0, true, []⟩ ⟨.claim 208 2 160 1, 3, .claims, 5, 0⟩
    ⟨208, .salt, 1, 160, .holding, .refresh, some 0, false, 0⟩ 2 160 crowded (.inl rfl) crowded_queueInOrder
    (by unfold State.Keyed; decide) (by unfold State.Bounded; decide) ⟨rfl, by decide⟩ (by decide) _ _ rfl rfl
  obtain ⟨t, hexec, -, hlost⟩ := hrefresh rfl rfl
  obtain ⟨-, hoccupied⟩ := hlost (by decide)
  obtain ⟨-, hlapses⟩ := hoccupied (by decide) (by decide)
  obtain ⟨hown, -⟩ := hlapses (by decide) (by decide)
  obtain ⟨hnone, hactive⟩ := crowded_after
  rw [State.after_eq hexec] at hnone hactive
  rw [endOfStep_claims (by simp [hactive]), hown] at hnone
  exact absurd hnone (by decide)

end Sys2Proof.Machine

/-! ## The ceiling and PERMIT (R112 to R114, R119; O53) -/

namespace Sys2Proof.Machine

theorem holds_iff (s : State) (n : Nat) :
    s.holds n = true ↔ ∃ r, s.claims.own.find? (·.segment == n) = some r ∧ r.state = .holding := by
  unfold State.holds State.ownClaim?
  cases s.claims.own.find? (·.segment == n) with
  | none => simp
  | some r => simp

theorem holdsCurrent_iff (s : State) : s.holdsCurrent = true ↔
    ∃ n r, s.odo.entry.map (·.segment) = some n ∧ s.claims.own.find? (·.segment == n) = some r ∧ r.state = .holding := by
  unfold State.holdsCurrent State.currentSegment
  cases s.odo.entry.map (·.segment) with
  | none => simp
  | some n => simp [holds_iff]

theorem permit_eq (s : State) : s.permit =
    ((s.motion.state == .run || s.motion.state == .caution || s.motion.state == .stopping) && s.holdsCurrent) := rfl

/-- PERMIT by the motion state and the claim on the current segment (R112). -/
theorem permit_iff (s : State) : s.permit = true ↔
    (s.motion.state = .run ∨ s.motion.state = .caution ∨ s.motion.state = .stopping) ∧
      ∃ n r, s.odo.entry.map (·.segment) = some n ∧ s.claims.own.find? (·.segment == n) = some r ∧ r.state = .holding := by
  rw [← holdsCurrent_iff]
  simp [permit_eq, or_assoc]

/-- One ramp step, the target itself being where it ends (R114). -/
theorem rampCeiling_eq (accel decel target ceiling : Nat) : rampCeiling accel decel target ceiling =
    if ceiling < target then min target (ceiling + accel) else max target (ceiling - decel) := by
  unfold rampCeiling
  split
  · rfl
  · split <;> omega

/-- Where STOPPING ends (R119). -/
def StopEnd.state : StopEnd → MotionState
  | .idle => .idle
  | .groupHold => .groupHold

theorem checkStopped_drives (s : State)
    (h : ¬ (s.motion.state = .stopping ∧ s.motion.ceiling = 0 ∧ s.odo.speed < 20)) : checkStopped s = s := if_neg h

theorem checkStopped_ends (s : State) (hstate : s.motion.state = .stopping) (hceiling : s.motion.ceiling = 0)
    (hspeed : s.odo.speed < 20) :
    (checkStopped s).motion = s.motion.moved s.motion.stopEnd.state FaultSet.empty s.cfg.crawl := by
  unfold checkStopped
  rw [if_pos ⟨hstate, hceiling, hspeed⟩]
  cases s.motion.stopEnd with
  | idle => exact (moveTo_values .idle .stopped FaultSet.empty s (by rw [hstate]; decide)).1
  | groupHold => exact (moveTo_values .groupHold .hold FaultSet.empty s (by rw [hstate]; decide)).1

/-- The state in which RAMP_STEP looks whether the robot stands. -/
theorem exec_rampStep (s : State) (c : Nat)
    (hc : c = if s.motion.ceiling < s.target then min s.target (s.motion.ceiling + s.station.config.accel)
      else max s.target (s.motion.ceiling - s.station.config.decel)) :
    exec .rampStep s = .next (endOfStep (checkStopped { s with motion := { s.motion with ceiling := c } })) := by
  have hexec : exec .rampStep s = .next (endOfStep (checkStopped (s.onMotion fun m =>
      { m with ceiling := rampCeiling s.cfg.accel s.cfg.decel s.target m.ceiling }))) := rfl
  rw [hexec, hc, ← rampCeiling_eq]
  rfl

theorem currentRecord_of_entry {s : State} {n : Nat} {r : Segment} (hn : s.odo.entry.map (·.segment) = some n)
    (hr : s.segs.records.find? (·.number == n) = some r) : s.currentRecord = some r := by
  simp [State.currentRecord, State.currentSegment, State.segment?, hn, hr]

theorem target_run {s : State} {r : Segment} (hrun : s.motion.state = .run) (hr : s.currentRecord = some r) :
    (s.dosing.active = false → s.target = r.speedLimit) ∧
      ∀ v, s.dosing.active = true → s.dosing.vSalt = some v → s.target = min v r.speedLimit := by
  simp +contextual [State.target, State.runTarget, hrun, hr]

theorem target_caution {s : State} {r : Segment} (hcaution : s.motion.state = .caution) (hr : s.currentRecord = some r) :
    s.target ≤ s.station.config.crawl ∧ s.target ≤ r.speedLimit := by
  refine ⟨?_, target_le s _ (by simp [hr])⟩
  have htarget : s.target = min s.runTarget s.station.config.crawl := by simp [State.target, hcaution, State.cfg]
  omega

/-- Settles O53. -/
theorem rampStepMovesTheCeiling : Obligations.RampStepMovesTheCeiling := by
  intro s c
  refine ⟨permit_iff s, fun hc => ⟨fun hdrives => ?_, fun hstopping hzero hslow => ?_, fun hstopping => ?_,
    fun n r hn hr => ?_⟩⟩
  · rw [exec_rampStep s c hc, checkStopped_drives]
    rintro ⟨hstate, hceiling, hspeed⟩
    rcases hdrives with hdrives | hdrives | hdrives
    · exact hdrives hstate
    · exact hdrives hceiling
    · exact absurd hspeed (by simpa using hdrives)
  · have hmotion := checkStopped_ends { s with motion := { s.motion with ceiling := c } } hstopping hzero hslow
    refine ⟨_, exec_rampStep s c hc, ?_⟩
    simp only [checkStopped_frame, hmotion, true_and, Motion.moved]
    cases s.motion.stopEnd <;> simp [StopEnd.state, clampCeiling]
  · exact target_still s (by rw [hstopping]; decide) (by rw [hstopping]; decide)
  · have hrecord := currentRecord_of_entry hn hr
    exact ⟨fun hrun hoff => (target_run hrun hrecord).1 hoff, fun v hrun hon hv => (target_run hrun hrecord).2 v hon hv,
      fun hcaution => target_caution hcaution hrecord⟩

end Sys2Proof.Machine

/-! ## Progress and guest states heard (R41, R60, R61, R65, R66; O41, O42) -/

namespace Sys2Proof.Machine

theorem exec_progress (sender n first last work dose distance : Nat) (s : State) :
    exec (.progress sender n first last work dose distance) s = .next (endOfStep (receive sender
      (fun x => progressCells n first last work dose (progressNeighbour sender distance x)) s)) := rfl

/-! ### The cells (R60, R61) -/

/-- A change of a segment's record, as a map over the table (R44). -/
theorem updateSegment_eq (n : Nat) (f : Segment → Segment) (s : State) : updateSegment n f s = { s with
    segs := { s.segs with records := s.segs.records.map fun x => if x.number = n then f x else x } } := by
  simp [updateSegment, State.onSegs, updateIf]

/-- Progress changes segment records alone. -/
theorem progressCells_shape (n first last work dose : Nat) (s : State) : progressCells n first last work dose s =
    { s with segs := { s.segs with records := (progressCells n first last work dose s).segs.records } } := by
  unfold progressCells
  split
  · split <;> rfl
  · rfl

theorem progressCells_ignored (n first last work dose : Nat) (s : State)
    (h : s.segs.records.find? (·.number == n) = none ∨ workOf work = none ∨ last < first) :
    progressCells n first last work dose s = s := by
  unfold progressCells
  split
  · next r w hr hw =>
    rcases h with h | h | h
    · exact absurd (hr.symm.trans h) (by simp)
    · exact absurd (hw.symm.trans h) (by simp)
    · exact if_neg (by omega)
  · rfl

/-- A cell after an applicable report, by the report's code of the work (R61). -/
theorem progressCell_eq (now work dose : Nat) (c : Cell) {w : Work} (hw : workOf work = some w) :
    progressCell now w dose c =
      ⟨c.plowed || decide (work ≠ 2), if work = 2 then c.plowedAt else some now,
        if work = 1 then c.dose else dose, if work = 1 then c.saltedAt else some now, c.shortfall && decide (work = 1)⟩ := by
  obtain ⟨rfl, rfl⟩ | ⟨rfl, rfl⟩ | ⟨rfl, rfl⟩ : (work = 1 ∧ w = .plowed) ∨ (work = 2 ∧ w = .salted) ∨ (work = 3 ∧ w = .both) := by
    unfold workOf at hw
    split at hw <;> simp_all
  all_goals simp [progressCell]

theorem progressCells_records (n first last work dose : Nat) (s : State) {r : Segment} {w : Work}
    (hr : s.segs.records.find? (·.number == n) = some r) (hw : workOf work = some w) (hrange : first ≤ last) :
    (progressCells n first last work dose s).segs.records = s.segs.records.map fun x => if x.number = n then
      { x with
        cells := updateCells (min first (cellCount r.length - 1)) (min last (cellCount r.length - 1))
          (progressCell s.now w (min 63 dose)) x.cells } else x := by
  have hr : s.segment? n = some r := hr
  simp only [progressCells, hr, hw, hrange, if_true, updateSegment_eq]

/-! ### The neighbour table (R41) -/

theorem progressNeighbour_far (sender distance : Nat) (s : State) (h : 15 < distance) :
    progressNeighbour sender distance s = s := if_neg (by omega)

theorem progressNeighbour_known (sender distance : Nat) (s : State) {old : Neighbour} (h : distance ≤ 15)
    (hold : s.station.neighbours.find? (·.station == sender) = some old) :
    progressNeighbour sender distance s =
      hearNeighbour { old with distance := distance, lastHeard := s.station.clock } s := by
  rw [progressNeighbour, if_pos h]
  simp only [hold]
  rfl

theorem progressNeighbour_new (sender distance : Nat) (s : State) (h : distance ≤ 15)
    (hnone : s.station.neighbours.find? (·.station == sender) = none) :
    progressNeighbour sender distance s = hearNeighbour ⟨sender, .robot, distance, none, none, s.station.clock⟩ s := by
  rw [progressNeighbour, if_pos h]
  simp only [hnone]
  rfl

/-- Progress changes neighbour table, service distance and event queue, before the cells. -/
theorem progressNeighbour_shape (sender distance : Nat) (s : State) : progressNeighbour sender distance s = { s with
    station := { s.station with
      neighbours := (progressNeighbour sender distance s).station.neighbours
      distance := (progressNeighbour sender distance s).station.distance }
    host := { s.host with events := (progressNeighbour sender distance s).host.events } } := by
  unfold progressNeighbour
  split
  · split
    · exact hearNeighbour_shape _ s
    · exact hearNeighbour_shape _ s
  · rfl

/-- What progress heard changes in all (R41, R61). -/
theorem progress_shape (sender n first last work dose distance : Nat) (s : State) {u t : State}
    (hu : u = progressNeighbour sender distance s)
    (ht : t = { progressCells n first last work dose u with
      channel := (progressCells n first last work dose u).channel.frameOver }) :
    t = { s with
      station := { s.station with neighbours := u.station.neighbours, distance := u.station.distance }
      segs := { s.segs with records := (progressCells n first last work dose s).segs.records }
      channel := s.channel.frameOver
      host := { s.host with events := u.host.events } } := by
  have hrecords : (progressCells n first last work dose u).segs.records =
      (progressCells n first last work dose s).segs.records := by
    rw [hu, progressNeighbour_shape]
    unfold progressCells State.segment?
    dsimp only
    cases s.segs.records.find? (·.number == n) <;> cases workOf work <;> dsimp only
    split <;> rfl
  rw [ht, progressCells_shape, hrecords, hu]
  conv_lhs => rw [progressNeighbour_shape]

/-- Settles O41. -/
theorem progressIsApplied : Obligations.ProgressIsApplied := by
  intro sender n first last work dose distance s hdelivers
  have hshape := progress_shape sender n first last work dose distance s rfl rfl
  refine ⟨_, by rw [exec_progress, receive_delivers _ _ s hdelivers], ?_⟩
  rw [hshape]
  refine ⟨rfl, fun hfar => ?_, fun hnear => ⟨fun old hold => ?_, fun hnone => ?_⟩, fun hignored => ?_,
    fun r hr hlow hhigh hrange => ?_⟩
  · rw [progressNeighbour_far sender distance s hfar]
    exact ⟨rfl, rfl⟩
  · have := hearNeighbour_learns { old with distance := distance, lastHeard := s.station.clock } s
    rw [← progressNeighbour_known sender distance s hnear hold, progressNeighbour_shape] at this
    exact this
  · have := hearNeighbour_learns ⟨sender, .robot, distance, none, none, s.station.clock⟩ s
    rw [← progressNeighbour_new sender distance s hnear hnone, progressNeighbour_shape] at this
    exact this
  · show (progressCells n first last work dose s).segs.records = _
    rw [progressCells_ignored n first last work dose s hignored]
  · obtain ⟨w, hw⟩ : ∃ w, workOf work = some w := by
      obtain rfl | rfl | rfl : work = 1 ∨ work = 2 ∨ work = 3 := by omega
      all_goals exact ⟨_, rfl⟩
    show (progressCells n first last work dose s).segs.records = _
    rw [progressCells_records n first last work dose s hr hw hrange]
    simp only [updateCells, progressCell_eq _ work _ _ hw]
    rfl

/-! ### Caution (R127) -/

/-- The caution causes look at the warning, the seize period, the segment table and the entry alone. -/
theorem cautionCause_congr {s t : State} (hwarning : t.motion.warning = s.motion.warning)
    (hseize : t.motion.seizePeriod = s.motion.seizePeriod) (hsegs : t.segs = s.segs) (hodo : t.odo = s.odo) :
    t.cautionCause = s.cautionCause := by
  have hguest : t.guestOn = s.guestOn := by
    funext n
    simp only [State.guestOn, State.segment?, hsegs]
  simp only [State.cautionCause, State.causeWarning, State.causePeer, State.causeSeize, State.currentSegment,
    State.segment?, hguest, hwarning, hseize, hsegs, hodo]

theorem evalCaution_standing (s : State) (hrun : s.motion.state ≠ .run) (hcaution : s.motion.state ≠ .caution) :
    evalCaution s = s := by
  rw [evalCaution, if_neg fun h => hrun h.1, if_neg fun h => hcaution h.1]

/-- The evaluation of caution is at most one change between RUN and CAUTION. -/
theorem evalCaution_moves (s : State) : evalCaution s = s ∨ ∃ new cause, new ≠ .idle ∧ s.motion.state ≠ new ∧
    evalCaution s = moveTo new cause FaultSet.empty s := by
  unfold evalCaution
  split
  · next h => exact .inr ⟨_, _, by decide, by rw [h.1]; decide, rfl⟩
  · split
    · next h => exact .inr ⟨_, _, by decide, by rw [h.1]; decide, rfl⟩
    · exact .inl rfl

theorem evalCaution_shape (s : State) : evalCaution s = { s with
    motion := (evalCaution s).motion, group := (evalCaution s).group
    host := { s.host with events := (evalCaution s).host.events } } := by
  obtain h | ⟨new, cause, hnew, hstate, h⟩ := evalCaution_moves s
  · rw [h]
  · rw [h, moveTo_eq _ _ _ hstate hnew]

theorem evalCaution_cautionCause (s : State) : (evalCaution s).cautionCause = s.cautionCause := by
  obtain h | ⟨new, cause, hnew, hstate, h⟩ := evalCaution_moves s
  · rw [h]
  · rw [h, moveTo_eq _ _ _ hstate hnew]
    exact cautionCause_congr rfl rfl rfl rfl

/-- A moving robot is in CAUTION exactly while there is a cause, and says so where that changes it (R127). -/
theorem evalCaution_driving (s : State) (h : s.motion.state = .run ∨ s.motion.state = .caution) {t : State}
    (ht : t = evalCaution s) :
    t.motion.state = (if s.cautionCause then .caution else .run) ∧
    t.motion.ceiling = (if s.cautionCause ∧ s.motion.state = .run then min s.motion.ceiling s.station.config.crawl
      else s.motion.ceiling) ∧
    t.host.events = s.withEvents (if t.motion.state = s.motion.state then [] else
      [.motion s.motion.state t.motion.state (if s.cautionCause then .cautionOn else .cautionOff) t.motion.ceiling
        s.currentSegment FaultSet.empty]) := by
  subst ht
  unfold evalCaution
  rcases h with hrun | hcaution
  · cases hcause : s.cautionCause with
    | true =>
      rw [if_pos ⟨hrun, rfl⟩, move, moveTo_eq _ _ _ (by rw [hrun]; decide) (by decide)]
      simp [hrun, Motion.moved, clampCeiling]
    | false => simp [hrun, State.withEvents]
  · cases hcause : s.cautionCause with
    | true => simp [hcaution, State.withEvents]
    | false =>
      rw [if_neg (by simp), if_pos ⟨hcaution, by simp⟩, move, moveTo_eq _ _ _ (by rw [hcaution]; decide) (by decide)]
      simp [hcaution, Motion.moved, clampCeiling]

/-! ### Guest states (R65, R66) -/

theorem guestOn_iff (s : State) (n : Nat) : s.guestOn n = true ↔ s.GuestHeld n := by
  unfold State.guestOn State.GuestHeld State.segment?
  cases s.segs.records.find? (·.number == n) with
  | none => simp
  | some r => simp [Option.isSome_iff_ne_none]

/-- A peer's guest as a cause of caution (R127). -/
theorem causePeer_iff (s : State) : s.causePeer = true ↔ ∃ m, s.odo.entry.map (·.segment) = some m ∧ (s.GuestHeld m ∨
    ∃ x, s.segs.records.find? (·.number == m) = some x ∧ ∃ a ∈ x.adjacent, s.GuestHeld a) := by
  unfold State.causePeer State.currentSegment State.segment?
  cases s.odo.entry.map (·.segment) with
  | none => simp
  | some m =>
    cases hrecord : s.segs.records.find? (·.number == m) with
    | none => simp [guestOn_iff, hrecord]
    | some x => simp [guestOn_iff, hrecord]

/-- Every code of a zone but its own is unlisted (R65). -/
theorem zoneOf_zoneCode (z : Zone) : zoneOf (zoneCode z) = some z := by
  cases z <;> rfl

theorem exec_guest (sender n cell zone : Nat) (s : State) :
    exec (.guest sender n cell zone) s = .next (endOfStep (receive sender (hearGuest sender n cell zone) s)) := rfl

theorem exec_guestStateExpiry (n : Nat) (s : State) : exec (.guestStateExpiry n) s = execGuestStateExpiry n s := rfl

theorem hearGuest_ignored (sender n cell zone : Nat) (s : State)
    (h : s.segs.records.find? (·.number == n) = none ∨ zoneOf zone = none) : hearGuest sender n cell zone s = s := by
  unfold hearGuest
  split
  · next r z hr hz =>
    rcases h with h | h
    · exact absurd (hr.symm.trans h) (by simp)
    · exact absurd (hz.symm.trans h) (by simp)
  · rfl

theorem hearGuest_taken (sender n cell : Nat) (z : Zone) (s : State) {r : Segment}
    (hr : s.segs.records.find? (·.number == n) = some r) :
    hearGuest sender n cell (zoneCode z) s = setGuest r (noticed s.now r.guest sender z) sender cell false s := by
  have hr : s.segment? n = some r := hr
  simp only [hearGuest, hr, zoneOf_zoneCode]

theorem execGuestStateExpiry_eq (n : Nat) (s : State) {r : Segment}
    (hr : s.segs.records.find? (·.number == n) = some r) : execGuestStateExpiry n s =
      match r.guest with
      | none => .next s
      | some g => if g.expiry ≤ s.now then .next (endOfStep (setGuest r none 0 0 true s)) else .next s := by
  have hr : s.segment? n = some r := hr
  simp only [execGuestStateExpiry, hr]
  rfl

/-- The guest state that a notice leaves, by the state held and the zone noticed (R65). -/
theorem noticed_eq (now : Nat) (old : Option PeerGuest) (sender : Nat) (z : Zone) : noticed now old sender z =
    match old with
    | none => if z = .clear then none else some ⟨z, sender, now + 15⟩
    | some g =>
      if z = .clear then (if g.source = sender then none else some g)
      else if g.source = sender ∨ zoneCode g.zone ≤ zoneCode z then some ⟨z, sender, now + 15⟩ else some g := by
  cases old <;> cases z <;> rfl

/-- The block after a change of a guest state with these events, before caution is evaluated. -/
def State.guested (s : State) (n : Nat) (g : Option PeerGuest) (es : List Event) : State := { s with
  segs := { s.segs with records := s.segs.records.map fun x => if x.number = n then { x with guest := g } else x }
  host := { s.host with events := s.withEvents es } }

theorem setGuest_eq (r : Segment) (g : Option PeerGuest) (source cell : Nat) (expired : Bool) (s : State) :
    setGuest r g source cell expired s =
      if guestZoneOf g = guestZoneOf r.guest then s.guested r.number g []
      else evalCaution (s.guested r.number g [.peerGuest r.number (guestZoneOf g) source cell expired]) := by
  rw [setGuest, updateSegment_eq, post_events]
  rfl

/-- What a change of a guest state does in all: the zone's event, and caution (R65, R127). -/
theorem setGuest_follows (r : Segment) (new : Option PeerGuest) (source cell : Nat) (expired : Bool) (s : State)
    {t : State} (ht : t = setGuest r new source cell expired s) :
    t = { s with
      segs := { s.segs with records := s.segs.records.map fun x =>
        if x.number = r.number then { x with guest := new } else x }
      motion := t.motion, group := t.group
      host := { s.host with events := t.host.events } } ∧
    (guestZoneOf new = guestZoneOf r.guest → t.motion = s.motion ∧ t.group = s.group ∧ t.host = s.host) ∧
    (guestZoneOf new ≠ guestZoneOf r.guest →
      (s.motion.state ≠ .run → s.motion.state ≠ .caution → t.motion = s.motion ∧ t.group = s.group ∧
        t.host.events = s.withEvents [.peerGuest r.number (guestZoneOf new) source cell expired]) ∧
      (s.motion.state = .run ∨ s.motion.state = .caution →
        t.host.events = s.withEvents (.peerGuest r.number (guestZoneOf new) source cell expired ::
          if t.motion.state = s.motion.state then [] else
            [.motion s.motion.state t.motion.state (if t.cautionCause then .cautionOn else .cautionOff)
              t.motion.ceiling s.currentSegment FaultSet.empty]) ∧
        t.motion.state = (if t.cautionCause then .caution else .run) ∧
        t.motion.ceiling = (if t.cautionCause ∧ s.motion.state = .run then
          min s.motion.ceiling s.station.config.crawl else s.motion.ceiling))) := by
  rw [setGuest_eq] at ht
  split at ht
  · next hzone =>
    subst ht
    exact ⟨rfl, fun _ => ⟨rfl, rfl, rfl⟩, fun h => absurd hzone h⟩
  · next hzone =>
    refine ⟨?_, fun h => absurd h hzone, fun _ => ⟨fun hrun hcaution => ?_, fun hdrives => ?_⟩⟩
    · rw [ht, evalCaution_shape]
      rfl
    · rw [evalCaution_standing (s.guested _ _ _) hrun hcaution] at ht
      subst ht
      exact ⟨rfl, rfl, rfl⟩
    · have hcause : t.cautionCause = _ := (congrArg State.cautionCause ht).trans (evalCaution_cautionCause _)
      obtain ⟨hstate, hceiling, hevents⟩ := evalCaution_driving (s.guested _ _ _) hdrives ht
      rw [hcause]
      exact ⟨hevents.trans (withEvents_append s _ _), hstate, hceiling⟩

/-- Settles O42. -/
theorem peerGuestStates : Obligations.PeerGuestStates := by
  intro n s
  refine ⟨causePeer_iff s, fun sender cell zone hdelivers hbad => ?_, fun r hr => ⟨fun g hg hearly => ?_, fun hnone => ?_,
    fun c z new source cell expired hcase => ?_⟩⟩
  · rw [exec_guest, receive_delivers _ _ s hdelivers, hearGuest_ignored sender n cell zone s hbad]
  · rw [exec_guestStateExpiry, execGuestStateExpiry_eq n s hr, hg]
    exact if_neg (Nat.not_le.2 hearly)
  · rw [exec_guestStateExpiry, execGuestStateExpiry_eq n s hr, hnone]
  · have hnumber : r.number = n := by simpa using List.find?_some hr
    obtain ⟨hshape, hsame, hchanged⟩ := setGuest_follows r new source cell expired s rfl
    rw [hnumber] at hshape hchanged
    rcases hcase with ⟨g, rfl, hg, hdue, rfl, rfl, rfl, rfl⟩ | ⟨rfl, hdelivers, rfl, hnew⟩
    · refine ⟨_, ?_, hshape, hsame, hchanged⟩
      rw [exec_guestStateExpiry, execGuestStateExpiry_eq n s hr, hg]
      exact if_pos hdue
    · have hnew : new = noticed s.now r.guest source z := hnew.trans (noticed_eq s.now r.guest source z).symm
      refine ⟨_, by rw [exec_guest, receive_delivers _ _ s hdelivers, hearGuest_taken source n cell z s hr, ← hnew], ?_⟩
      refine ⟨?_, hsame, hchanged⟩
      conv_lhs => rw [hshape]
      rfl

end Sys2Proof.Machine

/-! ## Asking for a claim and releasing one (R69 to R75, R92, R93; O43, O44) -/

namespace Sys2Proof.Machine

/-! ### The strongest view entry (R74, R91) -/

/-- `strongest` names an entry of the list with the least claim value. -/
theorem strongest_spec (l : List ViewEntry) : (strongest l = none ↔ l = []) ∧ ∀ v, strongest l = some v →
    v ∈ l ∧ ∀ w ∈ l, v.rank * 256 + v.holder ≤ w.rank * 256 + w.holder := by
  induction l with
  | nil => simp [strongest]
  | cons x r ih =>
    obtain ⟨ihnone, ihsome⟩ := ih
    unfold strongest
    cases hr : strongest r with
    | none => simp [ihnone.1 hr]
    | some w =>
      obtain ⟨hmem, hleast⟩ := ihsome w hr
      refine ⟨by dsimp only; split <;> simp, fun v hv => ?_⟩
      dsimp only at hv
      split at hv
      · next hle =>
        obtain rfl : x = v := by simpa using hv
        refine ⟨List.mem_cons_self, fun y hy => ?_⟩
        rcases List.mem_cons.1 hy with rfl | hy
        · exact le_rfl
        · exact le_trans hle (hleast y hy)
      · next hle =>
        obtain rfl : w = v := by simpa using hv
        refine ⟨List.mem_cons_of_mem _ hmem, fun y hy => ?_⟩
        rcases List.mem_cons.1 hy with rfl | hy
        · exact (Nat.lt_of_not_le hle).le
        · exact hleast y hy

theorem mem_stronger_iff (s : State) (n : Nat) (i : Intent) (rank : Nat) (v : ViewEntry) :
    (v ∈ (s.conflictingView n i).filter fun v => decide (claimValue v.rank v.holder < claimValue rank s.cfg.station)) ↔
      s.TellsAgainst n i rank v := by
  simp only [State.conflictingView, List.mem_filter, Bool.and_eq_true, beq_iff_eq, decide_eq_true_eq]
  exact ⟨fun ⟨⟨hmem, ⟨hn, hconflict⟩, hlive⟩, hless⟩ => ⟨hmem, hn, hconflict, hlive, hless⟩,
    fun ⟨hmem, hn, hconflict, hlive, hless⟩ => ⟨⟨hmem, ⟨hn, hconflict⟩, hlive⟩, hless⟩⟩

theorem strongerView_none {s : State} {n : Nat} {i : Intent} {rank : Nat} (h : ∀ v, ¬ s.TellsAgainst n i rank v) :
    s.strongerView n i rank = none := by
  refine ((strongest_spec _).1).2 (List.eq_nil_iff_forall_not_mem.2 fun v hv => h v ?_)
  exact (mem_stronger_iff s n i rank v).1 hv

theorem strongerView_some {s : State} {n : Nat} {i : Intent} {rank : Nat} (h : ∃ v, s.TellsAgainst n i rank v) :
    ∃ v, s.strongerView n i rank = some v ∧ s.TellsAgainst n i rank v ∧
      ∀ w, s.TellsAgainst n i rank w → v.rank * 256 + v.holder ≤ w.rank * 256 + w.holder := by
  obtain ⟨w, hw⟩ := h
  obtain ⟨hnone, hsome⟩ := strongest_spec ((s.conflictingView n i).filter fun v =>
    decide (claimValue v.rank v.holder < claimValue rank s.cfg.station))
  cases hview : s.strongerView n i rank with
  | none =>
    have hmem := (mem_stronger_iff s n i rank w).2 hw
    rw [hnone.1 hview] at hmem
    simp at hmem
  | some v =>
    obtain ⟨hmem, hleast⟩ := hsome v hview
    exact ⟨v, rfl, (mem_stronger_iff s n i rank v).1 hmem,
      fun x hx => hleast x ((mem_stronger_iff s n i rank x).2 hx)⟩

/-! ### REQUEST_CLAIM (R74, R75) -/

theorem within_false_iff (low high n : Nat) : within low high n = false ↔ n < low ∨ high < n := by
  rw [← Bool.not_eq_true, within_iff]
  omega

theorem intentOf_eq_none {n : Nat} (h : 2 < n) : intentOf n = none := by
  match n, h with
  | n + 3, _ => rfl

/-- REQUEST_CLAIM as it is taken in ACTIVE (R74, R187). -/
theorem exec_requestClaim (n code urgency : Nat) (s : State) (hactive : s.station.state = .active)
    (hsel : s.host.heldSel = false) (hleave : s.station.leavePending = false) : exec (.requestClaim n code urgency) s =
      match within 1 4000 n, intentOf code with
      | true, some i =>
        match s.ownClaim? n with
        | some r => .next (s.answered [0x04, BitVec.ofNat 8 (intentCode r.intent), BitVec.ofNat 8 r.rank,
            BitVec.ofNat 8 (claimStateCode r.state)])
        | none =>
          if 4 ≤ s.claims.own.length then .next (s.answered [0x03])
          else
            match s.strongerView n i (claimRank (min 3 urgency) i s.claims.deferrals) with
            | some v => .next (ok [3, byteOf (claimRank (min 3 urgency) i s.claims.deferrals), byteOf v.holder]
                (denyAtOnce n i (claimRank (min 3 urgency) i s.claims.deferrals) v s))
            | none =>
              let s1 := newClaim n i (min 3 urgency) (claimRank (min 3 urgency) i s.claims.deferrals) s
              .next (endOfStep (ok [if (s1.ownClaim? n).isSome then 0 else 4,
                byteOf (claimRank (min 3 urgency) i s.claims.deferrals), 0] s1))
      | _, _ => .next (s.answered [0x02]) := by
  have hworking : s.working = true := by simp [State.working, hactive, hleave]
  show execRequestClaim n code urgency s = _
  rw [execRequestClaim, whenTaken_taken _ _ hsel, hworking, if_neg (by simp)]
  rfl

/-- A record joins the own claim table, and its NEW frame the transmit queue (R75). -/
def State.claimed (s : State) (r : OwnClaim) : State := { s with claims := { s.claims with own := s.claims.own ++ [r] } }

theorem newClaim_eq (n : Nat) (i : Intent) (urgency rank : Nat) (s : State) : newClaim n i urgency rank s =
    queueFrame .claims (.claim n (intentCode i) rank 0)
      (s.claimed ⟨n, i, urgency, rank, .queued, .new, none, false, 0⟩) := rfl

theorem claimed_ownClaim (s : State) (r : OwnClaim) (hnone : s.claims.own.find? (·.segment == r.segment) = none) :
    (s.claimed r).ownClaim? r.segment = some r := by
  simp [State.ownClaim?, State.claimed, hnone]

theorem claimed_filter (s : State) (r : OwnClaim) (hnone : s.claims.own.find? (·.segment == r.segment) = none) :
    (s.claimed r).claims.own.filter (fun x => !(x.segment == r.segment)) = s.claims.own := by
  have hother : ∀ x ∈ s.claims.own, ¬ x.segment = r.segment := by simpa using hnone
  have hkept : s.claims.own.filter (fun x => !(x.segment == r.segment)) = s.claims.own :=
    List.filter_eq_self.2 (by simpa using hother)
  simp [State.claimed, List.filter_append, hkept]

/-- Withdrawing what is not in the queue changes nothing (R25). -/
theorem withdraw_nothing (p : Queued → Bool) (s : State) (hq : s.QueueInOrder) (h : ∀ q ∈ s.channel.queue, p q = false) :
    (withdraw p s).channel = s.channel := by
  have hqueue : s.channel.queue.filter (fun q => !p q) = s.channel.queue := List.filter_eq_self.2 (by simpa using h)
  cases hf : s.channel.flight with
  | none => rw [withdraw_grounded p s hf, hqueue]
  | some f =>
    obtain ⟨-, -, -, hflying⟩ := hq
    obtain ⟨q, hmem, hentry⟩ := hflying f hf
    have hany : s.channel.queue.any (·.entry == f.entry) = true := List.any_eq_true.2 ⟨q, hmem, by simp [hentry]⟩
    have hflight : s.channel.flightIn s.channel.queue = s.channel.flight := by
      simp [Channel.flightIn, hf, hany, Option.filter]
    have hecho : (s.channel.echo || s.channel.flight.isSome && s.channel.flight.isNone && s.channel.assembler.inField) =
        s.channel.echo := by simp [hf]
    simp only [withdraw, State.onChannel, hqueue, hflight, hecho]

theorem isClaimFor_eq_false {n : Nat} {q : Queued} (h : ∀ i k m, q.payload ≠ .claim n i k m) :
    isClaimFor n q = false := by
  rw [← Bool.not_eq_true, isClaimFor_iff]
  rintro ⟨i, k, m, hp⟩
  exact h i k m hp

/-- A claim whose frame the queue does not take ends STALE at once (R75, R78). -/
theorem newClaim_stale (n : Nat) (i : Intent) (urgency rank : Nat) (s : State) (hon : s.station.state ≠ .offline)
    (hfull : 8 ≤ s.channel.queue.length) (hq : s.QueueInOrder)
    (hnone : ∀ q ∈ s.channel.queue, q.priority ≤ 3 ∨ s.channel.flight.map (·.entry) = some q.entry)
    (hclaim : ∀ q ∈ s.channel.queue, ∀ j k m, q.payload ≠ .claim n j k m)
    (hown : s.claims.own.find? (·.segment == n) = none) :
    newClaim n i urgency rank s = { s with
      channel := { s.channel with unheardCount := quietCount s.channel.unheardCount }
      host := { s.host with events := s.withEvents [.claim n i rank .stale false none] } } := by
  have hpriority : (Payload.claim n (intentCode i) rank 0).priority = 3 := rfl
  rw [newClaim_eq, queueFrame_refused _ _ (s.claimed _) hon hfull (by rw [hpriority]; exact hnone)]
  have hrecord : (noteOutcome (s.claimed ⟨n, i, urgency, rank, .queued, .new, none, false, 0⟩)).ownClaim? n =
      some ⟨n, i, urgency, rank, .queued, .new, none, false, 0⟩ :=
    claimed_ownClaim s ⟨n, i, urgency, rank, .queued, .new, none, false, 0⟩ hown
  have hkept := claimed_filter s ⟨n, i, urgency, rank, .queued, .new, none, false, 0⟩ hown
  have hchannel := withdraw_nothing (isClaimFor n)
    (noteOutcome (s.claimed ⟨n, i, urgency, rank, .queued, .new, none, false, 0⟩)) hq
    fun q hmem => isClaimFor_eq_false (hclaim q hmem)
  show endOwn n .stale none (noteOutcome _) = _
  rw [endOwn_eq hrecord, hchannel]
  simp only [noteOutcome_eq, hkept]
  simp [occupied_eq, State.claimed, State.withEvents]

/-- Settles O43. -/
theorem requestClaimRanksAndQueues : Obligations.RequestClaimRanksAndQueues := by
  intro n code urgency s hactive hsel hleave
  have hexec := exec_requestClaim n code urgency s hactive hsel hleave
  have hon : s.station.state ≠ .offline := by rw [hactive]; decide
  refine ⟨fun hbad => ?_, fun i rank hlow hhigh hcode hrank => ⟨fun r hr => ?_, fun hnone => ⟨fun hfull => ?_,
    fun hroom htells => ?_, fun hroom hclear => ⟨fun hqueue => ?_, fun hqueue hq hpriority hclaims => ?_⟩⟩⟩⟩
  · rw [hexec]
    have hout : within 1 4000 n = false ∨ intentOf code = none := by
      rcases hbad with h | h | h
      · exact .inl ((within_false_iff ..).2 (by omega))
      · exact .inl ((within_false_iff ..).2 (by omega))
      · exact .inr (intentOf_eq_none h)
    rcases hout with h | h <;> rw [h]
    cases within 1 4000 n <;> rfl
  all_goals
    have hwithin : within 1 4000 n = true := (within_iff ..).2 ⟨hlow, hhigh⟩
    have hrank : claimRank (min 3 urgency) i s.claims.deferrals = rank := hrank.symm
    rw [hwithin, hcode] at hexec
    dsimp only at hexec
    rw [hrank] at hexec
  · rw [show s.ownClaim? n = some r from hr] at hexec
    exact hexec
  all_goals
    rw [show s.ownClaim? n = none from hnone] at hexec
    dsimp only at hexec
  · rw [hexec, if_pos hfull]
  · obtain ⟨v, hview, hv, hleast⟩ := strongerView_some htells
    refine ⟨v, hv, hleast, ?_⟩
    rw [hexec, if_neg (by omega), hview]
    simp only [denyAtOnce, post_events]
    rfl
  · rw [if_neg (by omega), strongerView_none hclear] at hexec
    have hspace : (s.claimed ⟨n, i, min 3 urgency, rank, .queued, .new, none, false, 0⟩).hasRoom := ⟨hon, hqueue⟩
    have hrecord : (newClaim n i (min 3 urgency) rank s).ownClaim? n =
        some ⟨n, i, min 3 urgency, rank, .queued, .new, none, false, 0⟩ := by
      rw [newClaim_eq, queueFrame_room _ _ _ hspace]
      exact claimed_ownClaim s ⟨n, i, min 3 urgency, rank, .queued, .new, none, false, 0⟩ hnone
    have hqueued := queueFrame_queues .claims (.claim n (intentCode i) rank 0) _ hspace
    have ⟨⟨before, behind, _, hjoined, _, _⟩, _⟩ := hqueued
    dsimp only at hexec
    rw [hrecord] at hexec
    refine ⟨_, hexec, ?_, hqueued, ⟨.claim n (intentCode i) rank 0, 3, .claims, 0, s.channel.nextEntry⟩, ?_, rfl, rfl⟩
    · rw [newClaim_eq, queueFrame_shape _ _ _ hspace]
      rfl
    · refine (congrArg (_ ∈ ·) hjoined).mpr (List.mem_append_right _ ?_)
      exact List.mem_cons_self
  · rw [if_neg (by omega), strongerView_none hclear] at hexec
    dsimp only at hexec
    rw [newClaim_stale n i (min 3 urgency) rank s hon hqueue hq hpriority hclaims hnone] at hexec
    rw [hexec]
    simp only [State.ownClaim?, hnone, ok_eq_answered]
    rfl

/-! ### RELEASE_CLAIM (R92, R93) -/

/-- RELEASE_CLAIM as it is taken in ACTIVE and SILENT (R92, R187). -/
theorem exec_releaseClaim (n : Nat) (s : State) (hstate : s.station.state = .active ∨ s.station.state = .silent)
    (hsel : s.host.heldSel = false) : exec (.releaseClaim n) s =
      match s.ownClaim? n with
      | none => .next (s.answered [0x06])
      | some r =>
        match r.state with
        | .queued => .next (endOfStep (ok [0] (endOwn n .released none s)))
        | .contesting => .next (endOfStep (ok [1] (updateOwn n (fun x => { x with releasePending := true }) s)))
        | .holding =>
          if s.occupied r then .next (s.answered [0x07]) else .next (endOfStep (ok [0] (releaseHeld n s))) := by
  show execReleaseClaim n s = _
  rw [execReleaseClaim, whenTaken_taken _ _ hsel, if_neg (not_not.2 hstate)]
  rfl

/-- What a withdrawal may change in the channel controller (R25). -/
theorem withdraw_shape (p : Queued → Bool) (s : State) : withdraw p s = { s with
    channel := { s.channel with
      queue := (withdraw p s).channel.queue, flight := (withdraw p s).channel.flight
      echo := (withdraw p s).channel.echo } } := rfl

theorem mem_withdraw_claims (n : Nat) (s : State) (q : Queued) : q ∈ (withdraw (isClaimFor n) s).channel.queue ↔
    q ∈ s.channel.queue ∧ ∀ i k m, q.payload ≠ .claim n i k m := by
  have hqueue : (withdraw (isClaimFor n) s).channel.queue = s.channel.queue.filter fun q => !isClaimFor n q := rfl
  rw [hqueue, List.mem_filter, Bool.not_eq_true', ← Bool.not_eq_true, isClaimFor_iff]
  simp only [not_exists, ne_eq]

theorem inField_eq (a : Assembler) : a.inField = (a == .gap || a == .response) := by
  cases a <;> rfl

/-- A withdrawn frame in flight, in the terms of the statements (R11, R25). -/
theorem withdraw_flightWithdrawn (p : Queued → Bool) (s : State) {f : Flight} {q : Queued} (hq : s.QueueInOrder)
    (hflying : s.Flying f q) : s.FlightWithdrawn f (p q = true) (withdraw p s) := by
  rw [withdraw_flying p s f q hflying hq]
  refine ⟨fun hgone => ?_, fun hkept => ?_⟩
  · simp [hgone, inField_eq, Bool.or_assoc]
  · simp [hkept]

/-- A frame that joins the queue leaves every frame that stood in it (R22). -/
theorem mem_queueFrame_room {b : Block} {p : Payload} {s : State} (hroom : s.hasRoom) {q : Queued}
    (hq : q ∈ (queueFrame b p s).channel.queue) : q ∈ s.channel.queue ∨ q.payload = p := by
  obtain ⟨⟨before, behind, hqueue, hjoined, -, -⟩, -⟩ := queueFrame_queues b p s hroom
  rw [hjoined] at hq
  rw [hqueue]
  rcases List.mem_append.1 hq with hq | hq
  · exact .inl (List.mem_append_left _ hq)
  · rcases List.mem_cons.1 hq with rfl | hq
    · exact .inr rfl
    · exact .inl (List.mem_append_right _ hq)

theorem withdraw_hasRoom {p : Queued → Bool} {s : State} (hroom : s.hasRoom) : (withdraw p s).hasRoom :=
  ⟨hroom.1, (List.length_filter_le _ _).trans_lt hroom.2⟩

/-- The release of a HOLDING record where the queue has room (R93): the RELEASE frame waits, the record and its CLAIM
frames are gone. -/
theorem releaseHeld_room {n : Nat} {r : OwnClaim} {s : State} (hr : s.ownClaim? n = some r) (hroom : s.hasRoom) :
    releaseHeld n s = { s with
      channel := (releaseHeld n s).channel
      claims := { s.claims with own := s.claims.own.filter fun x => !(x.segment == n) }
      host := { s.host with events := s.withEvents [.claim n r.intent r.rank .released (s.occupied r) none] } } ∧
    (∃ q ∈ (releaseHeld n s).channel.queue, q.payload = .release n ∧ q.age = 0 ∧ q.owner = .claims) ∧
    ∀ q ∈ (releaseHeld n s).channel.queue, ∀ i k m, q.payload ≠ .claim n i k m := by
  have hspace : (withdraw (isClaimFor n) s).hasRoom := withdraw_hasRoom hroom
  have hrecord : (queueFrame .claims (.release n) (withdraw (isClaimFor n) s)).ownClaim? n = some r := by
    rw [queueFrame_shape _ _ _ hspace]
    exact hr
  have hheld := endOwn_eq hrecord .released none
  change releaseHeld n s = _ at hheld
  refine ⟨?_, ?_, ?_⟩
  · conv_lhs => rw [hheld, queueFrame_shape _ _ _ hspace]
    rw [hheld, queueFrame_shape _ _ _ hspace]
    rfl
  · rw [hheld]
    obtain ⟨q, hq, hpayload, hage, howner⟩ := queueFrame_waits .claims (.release n) _ hspace
    refine ⟨q, (mem_withdraw_claims n _ q).2 ⟨hq, fun i k m => ?_⟩, hpayload, hage, howner⟩
    rw [hpayload]
    exact nofun
  · rw [hheld]
    exact withdraw_no_claim n _

/-- Settles O44. -/
theorem releaseClaimByState : Obligations.ReleaseClaimByState := by
  intro n s hstate hsel
  have hexec := exec_releaseClaim n s hstate hsel
  refine ⟨fun hnone => ?_, fun r hr => ?_⟩
  · rw [hexec, show s.ownClaim? n = none from hnone]
  · have hr : s.ownClaim? n = some r := hr
    have hsegment : r.segment = n := by simpa using List.find?_some hr
    rw [hr] at hexec
    dsimp only at hexec
    refine ⟨fun hqueued => ?_, fun hcontesting => ?_, fun hholding hcurrent hmoving => ?_, fun hholding hfree hroom => ?_⟩
    · rw [hqueued] at hexec
      have hfree : s.occupied r = false := by simp [occupied_eq, hqueued]
      rw [endOwn_eq hr, hfree] at hexec
      refine ⟨_, hexec, ?_, mem_withdraw_claims n s, fun hground => ?_, fun f q hq hflying => ?_⟩
      · rw [withdraw_shape]
        rfl
      · rw [withdraw_grounded _ s hground]
        exact ⟨hground, rfl⟩
      · have hwithdrawn := withdraw_flightWithdrawn (isClaimFor n) s hq hflying
        rw [isClaimFor_iff] at hwithdrawn
        exact hwithdrawn
    · rw [hexec, hcontesting, updateOwn_eq]
      rfl
    · have hoccupied : s.occupied r = true := by simp [occupied_eq, hholding, hcurrent, hmoving, hsegment]
      rw [hexec, hholding, hoccupied]
      rfl
    · have hoccupied : s.occupied r = false := by
        rw [occupied_eq, decide_eq_false_iff_not, hsegment]
        rintro ⟨-, hcurrent, hmoving⟩
        exact hfree.elim (· hcurrent) hmoving
      have hon : s.station.state ≠ .offline := by rcases hstate with h | h <;> rw [h] <;> decide
      obtain ⟨hshape, hframe, hgone⟩ := releaseHeld_room hr ⟨hon, hroom⟩
      rw [hholding, hoccupied] at hexec
      refine ⟨_, hexec, ?_, hframe, hgone⟩
      rw [hshape, hoccupied]
      rfl

end Sys2Proof.Machine

/-! ## Responses in the gap (R19, R80, R81, R175, R176; O45) -/

namespace Sys2Proof.Machine

theorem exec_objection (sender n code rank mode : Nat) (s : State) : exec (.objection sender n code rank mode) s =
    inGap sender ((claimSound n code rank mode).bind (s.objection? n)) s := rfl

theorem exec_acknowledgement (sender origin seq code n cell hop distance detail : Nat) (s : State) :
    exec (.acknowledgement sender origin seq code n cell hop distance detail) s = inGap sender
      (if calloutSound origin code n cell hop distance then s.acknowledgement? origin seq hop distance else none) s := rfl

/-! ### The gap (R3, R10, R19) -/

theorem inGap_off (sender : Nat) (value : Option Nat) (s : State)
    (h : s.station.state = .offline ∨ sender = 0 ∨ 254 < sender) : inGap sender value s = .next s := by
  refine if_neg fun ⟨hon, hsender⟩ => ?_
  obtain ⟨hlow, hhigh⟩ := (within_iff ..).1 hsender
  rcases h with h | h | h
  · simp [State.receiverOn, h] at hon
  · omega
  · omega

theorem mayRespond_iff (s : State) : s.mayRespond = true ↔
    s.station.state = .active ∧ s.channel.condition ≠ .jammed ∧ s.channel.seizeLeft = 0 := by
  simp [State.mayRespond, and_assoc]

/-- The gap as it begins at a hearer, with the value that it is to key (R19). -/
theorem inGap_on (sender : Nat) (value keyed : Option Nat) (s : State) (hon : s.station.state ≠ .offline)
    (hlow : 1 ≤ sender) (hhigh : sender ≤ 254)
    (hkeyed : (s.station.state = .active ∧ s.channel.condition ≠ .jammed ∧ s.channel.seizeLeft = 0 ∧
        keyed = if sender = s.station.config.station then none else value) ∨
      ((s.station.state ≠ .active ∨ s.channel.condition = .jammed ∨ s.channel.seizeLeft ≠ 0) ∧ keyed = none)) :
    inGap sender value s = .next { s with channel := { s.channel with
      condition := if s.channel.condition = .jammed then .jammed else .busy, idleCount := 0, assembler := .gap,
      symbol := 0, response := keyed, echo := false, abandoned := none
      run := if s.channel.seizeLeft = 0 then 0 else s.channel.run
      runCounted := s.channel.seizeLeft != 0 && s.channel.runCounted } } := by
  have hvalue : (if s.mayRespond then (if sender = s.station.config.station then none else value) else none) = keyed := by
    rcases hkeyed with ⟨hactive, hjam, hseize, hkeyed⟩ | ⟨hbar, hkeyed⟩
    · rw [if_pos ((mayRespond_iff s).2 ⟨hactive, hjam, hseize⟩), hkeyed]
    · rw [hkeyed]
      refine if_neg fun hmay => ?_
      obtain ⟨hactive, hjam, hseize⟩ := (mayRespond_iff s).1 hmay
      rcases hbar with hbar | hbar | hbar
      · exact hbar hactive
      · exact hjam hbar
      · exact hbar hseize
  rw [inGap, if_pos ⟨receiverOn_eq_true hon, (within_iff ..).2 ⟨hlow, hhigh⟩⟩]
  show Host.Outcome.next (s.onChannel (Channel.gapBegins _)) = _
  rw [onChannel_eq, Channel.gapBegins, Channel.broken_eq]
  subst hvalue
  rfl

/-! ### The value of an objection (R80, R81) -/

/-- The fields of a CLAIM frame are sound in their ranges (R80). -/
theorem claimSound_some {n code rank mode : Nat} {i : Intent} (hn : 1 ≤ n ∧ n ≤ 4000) (hrank : 1 ≤ rank ∧ rank ≤ 240)
    (hmode : mode ≤ 1) (hcode : intentOf code = some i) : claimSound n code rank mode = some i := by
  have hrange : (within 1 Config.maxSegment n && within 1 240 rank && decide (mode ≤ 1)) = true := by
    simp [Config.maxSegment, hn, hrank, hmode]
  rw [claimSound, hrange, if_pos rfl, hcode]

theorem claimSound_none {n code rank mode : Nat}
    (h : n = 0 ∨ 4000 < n ∨ intentOf code = none ∨ rank = 0 ∨ 240 < rank ∨ 1 < mode) :
    claimSound n code rank mode = none := by
  unfold claimSound
  split
  · next hrange =>
    simp only [Bool.and_eq_true, within_iff, decide_eq_true_eq, Config.maxSegment] at hrange
    rcases h with h | h | h | h | h | h
    · omega
    · omega
    · exact h
    all_goals omega
  · rfl

theorem objection_conflict {s : State} {n : Nat} {i : Intent} {r : OwnClaim}
    (hr : s.claims.own.find? (·.segment == n) = some r) (hconflict : conflicts r.intent i = true) :
    s.objection? n i = some ((if r.state = .holding ∧ s.odo.entry.map (·.segment) = some r.segment ∧
      s.motion.state ≠ .idle then 0 else r.rank) * 256 + s.station.config.station) := by
  rw [State.objection?, show s.ownClaim? n = some r from hr]
  simp only [hconflict, if_true, occupied_eq, claimValue, decide_eq_true_eq]
  rfl

theorem objection_none {s : State} {n : Nat} {i : Intent}
    (h : ∀ r, s.claims.own.find? (·.segment == n) = some r → conflicts r.intent i = false) : s.objection? n i = none := by
  rw [State.objection?]
  cases hr : s.ownClaim? n with
  | none => rfl
  | some r => simp [h r hr]

/-! ### The value of an acknowledgement (R175, R176) -/

theorem calloutSound_iff (origin code n cell hop distance : Nat) : calloutSound origin code n cell hop distance = true ↔
    (1 ≤ origin ∧ origin ≤ 254) ∧ (1 ≤ code ∧ code ≤ 8) ∧ n ≤ 4000 ∧ cell ≤ 63 ∧ hop ≤ 15 ∧ distance ≤ 15 := by
  simp only [calloutSound, Bool.and_eq_true, within_iff, decide_eq_true_eq, and_assoc]
  exact Iff.rfl

theorem knowsPair_iff (s : State) (origin seq : Nat) : s.knowsPair origin seq = true ↔
    (∃ e ∈ s.callout.relay, e.origin = origin ∧ e.seq = seq) ∨ ∃ p ∈ s.callout.recent, p.origin = origin ∧ p.seq = seq := by
  simp [State.knowsPair, RelayEntry.isPair, RecentPair.isPair]

theorem canAccept_iff (s : State) (origin seq : Nat) : s.canAccept origin seq = true ↔
    s.isDepot = true ∨ s.callout.relay.length < 8 ∨ (∃ e ∈ s.callout.relay, e.origin = origin ∧ e.seq = seq) ∨
      ∃ p ∈ s.callout.recent, p.origin = origin ∧ p.seq = seq := by
  rw [State.canAccept, Bool.or_eq_true, Bool.or_eq_true, knowsPair_iff, decide_eq_true_iff]
  rw [or_right_comm, or_assoc]
  exact Iff.rfl

theorem working_iff (s : State) : s.working = true ↔ s.station.state = .active ∧ s.station.leavePending = false := by
  simp [State.working]

theorem acknowledgement_none {s : State} {origin seq code n cell hop distance : Nat}
    (h : origin = 0 ∨ 254 < origin ∨ code = 0 ∨ 8 < code ∨ 4000 < n ∨ 63 < cell ∨ 12 ≤ hop ∨ 15 < distance ∨
      s.station.leavePending = true ∨ distance ≤ s.station.distance ∨ 15 ≤ s.station.distance ∨
      origin = s.station.config.station ∨
      (s.isDepot = false ∧ 8 ≤ s.callout.relay.length ∧
        (∀ e ∈ s.callout.relay, ¬ (e.origin = origin ∧ e.seq = seq)) ∧
        ∀ p ∈ s.callout.recent, ¬ (p.origin = origin ∧ p.seq = seq))) :
    (if calloutSound origin code n cell hop distance then s.acknowledgement? origin seq hop distance else none) = none := by
  split
  · next hsound =>
    obtain ⟨⟨_, _⟩, ⟨_, _⟩, _, _, _, _⟩ := (calloutSound_iff ..).1 hsound
    refine if_neg fun ⟨hworking, hnear, hdistance, hhop, horigin, haccept⟩ => ?_
    simp only [Config.hopLimit] at hhop
    obtain ⟨-, hleave⟩ := (working_iff s).1 hworking
    rcases h with h | h | h | h | h | h | h | h | h | h | h | h | ⟨hdepot, hfull, hrelay, hrecent⟩
    iterate 8 omega
    · rw [hleave] at h
      exact absurd h (by decide)
    iterate 2 omega
    · exact horigin h
    · rcases (canAccept_iff s origin seq).1 haccept with h | h | ⟨e, hmem, he⟩ | ⟨p, hmem, hp⟩
      · rw [hdepot] at h
        exact absurd h (by decide)
      · omega
      · exact hrelay e hmem he
      · exact hrecent p hmem hp
  · rfl

/-- Settles O45. -/
theorem responsesInTheGap : Obligations.ResponsesInTheGap := by
  intro c sender s hkind
  refine ⟨fun hoff => ?_, fun value hon hlow hhigh hvalue keyed hkeyed => ?_⟩
  · rcases hkind with ⟨n, code, rank, mode, rfl⟩ | ⟨origin, seq, code, n, cell, hop, distance, detail, rfl⟩
    · exact inGap_off _ _ s hoff
    · exact inGap_off _ _ s hoff
  · have hgap (v : Option Nat)
        (hv : s.station.state = .active → (if sender = s.station.config.station then none else v) = value) :=
      inGap_on sender v keyed s hon hlow hhigh (hkeyed.imp_left fun ⟨hactive, hjam, hseize, hsame⟩ =>
        ⟨hactive, hjam, hseize, hsame.trans (hv hactive).symm⟩)
    rcases hvalue with ⟨hown, rfl⟩ | ⟨n, code, i, rank, mode, r, rfl, hother, hn, hn', hrank, hrank', hmode, hcode, hr,
        hconflict, hval⟩ | ⟨n, code, rank, mode, rfl, rfl, hbad⟩ | ⟨origin, seq, code, n, cell, hop, distance, detail, rfl,
        hother, ho, ho', hcode, hcode', hn, hcell, hhop, hdistance, hleave, hnear, horigin, haccept, rfl⟩ |
        ⟨origin, seq, code, n, cell, hop, distance, detail, rfl, rfl, hbad⟩
    · rcases hkind with ⟨n, code, rank, mode, rfl⟩ | ⟨origin, seq, code, n, cell, hop, distance, detail, rfl⟩
      · exact hgap _ fun _ => if_pos hown
      · exact hgap _ fun _ => if_pos hown
    · rw [exec_objection, claimSound_some ⟨hn, hn'⟩ ⟨hrank, hrank'⟩ hmode hcode]
      refine hgap _ fun _ => ?_
      rw [if_neg hother, Option.bind_some, objection_conflict hr hconflict, hval]
    · rw [exec_objection]
      refine hgap _ fun _ => ?_
      have hnone : (claimSound n code rank mode).bind (s.objection? n) = none := by
        rw [Option.bind_eq_none_iff]
        intro i hi
        by_cases hout : n = 0 ∨ 4000 < n ∨ intentOf code = none ∨ rank = 0 ∨ 240 < rank ∨ 1 < mode
        · rw [claimSound_none hout] at hi
          cases hi
        · have h := hbad.resolve_left (by omega)
          have h := (((h.resolve_left (by omega)).resolve_left (by omega)).resolve_left (by omega)).resolve_left (by omega)
          have h := h.resolve_left fun hcode => hout (.inr (.inr (.inl (intentOf_eq_none hcode))))
          refine objection_none fun r hr => h i r ?_ hr
          unfold claimSound at hi
          split at hi
          · exact hi
          · cases hi
      rw [hnone, ite_self]
    · have hsound : calloutSound origin code n cell hop distance = true :=
        (calloutSound_iff ..).2 ⟨⟨ho, ho'⟩, ⟨hcode, hcode'⟩, hn, hcell, by omega, hdistance⟩
      rw [exec_acknowledgement, if_pos hsound]
      refine hgap _ fun hactive => ?_
      rw [if_neg hother]
      exact if_pos ⟨(working_iff s).2 ⟨hactive, hleave⟩, hnear, by omega, hhop, horigin,
        (canAccept_iff s origin seq).2 haccept⟩
    · rw [exec_acknowledgement, acknowledgement_none hbad]
      exact hgap _ fun _ => ite_self _

end Sys2Proof.Machine

/-! ## Claims of other stations (R18, R20, R80 to R83, R89, R90; O46) -/

namespace Sys2Proof.Machine

theorem exec_release (sender n : Nat) (s : State) :
    exec (.release sender n) s = .next (endOfStep (receive sender (hearRelease sender n) s)) := rfl

theorem exec_claim (sender n code rank mode sensed : Nat) (s : State) : exec (.claim sender n code rank mode sensed) s =
    .next (endOfStep (receive sender (hearClaim sender n code rank mode sensed) s)) := rfl

/-! ### The view (R82, R89) -/

/-- The view entries that a standing claim leaves beside its own (R82). -/
def viewKept (n sender : Nat) (i : Intent) (view : List ViewEntry) : List ViewEntry :=
  view.filter fun v => !(v.segment == n && (v.holder == sender || conflicts v.intent i))

theorem standingView_room {now n sender rank : Nat} {i : Intent} {view : List ViewEntry}
    (h : (viewKept n sender i view).length < 32 ∨ ∃ v ∈ view, v.segment = n ∧ v.holder = sender) :
    standingView now n sender i rank view = viewKept n sender i view ++ [⟨n, sender, i, rank, now + 60⟩] := by
  rw [standingView, if_neg]
  · rfl
  · rintro ⟨hnew, hfull⟩
    rcases h with h | ⟨v, hmem, hv⟩
    · exact absurd h (Nat.not_lt.2 hfull)
    · have hnew := by simpa using hnew
      exact hnew v hmem hv.1 hv.2

/-- The entry given up is the one with the least key, of several the one that stands first. -/
theorem dropEarliest_split {α : Type} (key : α → Nat) (l l' : List α) (x : α) (hbefore : ∀ y ∈ l, key x < key y)
    (hafter : ∀ y ∈ l', key x ≤ key y) : dropEarliest key (l ++ x :: l') = l ++ l' := by
  have hmin : ((l ++ x :: l').map key).min? = some (key x) := by
    refine List.min?_eq_some_iff.2 ⟨by simp, fun m hm => ?_⟩
    obtain ⟨y, hy, rfl⟩ := List.mem_map.1 hm
    rcases List.mem_append.1 hy with hy | hy
    · exact (hbefore y hy).le
    · rcases List.mem_cons.1 hy with rfl | hy
      · exact le_rfl
      · exact hafter y hy
  simp only [dropEarliest, hmin]
  rw [List.eraseP_append_right _ (by
    intro y hy
    have := hbefore y hy
    simp only [beq_iff_eq]
    omega)]
  simp

theorem standingView_full {now n sender rank : Nat} {i : Intent} {view l l' : List ViewEntry} {v : ViewEntry}
    (hnew : ∀ v ∈ view, ¬ (v.segment = n ∧ v.holder = sender)) (hfull : 32 ≤ (viewKept n sender i view).length)
    (hkept : viewKept n sender i view = l ++ v :: l') (hbefore : ∀ x ∈ l, v.expiry < x.expiry)
    (hafter : ∀ x ∈ l', v.expiry ≤ x.expiry) :
    standingView now n sender i rank view = l ++ l' ++ [⟨n, sender, i, rank, now + 60⟩] := by
  have hunknown : (!view.any fun v => v.segment == n && v.holder == sender) = true := by simpa using hnew
  rw [standingView, if_pos ⟨hunknown, hfull⟩, ← dropEarliest_split (·.expiry) l l' v hbefore hafter, ← hkept]
  rfl

/-! ### The own record (R83) -/

theorem meetStanding_unmoved {n holder rank : Nat} {i : Intent} {s : State}
    (h : ∀ r, s.claims.own.find? (·.segment == n) = some r → conflicts r.intent i = false ∨
      (r.state = .holding ∧ s.odo.entry.map (·.segment) = some n ∧ s.motion.state ≠ .idle)) :
    meetStanding n holder i rank s = s := by
  unfold meetStanding
  cases hr : s.ownClaim? n with
  | none => rfl
  | some r =>
    have hsegment : r.segment = n := by simpa using List.find?_some hr
    rcases h r hr with hfree | hoccupied
    · simp [hfree]
    · have hocc : s.occupied r = true := by rw [occupied_eq, hsegment]; exact decide_eq_true hoccupied
      simp [hoccupied.1, hocc]

theorem meetStanding_denied {n holder rank : Nat} {i : Intent} {s : State} {r : OwnClaim} (hr : s.ownClaim? n = some r)
    (hconflict : conflicts r.intent i = true) (hstate : r.state ≠ .holding) :
    meetStanding n holder i rank s = endOwn n .denied (some (holder, rank)) s := by
  rw [meetStanding, hr]
  simp only [hconflict, if_true]

theorem meetStanding_yielded {n holder rank : Nat} {i : Intent} {s : State} {r : OwnClaim} (hr : s.ownClaim? n = some r)
    (hconflict : conflicts r.intent i = true) (hstate : r.state = .holding)
    (hfree : s.odo.entry.map (·.segment) ≠ some n ∨ s.motion.state = .idle) :
    meetStanding n holder i rank s = endOwn n .yielded (some (holder, rank)) s := by
  have hsegment : r.segment = n := by simpa using List.find?_some hr
  have hocc : s.occupied r = false := by
    rw [occupied_eq, decide_eq_false_iff_not, hsegment]
    rintro ⟨-, hcurrent, hmoving⟩
    exact hfree.elim (· hcurrent) hmoving
  rw [meetStanding, hr]
  simp only [hconflict, if_true, hstate, hocc]
  refine (if_neg Bool.false_ne_true).trans (if_neg ?_)
  rintro ⟨-, -, hcurrent, hmoving⟩
  exact hfree.elim (· hcurrent) hmoving

/-- The three outcomes at the own record of the segment (R83). -/
theorem meetStanding_cases (n holder rank : Nat) (i : Intent) (s : State) :
    (meetStanding n holder i rank s = s ∧ ∀ r, s.ownClaim? n = some r → conflicts r.intent i = true →
      r.state = .holding ∧ s.odo.entry.map (·.segment) = some n ∧ s.motion.state ≠ .idle) ∨
    ∃ r change, s.ownClaim? n = some r ∧ conflicts r.intent i = true ∧
      meetStanding n holder i rank s = endOwn n change (some (holder, rank)) s ∧
      ((r.state ≠ .holding ∧ change = .denied) ∨
        (r.state = .holding ∧ (s.odo.entry.map (·.segment) ≠ some n ∨ s.motion.state = .idle) ∧ change = .yielded)) := by
  cases hr : s.ownClaim? n with
  | none => exact .inl ⟨meetStanding_unmoved fun r h => absurd (hr.symm.trans h) (by simp), fun r h => by cases h⟩
  | some r =>
    cases hconflict : conflicts r.intent i with
    | false =>
      refine .inl ⟨meetStanding_unmoved fun x hx => .inl ?_, fun x hx hxc => ?_⟩
      · obtain rfl : r = x := by simpa using hr.symm.trans hx
        exact hconflict
      · obtain rfl : r = x := by simpa using hx
        rw [hconflict] at hxc
        cases hxc
    | true =>
      by_cases hstate : r.state = .holding
      · by_cases hfree : s.odo.entry.map (·.segment) ≠ some n ∨ s.motion.state = .idle
        · exact .inr ⟨r, .yielded, rfl, hconflict, meetStanding_yielded hr hconflict hstate hfree,
            .inr ⟨hstate, hfree, rfl⟩⟩
        · obtain ⟨hcurrent, hmoving⟩ := not_or.1 hfree
          have hoccupied := And.intro hstate (And.intro (not_not.1 hcurrent) hmoving)
          refine .inl ⟨meetStanding_unmoved fun x hx => .inr ?_, fun x hx _ => ?_⟩
          · obtain rfl : r = x := by simpa using hr.symm.trans hx
            exact hoccupied
          · obtain rfl : r = x := by simpa using hx
            exact hoccupied
      · exact .inr ⟨r, .denied, rfl, hconflict, meetStanding_denied hr hconflict hstate, .inl ⟨hstate, rfl⟩⟩

/-! ### A claim heard -/

/-- The block after the view has taken a standing claim (R82). -/
def State.viewing (s : State) (view : List ViewEntry) : State := { s with claims := { s.claims with view := view } }

theorem hearClaim_ignored {sender n code rank mode sensed : Nat} {s : State}
    (h : claimSound n code rank mode = none ∨ sensed ≤ rank * 256 + sender ∨ s.channel.takesNothing sensed = true) :
    hearClaim sender n code rank mode sensed s = s := by
  unfold hearClaim
  split
  · rfl
  · next i hi =>
    refine if_neg fun ⟨hless, htakes⟩ => ?_
    rcases h with h | h | h
    · rw [hi] at h
      cases h
    · exact absurd h (Nat.not_le.2 hless)
    · rw [h] at htakes
      exact absurd htakes (by decide)

theorem hearClaim_stands {sender n code rank mode sensed : Nat} {i : Intent} {s : State}
    (hsound : claimSound n code rank mode = some i) (hless : rank * 256 + sender < sensed)
    (htakes : s.channel.takesNothing sensed = false) : hearClaim sender n code rank mode sensed s =
      meetStanding n sender i rank (s.viewing (standingView s.station.clock n sender i rank s.claims.view)) := by
  simp only [hearClaim, hsound, htakes]
  exact if_pos ⟨hless, rfl⟩

theorem endOwn_view (n : Nat) (change : ClaimChange) (stronger : Option (Nat × Nat)) (s : State) :
    (endOwn n change stronger s).claims.view = s.claims.view := by
  cases hr : s.ownClaim? n with
  | none => rw [endOwn_none hr]
  | some r => rw [endOwn_eq hr]

theorem meetStanding_view (n holder rank : Nat) (i : Intent) (s : State) :
    (meetStanding n holder i rank s).claims.view = s.claims.view := by
  rcases meetStanding_cases n holder rank i s with ⟨hsame, -⟩ | ⟨r, change, -, -, hends, -⟩
  · rw [hsame]
  · rw [hends, endOwn_view]

/-- What the end of the record of a claim does, as the statement puts it (R72, R83). -/
theorem standing_ends {n sender rank : Nat} {i : Intent} {s t : State} (view : List ViewEntry)
    (ht : t = { meetStanding n sender i rank (s.viewing view) with
      channel := (meetStanding n sender i rank (s.viewing view)).channel.frameOver })
    {r : OwnClaim} (hr : s.claims.own.find? (·.segment == n) = some r) (hconflict : conflicts r.intent i = true) :
    t.station = s.station ∧ t.segs = s.segs ∧ t.odo = s.odo ∧ t.group = s.group ∧ t.dosing = s.dosing ∧
      t.callout = s.callout ∧
      ((r.state ≠ .holding ∨ s.odo.entry.map (·.segment) ≠ some n ∨ s.motion.state = .idle) →
        ∀ q, q ∈ t.channel.queue ↔ q ∈ s.channel.queue ∧ ∀ i k m, q.payload ≠ .claim n i k m) ∧
      (r.state ≠ .holding →
        t.claims = { t.claims with
          own := s.claims.own.filter (fun x => !(x.segment == n)), deferrals := min 255 (s.claims.deferrals + 1) } ∧
        t.host = { s.host with
          events := s.withEvents [.claim n r.intent r.rank .denied false (some (sender, rank))] } ∧
        t.motion = s.motion) ∧
      (r.state = .holding → (s.odo.entry.map (·.segment) ≠ some n ∨ s.motion.state = .idle) →
        t.claims = { t.claims with
          own := s.claims.own.filter (fun x => !(x.segment == n)), deferrals := s.claims.deferrals } ∧
        t.host = { s.host with
          events := s.withEvents [.claim n r.intent r.rank .yielded false (some (sender, rank))] } ∧
        t.motion = s.motion) := by
  have hviewed : (s.viewing view).ownClaim? n = some r := hr
  have hsegment : r.segment = n := by simpa using List.find?_some hr
  rcases meetStanding_cases n sender rank i (s.viewing view) with
    ⟨hsame, hoccupied⟩ | ⟨x, change, hx, -, hends, hcase⟩
  · obtain ⟨hholding, hcurrent, hmoving⟩ := hoccupied r hviewed hconflict
    rw [hsame] at ht
    subst ht
    refine ⟨rfl, rfl, rfl, rfl, rfl, rfl, fun h => ?_, fun h => absurd hholding h, fun _ h => ?_⟩
    · exact absurd (h.resolve_left (not_not.2 hholding)) (not_or.2 ⟨not_not.2 hcurrent, hmoving⟩)
    · exact absurd h (not_or.2 ⟨not_not.2 hcurrent, hmoving⟩)
  · obtain rfl : r = x := by simpa using hviewed.symm.trans hx
    rw [hends, endOwn_eq hviewed] at ht
    subst ht
    refine ⟨rfl, rfl, rfl, rfl, rfl, rfl, fun _ q => ?_, fun hstate => ?_, fun hstate hfree => ?_⟩
    · exact mem_withdraw_claims n (s.viewing view) q
    · obtain ⟨-, rfl⟩ := hcase.resolve_right fun h => hstate h.1
      have hocc : (s.viewing view).occupied r = false := by simp [occupied_eq, hstate]
      rw [hocc]
      exact ⟨rfl, rfl, rfl⟩
    · obtain ⟨-, -, rfl⟩ := hcase.resolve_left fun h => h.1 hstate
      have hocc : (s.viewing view).occupied r = false := by
        rw [occupied_eq, decide_eq_false_iff_not, hsegment]
        rintro ⟨-, hcurrent, hmoving⟩
        exact hfree.elim (· hcurrent) hmoving
      rw [hocc]
      exact ⟨rfl, rfl, rfl⟩

/-- Settles O46. -/
theorem otherStationsClaims : Obligations.OtherStationsClaims := by
  intro sender n s hdelivers
  have hclaim (code rank mode sensed : Nat) : exec (.claim sender n code rank mode sensed) s =
      .next (endOfStep { hearClaim sender n code rank mode sensed s with
        channel := (hearClaim sender n code rank mode sensed s).channel.frameOver }) := by
    rw [exec_claim, receive_delivers _ _ s hdelivers]
  have hrelease : exec (.release sender n) s = .next (endOfStep { hearRelease sender n s with
      channel := (hearRelease sender n s).channel.frameOver }) := by
    rw [exec_release, receive_delivers _ _ s hdelivers]
  refine ⟨fun hn => ?_, fun code rank mode sensed hbad => ?_, fun hlow hhigh => ⟨?_,
    fun code rank mode sensed i hcode hrank hrank' hmode => ?_⟩⟩
  · have hout : within 1 Config.maxSegment n = false := (within_false_iff ..).2 (by simp only [Config.maxSegment]; omega)
    rw [hrelease, show hearRelease sender n s = s from if_neg (by rw [hout]; decide)]
  · rw [hclaim, hearClaim_ignored (.inl (claimSound_none hbad))]
  · rw [hrelease, show hearRelease sender n s = forgetView n sender s from if_pos ((within_iff ..).2 ⟨hlow, hhigh⟩)]
    rfl
  · have hsound := claimSound_some ⟨hlow, hhigh⟩ ⟨hrank, hrank'⟩ hmode hcode
    refine ⟨fun hless => ?_, fun a ha hsame => ?_, fun hless hmarks kept hkept => ?_⟩
    · rw [hclaim, hearClaim_ignored (.inr (.inl hless))]
    · rw [hclaim, hearClaim_ignored (.inr (.inr ((takesNothing_iff ..).2 ⟨a, ha, hsame⟩)))]
    · have htakes : s.channel.takesNothing sensed = false := by
        rw [← Bool.not_eq_true, takesNothing_iff]
        rintro ⟨a, ha, hsame⟩
        exact hmarks a ha hsame
      have hkept : kept = viewKept n sender i s.claims.view := hkept
      subst hkept
      have hheard := hearClaim_stands hsound hless htakes
      have hview := meetStanding_view n sender rank i
        (s.viewing (standingView s.station.clock n sender i rank s.claims.view))
      refine ⟨_, by rw [hclaim, hheard], fun hroom => ?_, fun hfull hnew l v l' hsplit hbefore hafter => ?_,
        fun hunmoved => ?_, fun r hr hconflict => standing_ends _ rfl hr hconflict⟩
      · exact hview.trans (standingView_room hroom)
      · exact hview.trans (standingView_full hnew hfull hsplit hbefore hafter)
      · have hsame := meetStanding_unmoved (holder := sender) (rank := rank) (i := i)
          (s := s.viewing (standingView s.station.clock n sender i rank s.claims.view)) hunmoved
        rw [hsame]
        rfl

end Sys2Proof.Machine

/-! ## Fault stops and what they bring with them (R123, R129, R132, R168) -/

namespace Sys2Proof.Machine

/-! ### Events and CLAIM frames through a chain of operations -/

/-- No CLAIM frame of the segment is queued. -/
def State.NoClaimFrame (s : State) (n : Nat) : Prop := ∀ q ∈ s.channel.queue, ∀ i k m, q.payload ≠ .claim n i k m

/-- From `s` to `t` the events `es` have been posted and no CLAIM frame of a segment without one has been queued. -/
structure Brings (s : State) (es : List Event) (t : State) : Prop where
  station : t.station = s.station
  events : t.host.events = s.withEvents es
  frames : ∀ n, s.NoClaimFrame n → t.NoClaimFrame n

theorem Brings.trans {s t u : State} {es es' : List Event} (h : Brings s es t) (k : Brings t es' u) :
    Brings s (es ++ es') u :=
  ⟨k.station.trans h.station, by rw [k.events, withEvents_of_events h.station h.events],
    fun n hn => k.frames n (h.frames n hn)⟩

theorem Brings.same {s t : State} (hstation : t.station = s.station) (hevents : t.host.events = s.host.events)
    (hqueue : ∀ q ∈ t.channel.queue, q ∈ s.channel.queue) : Brings s [] t :=
  ⟨hstation, hevents, fun _ hn q hq => hn q (hqueue q hq)⟩

theorem Brings.refl (s : State) : Brings s [] s := .same rfl rfl fun _ hq => hq

theorem post_brings (e : Event) (s : State) : Brings s [e] (post e s) := by
  rw [post_events]
  exact ⟨rfl, rfl, fun n hn => hn⟩

/-- At most `k` events are posted from `s` to `t`. -/
def BringsAtMost (s : State) (k : Nat) (t : State) : Prop := ∃ es, es.length ≤ k ∧ Brings s es t

theorem BringsAtMost.trans {s t u : State} {j k : Nat} (h : BringsAtMost s j t) (h' : BringsAtMost t k u) :
    BringsAtMost s (j + k) u := by
  obtain ⟨es, hes, hst⟩ := h
  obtain ⟨es', hes', htu⟩ := h'
  exact ⟨es ++ es', by rw [List.length_append]; omega, hst.trans htu⟩

theorem Brings.atMost {s t : State} {es : List Event} (h : Brings s es t) {k : Nat} (hk : es.length ≤ k) :
    BringsAtMost s k t := ⟨es, hk, h⟩

theorem BringsAtMost.mono {s t : State} {j k : Nat} (h : BringsAtMost s j t) (hjk : j ≤ k) : BringsAtMost s k t := by
  obtain ⟨es, hes, hst⟩ := h
  exact ⟨es, hes.trans hjk, hst⟩

theorem BringsAtMost.same {s t : State} (k : Nat) (hstation : t.station = s.station)
    (hevents : t.host.events = s.host.events) (hqueue : ∀ q ∈ t.channel.queue, q ∈ s.channel.queue) :
    BringsAtMost s k t := ⟨[], Nat.zero_le k, .same hstation hevents hqueue⟩

theorem BringsAtMost.one {s t : State} (e : Event) (hstation : t.station = s.station)
    (hevents : t.host.events = s.withEvents [e]) (hqueue : ∀ q ∈ t.channel.queue, q ∈ s.channel.queue) :
    BringsAtMost s 1 t := ⟨[e], le_rfl, hstation, hevents, fun _ hn q hq => hn q (hqueue q hq)⟩

theorem withdraw_brings (p : Queued → Bool) (s : State) : Brings s [] (withdraw p s) :=
  .same rfl rfl fun _ hq => (List.mem_filter.1 (hq : _ ∈ s.channel.queue.filter _)).1

theorem noteOutcome_brings (s : State) : Brings s [] (noteOutcome s) := .same rfl rfl fun _ hq => hq

theorem endOwn_brings (n : Nat) (change : ClaimChange) (stronger : Option (Nat × Nat)) (s : State) :
    BringsAtMost s 1 (endOwn n change stronger s) := by
  cases hr : s.ownClaim? n with
  | none => rw [endOwn_none hr]; exact (Brings.refl s).atMost (by simp)
  | some r =>
    rw [endOwn_eq hr]
    exact .one _ rfl rfl fun q hq => ((mem_withdraw_claims n s q).1 hq).1

theorem updateOwn_brings (n : Nat) (g : OwnClaim → OwnClaim) (s : State) : Brings s [] (updateOwn n g s) :=
  .same rfl rfl fun _ hq => hq

theorem ownAttempt_brings (seq : Nat) (s : State) : BringsAtMost s 1 (ownAttempt seq s) := by
  unfold ownAttempt
  split
  · exact (Brings.refl s).atMost (by simp)
  · split
    · exact .same 1 rfl rfl fun _ hq => hq
    · rw [endCallout_eq]
      exact .one _ rfl rfl fun _ hq => hq

theorem relayAttempt_brings (origin seq : Nat) (s : State) : Brings s [] (relayAttempt origin seq s) := by
  unfold relayAttempt leaveRelay
  split
  · exact .refl s
  · split
    · exact .same rfl rfl fun _ hq => hq
    · split
      · exact .same rfl rfl fun _ hq => hq
      · exact .refl s

theorem calloutAttempt_brings (origin seq : Nat) (s : State) : BringsAtMost s 1 (calloutAttempt origin seq s) := by
  unfold calloutAttempt
  split
  · exact ownAttempt_brings seq s
  · exact (relayAttempt_brings origin seq s).atMost (by simp)

/-- A frame that ends unsent posts one event at most (R26). -/
theorem unsent_brings (p : Payload) (s : State) : BringsAtMost s 1 (unsent p s) := by
  have hnoted := (noteOutcome_brings s).atMost (k := 0) le_rfl
  unfold unsent
  split
  · split
    · exact hnoted.trans (endOwn_brings _ _ _ _)
    · exact (hnoted.trans ((updateOwn_brings _ _ _).atMost (k := 0) le_rfl)).mono (by omega)
  · exact hnoted.trans (calloutAttempt_brings _ _ _)
  · exact hnoted.mono (by omega)

/-- The payload is no CLAIM. -/
def Payload.NoClaim (p : Payload) : Prop := ∀ n i k m, p ≠ .claim n i k m

theorem enterQueue_brings (b : Block) {p : Payload} (hp : p.NoClaim) (s : State) : Brings s [] (enterQueue b p s) := by
  refine ⟨rfl, rfl, fun n hn q hq i k m => ?_⟩
  obtain ⟨before, behind, hqueue, hjoined, -, -⟩ :=
    insertFrame_joins ⟨p, p.priority, b, 0, s.channel.nextEntry⟩ s.channel.queue
  have hq : q ∈ before ++ ⟨p, p.priority, b, 0, s.channel.nextEntry⟩ :: behind := hjoined ▸ hq
  rcases List.mem_append.1 hq with hq | hq
  · exact hn q (hqueue ▸ List.mem_append_left _ hq) i k m
  · rcases List.mem_cons.1 hq with rfl | hq
    · exact hp n i k m
    · exact hn q (hqueue ▸ List.mem_append_right _ hq) i k m

/-- Queueing a frame posts one event at most: that of a frame displaced, or of itself turned away (R23, R26). -/
theorem queueFrame_brings (b : Block) {p : Payload} (hp : p.NoClaim) (s : State) :
    BringsAtMost s 1 (queueFrame b p s) := by
  unfold queueFrame
  split
  · exact unsent_brings p s
  · split
    · exact (enterQueue_brings b hp s).atMost (by simp)
    · split
      · exact unsent_brings p s
      · split
        · exact ((withdraw_brings _ s).trans (enterQueue_brings b hp _)).atMost (k := 0) (by simp) |>.trans
            (unsent_brings _ _)
        · exact unsent_brings p s

theorem changePayload_brings (n : Nat) {p : Payload} (hp : p.NoClaim) (s : State) :
    Brings s [] (changePayload n p s) := by
  rw [changePayload_eq]
  refine ⟨rfl, rfl, fun m hm q hq i k l => ?_⟩
  obtain ⟨x, hx, rfl⟩ := List.mem_map.1 hq
  split
  · exact hp m i k l
  · exact hm x hx i k l

theorem offerFrame_brings (b : Block) (same : Payload → Bool) {p : Payload} (hp : p.NoClaim) (s : State) :
    BringsAtMost s 1 (offerFrame b same p s) := by
  unfold offerFrame
  split
  · exact (changePayload_brings _ hp s).atMost (by simp)
  · exact queueFrame_brings b hp s

theorem callout_noClaim (a b c d e f g h : Nat) : (Payload.callout a b c d e f g h).NoClaim := fun _ _ _ _ => nofun

/-- Raising a callout posts two events at most (R168, R170). -/
theorem raise_brings (code segment cell detail : Nat) (s : State) : BringsAtMost s 2 (raise code segment cell detail s) := by
  unfold raise
  split
  · have htaken : BringsAtMost s 0 (takeSeq s.nextSeq s) := .same 0 rfl rfl fun _ hq => hq
    exact htaken.trans (((post_brings _ _).trans (post_brings _ _)).atMost (k := 2) le_rfl)
  · split
    · have htaken (c : OwnCallout) :
          BringsAtMost s 0 ((takeSeq s.nextSeq s).onCallout fun u => { u with own := u.own ++ [c] }) :=
        .same 0 rfl rfl fun _ hq => hq
      exact ((htaken _).trans (queueFrame_brings .callout (callout_noClaim _ _ _ _ _ _ _ _) _)).mono (by omega)
    · exact ((post_brings _ s).atMost le_rfl).mono (by simp)

theorem raiseHere_brings (code detail : Nat) (s : State) : BringsAtMost s 2 (raiseHere code detail s) :=
  raise_brings _ _ _ _ s

/-! ### The hold sent for the guest (R123) -/

theorem holdsEmptied_standing (s : State) (h : s.motion.state = .guestStop) : holdsEmptied s = s := by
  simp [holdsEmptied, h]

theorem applyHold_standing (s : State) (h : s.motion.state = .guestStop) : applyHold s = s := by
  simp [applyHold, h]

/-- The hold set with the entry of `h` given new values, its event posted if hold type or reason differs (R141). -/
def State.reheld (s : State) (h : HoldEntry) (t : HoldType) (r : HoldReason) (expiry : Option Nat) : State := { s with
  group := { s.group with
    holds := s.group.holds.map fun x => if x.originator = h.originator then
      { x with holdType := t, reason := r, expiry := expiry, stamp := s.group.nextStamp } else x
    nextStamp := s.group.nextStamp + 1 }
  host := { s.host with
    events := s.withEvents
      (if h.holdType ≠ t ∨ h.reason ≠ r then [.holdChanged h.originator t r s.group.holds.length] else []) } }

theorem changeHold_eq (h : HoldEntry) (t : HoldType) (r : HoldReason) (expiry : Option Nat) (s : State) :
    changeHold h t r expiry s =
      if h.holdType ≠ .immediate ∧ t = .immediate then applyHold (s.reheld h t r expiry) else s.reheld h t r expiry := by
  have hchanged : (if h.holdType ≠ t ∨ h.reason ≠ r then
      post (.holdChanged h.originator t r (s.reheld h t r expiry).group.holds.length)
        { s with group := (s.reheld h t r expiry).group }
      else { s with group := (s.reheld h t r expiry).group }) = s.reheld h t r expiry := by
    unfold State.reheld
    split <;> simp [post_events, State.withEvents]
  rw [← hchanged]
  simp [changeHold, State.reheld, State.onGroup, updateIf]

theorem reheld_brings (h : HoldEntry) (t : HoldType) (r : HoldReason) (expiry : Option Nat) (s : State) :
    BringsAtMost s 1 (s.reheld h t r expiry) := by
  refine ⟨if h.holdType ≠ t ∨ h.reason ≠ r then [.holdChanged h.originator t r s.group.holds.length] else [], ?_,
    rfl, rfl, fun n hn => hn⟩
  split <;> simp

theorem changeHold_standing (h : HoldEntry) (t : HoldType) (r : HoldReason) (expiry : Option Nat) (s : State)
    (hguest : s.motion.state = .guestStop) : changeHold h t r expiry s = s.reheld h t r expiry := by
  rw [changeHold_eq, applyHold_standing (s.reheld h t r expiry) hguest, ite_self]

theorem hold_noClaim (a b c : Nat) : (Payload.hold a b c).NoClaim := fun _ _ _ _ => nofun

theorem resume_noClaim (a : Nat) : (Payload.resume a).NoClaim := fun _ _ _ _ => nofun

/-- What a chain of operations does to the queue where it has room for the one frame that the chain may queue. -/
def Roomy (s t : State) : Prop :=
  s.hasRoom → t.callout = s.callout ∧ t.claims = s.claims ∧ t.channel.queue.length ≤ s.channel.queue.length + 1

theorem queueFrame_roomy (b : Block) (p : Payload) (s : State) : Roomy s (queueFrame b p s) := by
  intro hroom
  obtain ⟨⟨before, behind, hqueue, hjoined, -, -⟩, -⟩ := queueFrame_queues b p s hroom
  refine ⟨by rw [queueFrame_shape _ _ _ hroom], by rw [queueFrame_shape _ _ _ hroom], ?_⟩
  rw [hjoined, hqueue, List.length_append, List.length_append, List.length_cons]
  omega

theorem offerFrame_roomy (b : Block) (same : Payload → Bool) (p : Payload) (s : State) :
    Roomy s (offerFrame b same p s) := by
  unfold offerFrame
  split
  · rw [changePayload_eq]
    exact fun _ => ⟨rfl, rfl, by simp⟩
  · exact queueFrame_roomy b p s

theorem offerHold_brings (s : State) : BringsAtMost s 1 (offerHold s) ∧ Roomy s (offerHold s) := by
  unfold offerHold
  split
  · exact ⟨.same 1 rfl rfl fun _ hq => hq, fun _ => ⟨rfl, rfl, by omega⟩⟩
  · split
    · next h _ _ =>
      have hrestarted : BringsAtMost s 0 (s.onGroup fun g => { g with repeatMs := 0 }) := .same 0 rfl rfl fun _ hq => hq
      have hroomy := offerFrame_roomy .group Payload.isHold
        (.hold s.cfg.group (holdTypeCode h.holdType) (holdReasonCode h.reason))
        (s.onGroup fun g => { g with repeatMs := 0 })
      exact ⟨hrestarted.trans (offerFrame_brings .group _ (hold_noClaim _ _ _) _), hroomy⟩
    · exact ⟨.same 1 rfl rfl fun _ hq => hq, fun _ => ⟨rfl, rfl, by omega⟩⟩

theorem dropHold_brings (o : Nat) (cause : HoldRemoval) (s : State) : dropHold o cause s = { s with
    group := (dropHold o cause s).group, host := { s.host with events := (dropHold o cause s).host.events } } ∧
    BringsAtMost s 1 (dropHold o cause s) := by
  unfold dropHold
  split
  · exact ⟨rfl, .same 1 rfl rfl fun _ hq => hq⟩
  · dsimp only
    rw [post_events]
    exact ⟨rfl, .one _ rfl rfl fun _ hq => hq⟩

theorem removeHold_standing (o : Nat) (cause : HoldRemoval) (s : State) (hguest : s.motion.state = .guestStop) :
    removeHold o cause s = { s with
      group := (removeHold o cause s).group, host := { s.host with events := (removeHold o cause s).host.events } } ∧
    BringsAtMost s 1 (removeHold o cause s) := by
  obtain ⟨hshape, hbrings⟩ := dropHold_brings o cause s
  have hdropped : (dropHold o cause s).motion.state = .guestStop := by rw [hshape]; exact hguest
  unfold removeHold
  split
  · dsimp only
    rw [holdsEmptied_standing _ hdropped, ite_self]
    exact ⟨hshape, hbrings⟩
  · exact ⟨rfl, .same 1 rfl rfl fun _ hq => hq⟩

/-- A mark of the own hold cleared in GUEST_STOP: the motion state stays, two events and one frame at most (R143). -/
theorem lowerOwnHold_standing (send : Bool) (s : State) (hguest : s.motion.state = .guestStop) :
    (lowerOwnHold send s).motion = s.motion ∧ BringsAtMost s 2 (lowerOwnHold send s) ∧ Roomy s (lowerOwnHold send s) := by
  have hstays : BringsAtMost s 2 s ∧ Roomy s s := ⟨.same 2 rfl rfl fun _ hq => hq, fun _ => ⟨rfl, rfl, by omega⟩⟩
  unfold lowerOwnHold
  split
  · next t r _ =>
    split
    · exact ⟨rfl, hstays⟩
    · next h _ =>
      split
      · rw [changeHold_standing h t r none s hguest]
        obtain ⟨hoffers, hroomy⟩ := offerHold_brings (s.reheld h t r none)
        refine ⟨by simp [State.reheld], (reheld_brings h t r none s).trans hoffers, hroomy⟩
      · exact ⟨rfl, hstays⟩
  · obtain ⟨hshape, hbrings⟩ := removeHold_standing s.cfg.station .ownCleared s hguest
    have hremoved : BringsAtMost s 1 ((removeHold s.cfg.station .ownCleared s).onGroup fun g => { g with repeatMs := 0 }) := by
      have hstopped : BringsAtMost (removeHold s.cfg.station .ownCleared s) 0
          ((removeHold s.cfg.station .ownCleared s).onGroup fun g => { g with repeatMs := 0 }) :=
        .same 0 rfl rfl fun _ hq => hq
      exact hbrings.trans hstopped
    dsimp only
    split
    · refine ⟨?_, hremoved.trans (queueFrame_brings .group (resume_noClaim _) _), ?_⟩
      · rw [queueResume]
        simp only [queueFrame_frame, onGroup_motion]
        rw [hshape]
      · have hroomy := queueFrame_roomy .group (.resume s.cfg.group)
          ((removeHold s.cfg.station .ownCleared s).onGroup fun g => { g with repeatMs := 0 })
        rw [hshape] at hroomy ⊢
        exact hroomy
    · refine ⟨by rw [hshape]; rfl, hremoved.mono (by omega), ?_⟩
      rw [hshape]
      exact fun _ => ⟨rfl, rfl, by simp [State.onGroup]⟩

/-- Leaving GUEST_STOP, the hold that was sent for the guest ends (R123). -/
theorem releaseGuestHold_standing (send : Bool) (s : State) (hguest : s.motion.state = .guestStop) :
    (releaseGuestHold send s).motion = { s.motion with holdSent := false } ∧
      BringsAtMost s 2 (releaseGuestHold send s) ∧ Roomy s (releaseGuestHold send s) := by
  unfold releaseGuestHold
  split
  · obtain ⟨hmotion, hbrings, hroomy⟩ := lowerOwnHold_standing send
      ((s.onMotion fun m => { m with holdSent := false }).onGroup fun g => { g with guestMark := false }) hguest
    have hcleared : BringsAtMost s 0
        ((s.onMotion fun m => { m with holdSent := false }).onGroup fun g => { g with guestMark := false }) :=
      .same 0 rfl rfl fun _ hq => hq
    exact ⟨hmotion, hcleared.trans hbrings, hroomy⟩
  · next hsent =>
    have hsent : s.motion.holdSent = false := by simpa using hsent
    exact ⟨by rw [← hsent], .same 2 rfl rfl fun _ hq => hq, fun _ => ⟨rfl, rfl, by omega⟩⟩

/-! ### Fault stops (R111, R129) -/

/-- The MOTION event of a fault stop: FAULT_STOP entered with its one cause and the ceiling at 0, or the cause added. -/
def State.faultEvent (s : State) (c : FaultCause) : Event :=
  if s.motion.state = .faultStop then
    .motion .faultStop .faultStop (faultMotionCause c) s.motion.ceiling s.currentSegment (s.motion.faults.add c)
  else .motion s.motion.state .faultStop (faultMotionCause c) 0 s.currentSegment (FaultSet.empty.add c)

/-- The state from which a fault stop is entered: out of GUEST_STOP the hold sent for the guest has ended (R123). -/
def State.unheldForFault (s : State) : State := if s.motion.state = .guestStop then releaseGuestHold true s else s

theorem unheldForFault_spec (s : State) : s.unheldForFault.motion.state = s.motion.state ∧
    BringsAtMost s 2 s.unheldForFault ∧ Roomy s s.unheldForFault ∧ s.unheldForFault.odo = s.odo := by
  unfold State.unheldForFault
  split
  · next hguest =>
    obtain ⟨hmotion, hbrings, hroomy⟩ := releaseGuestHold_standing true s hguest
    exact ⟨by rw [hmotion], hbrings, hroomy, by simp⟩
  · exact ⟨rfl, .same 2 rfl rfl fun _ hq => hq, fun _ => ⟨rfl, rfl, by omega⟩, rfl⟩

/-- FAULT_STOP entered (R111, R129). -/
theorem faultStop_enters (c : FaultCause) (s : State) (hstate : s.motion.state ≠ .faultStop) :
    faultStop c s = { s.unheldForFault with
      motion := s.unheldForFault.motion.moved .faultStop (FaultSet.empty.add c) s.unheldForFault.station.config.crawl
      group := { s.unheldForFault.group with retained := false }
      host := { s.unheldForFault.host with
        events := s.unheldForFault.withEvents
          [.motion s.motion.state .faultStop (faultMotionCause c) 0 s.currentSegment (FaultSet.empty.add c)] } } := by
  obtain ⟨hsame, -, -, hodo⟩ := unheldForFault_spec s
  have hne : s.unheldForFault.motion.state ≠ .faultStop := by rw [hsame]; exact hstate
  have hcurrent : s.unheldForFault.currentSegment = s.currentSegment := by simp only [State.currentSegment, hodo]
  have hmoves := moveTo_eq (faultMotionCause c) (FaultSet.empty.add c) s.unheldForFault hne (by decide)
  rw [hsame, hcurrent] at hmoves
  rw [faultStop, if_neg hstate]
  refine hmoves.trans ?_
  simp [keepsRetained, clampCeiling]

theorem faultStop_adds (c : FaultCause) (s : State) (hstate : s.motion.state = .faultStop) : faultStop c s = { s with
    motion := { s.motion with faults := s.motion.faults.add c }
    host := { s.host with
      events := s.withEvents [.motion .faultStop .faultStop (faultMotionCause c) s.motion.ceiling s.currentSegment
        (s.motion.faults.add c)] } } := by
  rw [faultStop, if_pos hstate, post_events]
  rfl

/-- What a fault stop does (R111, R129). -/
theorem faultStop_spec (c : FaultCause) (s : State) :
    ((faultStop c s).motion.state = .faultStop ∧
      (faultStop c s).motion.ceiling = (if s.motion.state = .faultStop then s.motion.ceiling else 0) ∧
      (faultStop c s).motion.faults = if s.motion.state = .faultStop then s.motion.faults.add c else FaultSet.empty.add c) ∧
    (∃ es, es.length ≤ 3 ∧ s.faultEvent c ∈ es ∧ Brings s es (faultStop c s)) ∧ Roomy s (faultStop c s) := by
  unfold State.faultEvent
  by_cases hstate : s.motion.state = .faultStop
  · simp only [if_pos hstate]
    rw [faultStop_adds c s hstate]
    refine ⟨⟨hstate, rfl, rfl⟩, ⟨_, ?_, List.mem_singleton_self _, rfl, rfl, fun n hn => hn⟩,
      fun _ => ⟨rfl, rfl, Nat.le_succ _⟩⟩
    simp
  · obtain ⟨-, ⟨es, hes, hstation, hevents, hframes⟩, hroomy, -⟩ := unheldForFault_spec s
    simp only [if_neg hstate]
    rw [faultStop_enters c s hstate]
    refine ⟨⟨rfl, rfl, rfl⟩, ⟨es ++ [_], ?_, List.mem_append_right _ (List.mem_singleton_self _), hstation,
      withEvents_of_events hstation hevents _, hframes⟩, hroomy⟩
    simp only [List.length_append, List.length_singleton]
    omega

/-! ### Callouts raised here (R168, R171) -/

/-- A ROBOT on the channel with room in both lists keeps the callout as a new record (R168). -/
theorem raiseHere_raises {s : State} (code detail : Nat) (hrobot : s.isDepot = false)
    (hstate : s.station.state = .active ∨ s.station.state = .listening) (hown : s.callout.own.length < 4)
    (hqueue : s.channel.queue.length < 8) : s.Raises code detail (raiseHere code detail s) := by
  have hon : s.station.state ≠ .offline := by rcases hstate with h | h <;> rw [h] <;> decide
  unfold raiseHere raise
  rw [if_neg (by simp [hrobot]), if_pos ⟨hstate, hown⟩]
  have hroom (u : State) (hstation : u.station = s.station) (hchannel : u.channel = s.channel) : u.hasRoom := by
    rw [State.hasRoom, hstation, hchannel]
    exact ⟨hon, hqueue⟩
  dsimp only
  rw [queueOwnCallout, queueFrame_shape _ _ (State.onCallout _ (takeSeq s.nextSeq s)) (hroom _ rfl rfl)]
  exact ⟨_, rfl, rfl, rfl, rfl, rfl, rfl⟩

/-- A fault stop and its callout: the callout has a place where two queue places were free (R168, R171). -/
theorem fault_raises {s : State} (c : FaultCause) (code detail : Nat) (hmay : s.mayRaise) :
    s.Raises code detail (raiseHere code detail (faultStop c s)) := by
  obtain ⟨hrobot, hstate, hown, hqueue⟩ := hmay
  have hon : s.station.state ≠ .offline := by rcases hstate with h | h <;> rw [h] <;> decide
  obtain ⟨-, ⟨es, -, -, hbrings⟩, hroomy⟩ := faultStop_spec c s
  obtain ⟨hcallout, -, hlength⟩ := hroomy ⟨hon, by omega⟩
  have hdepot : (faultStop c s).isDepot = false := by
    rw [← hrobot]
    simp only [State.isDepot, State.cfg, hbrings.station]
  have hodo : (faultStop c s).odo = s.odo := by simp
  have hraises := raiseHere_raises code detail hdepot (by rw [hbrings.station]; exact hstate) (by rw [hcallout]; exact hown)
    (by omega)
  unfold State.Raises at hraises ⊢
  rw [hcallout] at hraises
  simp only [State.herePair, hodo] at hraises ⊢
  exact hraises

end Sys2Proof.Machine

/-! ## Claims in time (R85 to R90, R132; O47) -/

namespace Sys2Proof.Machine

/-! ### The expiry of a view entry (R90) -/

theorem exec_claimViewExpiry (n holder : Nat) (s : State) : exec (.claimViewExpiry n holder) s =
    if s.claims.view.any (fun v => v.segment == n && v.holder == holder && decide (v.expiry ≤ s.now)) then
      .next (forgetView n holder s)
    else .next s := rfl

theorem claimViewExpiry_due (n holder : Nat) (s : State)
    (h : ∃ v ∈ s.claims.view, v.segment = n ∧ v.holder = holder ∧ v.expiry ≤ s.station.clock) :
    exec (.claimViewExpiry n holder) s = .next { s with claims := { s.claims with
      view := s.claims.view.filter fun w => !(w.segment == n && w.holder == holder) } } := by
  obtain ⟨v, hmem, hn, hholder, hdue⟩ := h
  rw [exec_claimViewExpiry, if_pos (List.any_eq_true.2 ⟨v, hmem, ?_⟩)]
  · rfl
  · simp only [hn, hholder, beq_self_eq_true, Bool.and_self, Bool.true_and]
    exact decide_eq_true hdue

theorem claimViewExpiry_early (n holder : Nat) (s : State)
    (h : ∀ v ∈ s.claims.view, v.segment = n → v.holder = holder → s.station.clock < v.expiry) :
    exec (.claimViewExpiry n holder) s = .next s := by
  rw [exec_claimViewExpiry]
  refine if_neg fun hany => ?_
  obtain ⟨v, hmem, hv⟩ := List.any_eq_true.1 hany
  simp only [Bool.and_eq_true, beq_iff_eq, decide_eq_true_eq] at hv
  obtain ⟨⟨hn, hholder⟩, hdue⟩ := hv
  exact absurd (h v hmem hn hholder) (Nat.not_lt.2 hdue)

/-! ### Refreshes (R85, R87) -/

theorem exec_refresh {n : Nat} {s : State} {r : OwnClaim} (hr : s.ownClaim? n = some r) : exec (.refresh n) s =
    match s.refreshDue r with
    | none => .next s
    | some k =>
      if r.frame = .none then
        finish (queueFrame .claims (.claim n (intentCode r.intent) r.rank 1)
          (updateOwn n (fun x => { x with frame := .refresh }) (updateOwn n (fun x => { x with refreshesOffered := k }) s)))
      else .next (updateOwn n (fun x => { x with refreshesOffered := k }) s) := by
  show execRefresh n s = _
  rw [execRefresh, hr] <;> rfl

theorem refreshDue_none {s : State} {r : OwnClaim} {sent : Nat} (hsent : r.lastSend = some sent)
    (h : s.station.state ≠ .active ∨ s.station.leavePending = true ∨
      (¬ (s.station.clock = sent + 20 ∧ r.refreshesOffered = 0) ∧
        ¬ (s.station.clock = sent + 40 ∧ r.refreshesOffered ≤ 1))) : s.refreshDue r = none := by
  unfold State.refreshDue
  split
  · next hworking =>
    obtain ⟨hactive, hleave⟩ := (working_iff s).1 hworking.1
    rcases h with h | h | ⟨hfirst, hsecond⟩
    · exact absurd hactive h
    · rw [hleave] at h
      cases h
    · rw [hsent]
      exact (if_neg hfirst).trans (if_neg hsecond)
  · rfl

theorem refreshDue_some {s : State} {r : OwnClaim} {sent k : Nat} (hsent : r.lastSend = some sent)
    (hstate : r.state = .holding) (hactive : s.station.state = .active) (hleave : s.station.leavePending = false)
    (hk : (k = 1 ∧ s.station.clock = sent + 20) ∨ (k = 2 ∧ s.station.clock = sent + 40))
    (hoffered : r.refreshesOffered < k) : s.refreshDue r = some k := by
  unfold State.refreshDue
  rw [if_pos ⟨(working_iff s).2 ⟨hactive, hleave⟩, hstate⟩, hsent]
  have hnow : s.now = s.station.clock := rfl
  simp only [Config.refreshAfter, hnow]
  rcases hk with ⟨rfl, hclock⟩ | ⟨rfl, hclock⟩
  · rw [if_pos ⟨hclock, by omega⟩]
  · rw [if_neg (by omega), if_pos ⟨by omega, by omega⟩]

/-- The record of the segment with its refresh offered (R85). -/
def State.refreshing (s : State) (n k : Nat) : State := { s with claims := { s.claims with
  own := s.claims.own.map fun x => if x.segment = n then { x with frame := .refresh, refreshesOffered := k } else x } }

theorem updateOwn_offered (n k : Nat) (s : State) :
    updateOwn n (fun x => { x with frame := .refresh }) (updateOwn n (fun x => { x with refreshesOffered := k }) s) =
      s.refreshing n k := by
  rw [updateOwn_eq, updateOwn_eq, State.refreshing]
  simp only [List.map_map]
  congr 2
  refine List.map_congr_left fun x _ => ?_
  by_cases hx : x.segment = n <;> simp [hx]

/-! ### Lapses (R88, R132) -/

theorem exec_lapse {n : Nat} {s : State} {r : OwnClaim} (hr : s.ownClaim? n = some r) :
    exec (.lapse n) s = if s.lapseDue r then finish (endClaim n .lapsed none s) else .next s := by
  show execLapse n s = _
  rw [execLapse, hr]

theorem lapseDue_iff {s : State} {r : OwnClaim} {sent : Nat} (hstate : r.state = .holding) (hsent : r.lastSend = some sent) :
    s.lapseDue r = true ↔ sent + 50 ≤ s.station.clock := by
  rw [State.lapseDue, hsent, hstate]
  exact decide_eq_true_iff

/-- A record that is not occupied ends without a fault (R72, R132). -/
theorem endClaim_free {n : Nat} {change : ClaimChange} {stronger : Option (Nat × Nat)} {s : State}
    (h : s.odo.entry.map (·.segment) ≠ some n ∨ s.motion.state = .idle) :
    endClaim n change stronger s = endOwn n change stronger s := by
  refine if_neg ?_
  rintro ⟨-, -, hcurrent, hmoving⟩
  exact h.elim (· hcurrent) hmoving

/-- The loss of the claim on the current segment (R132). -/
theorem endClaim_lost {n : Nat} {change : ClaimChange} {stronger : Option (Nat × Nat)} {s : State} {r : OwnClaim}
    (hr : s.ownClaim? n = some r) (hstate : r.state = .holding) (hchange : change = .lapsed ∨ change = .yielded)
    (hcurrent : s.odo.entry.map (·.segment) = some n) (hmoving : s.motion.state ≠ .idle) :
    endClaim n change stronger s =
      raiseHere 3 (claimLostDetail change stronger) (faultStop .claimLost (endOwn n change stronger s)) :=
  if_pos ⟨(holds_iff s n).2 ⟨r, hr, hstate⟩, hchange, hcurrent, hmoving⟩

theorem permit_faultStop {s : State} (h : s.motion.state = .faultStop) : s.permit = false := by
  simp [State.permit, h]

/-- What the loss of the claim on the current segment does at the motion supervisor and the callout unit (R129, R132). -/
theorem claimLost_spec {n : Nat} {change : ClaimChange} {stronger : Option (Nat × Nat)} {s t : State} {r : OwnClaim}
    (hr : s.ownClaim? n = some r) (hstate : r.state = .holding) (hchange : change = .lapsed ∨ change = .yielded)
    (hcurrent : s.odo.entry.map (·.segment) = some n) (hmoving : s.motion.state ≠ .idle)
    (ht : t = endClaim n change stronger s) :
    t.NoClaimFrame n ∧ t.motion.state = .faultStop ∧
      t.motion.ceiling = (if s.motion.state = .faultStop then s.motion.ceiling else 0) ∧
      t.motion.faults.claimLost = true ∧
      (∃ x ∈ t.host.events, x.event = .claim n r.intent r.rank change true stronger) ∧
      s.FaultShown .claimLost ⟨false, false, false, true⟩ { s.motion.faults with claimLost := true } t ∧
      (s.mayRaise → s.Raises 3 (claimLostDetail change stronger) t) := by
  have hsegment : r.segment = n := by simpa using List.find?_some hr
  have hoccupied : s.occupied r = true := by
    rw [occupied_eq, hsegment]
    exact decide_eq_true ⟨hstate, hcurrent, hmoving⟩
  have hlost := endClaim_lost (stronger := stronger) hr hstate hchange hcurrent hmoving
  obtain ⟨-, hstation, -, hodo, hmotion, -, -, hcallout, -⟩ := endOwn_frame n change stronger s
  have hended := endOwn_eq hr change stronger
  rw [hoccupied] at hended
  have hevents := congrArg (·.host.events) hended
  have hframes : (endOwn n change stronger s).NoClaimFrame n := by rw [hended]; exact withdraw_no_claim n s
  have hlength : (endOwn n change stronger s).channel.queue.length ≤ s.channel.queue.length := by
    rw [hended]
    exact List.length_filter_le _ _
  have hevent : (endOwn n change stronger s).faultEvent .claimLost = s.faultEvent .claimLost := by
    simp only [State.faultEvent, State.currentSegment, hmotion, hodo]
  obtain ⟨⟨hfault, hceiling, hfaults⟩, ⟨es, hes, hshown, hstopped⟩, -⟩ :=
    faultStop_spec .claimLost (endOwn n change stronger s)
  rw [hmotion] at hceiling hfaults
  rw [hevent] at hshown
  obtain ⟨es', hes', hraised⟩ :=
    raiseHere_brings 3 (claimLostDetail change stronger) (faultStop .claimLost (endOwn n change stronger s))
  have hbrings := hstopped.trans hraised
  rw [← hlost, ← ht] at hbrings
  have hposted := hbrings.events.trans (withEvents_of_events hstation hevents _)
  have hmem (e : Event) (he : e ∈ [.claim n r.intent r.rank change true stronger] ++ (es ++ es')) :
      ∃ x ∈ t.host.events, x.event = e := by
    rw [hposted]
    refine mem_withEvents s ?_ he
    simp only [List.length_append, List.length_singleton]
    omega
  have hsame : t.motion = (faultStop .claimLost (endOwn n change stronger s)).motion := by
    rw [ht, hlost]
    simp
  refine ⟨hbrings.frames n hframes, ?_, ?_, ?_, hmem _ (by simp), ?_, fun hmay => ?_⟩
  · rw [hsame, hfault]
  · rw [hsame, hceiling]
  · rw [hsame, hfaults]
    split <;> rfl
  · exact hmem _ (List.mem_append_right _ (List.mem_append_left _ hshown))
  · obtain ⟨hrobot, hon, hown, hqueue⟩ := hmay
    have hraises := fault_raises (s := endOwn n change stronger s) .claimLost 3 (claimLostDetail change stronger)
      (by simpa only [State.mayRaise, State.isDepot, State.cfg, hstation, hcallout] using
        ⟨hrobot, hon, hown, hlength.trans_lt hqueue⟩)
    rw [← hlost, ← ht] at hraises
    simpa only [State.Raises, State.herePair, hcallout, hodo] using hraises

/-- Settles O47. -/
theorem claimsInTime : Obligations.ClaimsInTime := by
  intro s
  refine ⟨fun n holder => ⟨claimViewExpiry_due n holder s, claimViewExpiry_early n holder s⟩,
    fun n r sent hr hstate hsent => ?_⟩
  have hr : s.ownClaim? n = some r := hr
  have hsegment : r.segment = n := by simpa using List.find?_some hr
  refine ⟨fun hearly => ?_, fun k hactive hleave hk hoffered => ?_, fun hearly => ?_, fun hdue => ?_⟩
  · rw [exec_refresh hr, refreshDue_none hsent hearly]
  · have hexec := exec_refresh hr
    rw [refreshDue_some hsent hstate hactive hleave hk hoffered] at hexec
    dsimp only at hexec
    rw [updateOwn_offered] at hexec
    refine ⟨fun hframe => ?_, fun hframe hqueue => ?_⟩
    · rw [hexec]
      refine (if_neg hframe).trans ?_
      rw [updateOwn_eq]
    · have hon : s.station.state ≠ .offline := by rw [hactive]; decide
      have hroom : (s.refreshing n k).hasRoom := ⟨hon, hqueue⟩
      refine ⟨_, hexec.trans (if_pos hframe), ?_, queueFrame_queues _ _ _ hroom⟩
      conv_lhs => rw [queueFrame_shape _ _ _ hroom]
      rfl
  · rw [exec_lapse hr, if_neg]
    rw [lapseDue_iff hstate hsent]
    omega
  · rw [exec_lapse hr, if_pos ((lapseDue_iff hstate hsent).2 hdue)]
    by_cases hfree : s.odo.entry.map (·.segment) ≠ some n ∨ s.motion.state = .idle
    · have hocc : s.occupied r = false := by
        rw [occupied_eq, decide_eq_false_iff_not, hsegment]
        rintro ⟨-, hcurrent, hmoving⟩
        exact hfree.elim (· hcurrent) hmoving
      rw [endClaim_free hfree, endOwn_eq hr, hocc]
      refine ⟨_, rfl, withdraw_no_claim n s, fun _ => ⟨?_, mem_withdraw_claims n s, fun hground => ?_,
        fun f q hq hflying => ?_⟩, fun hcurrent hmoving => ?_⟩
      · rw [withdraw_shape]
        rfl
      · rw [withdraw_grounded _ s hground]
        exact ⟨hground, rfl⟩
      · have hwithdrawn := withdraw_flightWithdrawn (isClaimFor n) s hq hflying
        rw [isClaimFor_iff] at hwithdrawn
        exact hwithdrawn
      · exact absurd hfree (not_or.2 ⟨not_not.2 hcurrent, hmoving⟩)
    · obtain ⟨hcurrent, hmoving⟩ := not_or.1 hfree
      obtain ⟨hframes, hfault, hceiling, hlost, hevent, hshown, hraises⟩ :=
        claimLost_spec (stronger := none) hr hstate (.inl rfl) (not_not.1 hcurrent) hmoving rfl
      exact ⟨_, rfl, hframes, fun h => absurd h hfree, fun _ _ => ⟨by simp, by simp, by simp, hfault, hceiling, hlost,
        permit_faultStop hfault, hevent, hshown, hraises⟩⟩

end Sys2Proof.Machine

/-! ## The motion requests (R115, R116, R120, R133; O52) -/

namespace Sys2Proof.Machine

theorem mayDrive_iff (s : State) : s.mayDrive = true ↔
    s.isRobot = true ∧ s.station.state = .active ∧ s.station.leavePending = false := by
  simp [State.mayDrive, working_iff]

/-! ### START (R115, R133) -/

/-- START as it is taken of a ROBOT in ACTIVE (R115, R133, R187). -/
theorem exec_start {s : State} (hdrive : s.mayDrive = true) (hsel : s.host.heldSel = false) : exec .start s =
    match s.motion.state with
    | .idle =>
      if !s.group.holds.isEmpty then .next (s.answered [0x08])
      else if !s.holdsCurrent then .next (s.answered [0x06])
      else .next (endOfStep (ok [] (enterMoving .start s)))
    | .faultStop =>
      if s.faultsCleared then .next (endOfStep (ok [] (move .idle .start s)))
      else .next (s.answered [0x01, BitVec.ofNat 8 (faultByte s.motion.faults)])
    | _ => .next (s.answered [0x01]) := by
  show execStart s = _
  rw [execStart, whenTaken_taken _ _ hsel, if_neg (by simp [hdrive])]
  rfl

theorem exec_start_standing {s : State} (hdrive : s.mayDrive = true) (hsel : s.host.heldSel = false)
    (hidle : s.motion.state ≠ .idle) (hfault : s.motion.state ≠ .faultStop) :
    exec .start s = .next (s.answered [0x01]) := by
  rw [exec_start hdrive hsel]
  split
  · next h => exact absurd h hidle
  · next h => exact absurd h hfault
  · rfl

/-- The entry from IDLE, the hold set being empty (R117). -/
theorem enterMoving_of_idle (k : MotionCause) {s : State} (hidle : s.motion.state = .idle) (hholds : s.group.holds = [])
    {new : MotionState} {cause : MotionCause} {v : Nat}
    (hnew : new = if s.motion.latch then .guestStop else if s.cautionCause then .caution else .run)
    (hcause : cause = if s.motion.latch then .guest else k)
    (hv : v = if s.motion.latch then 0 else if s.cautionCause then min s.motion.ceiling s.station.config.crawl
      else s.motion.ceiling) : enterMoving k s = { s with
        motion := { s.motion with
          state := new, ceiling := v, faults := FaultSet.empty
          guestBlockedMs := if s.motion.latch then 0 else s.motion.guestBlockedMs
          guestBlockedRaised := s.motion.guestBlockedRaised && !s.motion.latch }
        group := { s.group with retained := s.group.retained && s.motion.latch }
        host := { s.host with
          events := s.withEvents [.motion .idle new cause v s.currentSegment FaultSet.empty] } } := by
  have hmoves (new : MotionState) (cause : MotionCause) (hnew : new ≠ .idle) :=
    moveTo_eq cause FaultSet.empty s (new := new) (by rw [hidle]; exact hnew.symm) hnew
  have hempty : (!s.group.holds.isEmpty) = false := by simp [hholds]
  subst hnew hcause hv
  unfold enterMoving
  cases hlatch : s.motion.latch with
  | true =>
    rw [if_pos rfl, move, hmoves _ _ (by decide), hidle]
    simp [Motion.moved, clampCeiling, keepsRetained]
  | false =>
    rw [if_neg (by simp), hempty, if_neg (by simp)]
    cases s.cautionCause with
    | true =>
      rw [if_pos rfl, move, hmoves _ _ (by decide), hidle]
      simp [Motion.moved, clampCeiling, keepsRetained]
    | false =>
      rw [if_neg (by simp), move, hmoves _ _ (by decide), hidle]
      simp [Motion.moved, clampCeiling, keepsRetained]

theorem faultsCleared_iff (s : State) : s.faultsCleared = true ↔
    (s.motion.faults.odometer = true → s.odo.fault = false ∧ s.odo.speed < 20) ∧
      (s.motion.faults.overspeed = true ∨ s.motion.faults.stuck = true ∨ s.motion.faults.claimLost = true →
        s.odo.speed < 20) := by
  simp [State.faultsCleared, imp_iff_not_or, and_assoc]

theorem faultsCleared_false {s : State} (h : (20 ≤ s.odo.speed ∧ s.motion.faults ≠ FaultSet.empty) ∨
    (s.motion.faults.odometer = true ∧ s.odo.fault = true)) : s.faultsCleared = false := by
  rw [← Bool.not_eq_true, faultsCleared_iff]
  rintro ⟨hodometer, hother⟩
  rcases h with ⟨hspeed, hfaults⟩ | ⟨hheld, hraised⟩
  · refine hfaults ?_
    have hslow (x : Bool) (hx : x = true → s.odo.speed < 20) : x = false := by
      rw [← Bool.not_eq_true]
      exact fun h => absurd (hx h) (Nat.not_lt.2 hspeed)
    have h1 := hslow _ fun h => hother (.inl h)
    have h2 := hslow _ fun h => hother (.inr (.inl h))
    have h3 := hslow _ fun h => (hodometer h).2
    have h4 := hslow _ fun h => hother (.inr (.inr h))
    cases hf : s.motion.faults with
    | mk overspeed stuck odometer claimLost =>
      rw [hf] at h1 h2 h3 h4
      exact congr (congr (congr (congrArg FaultSet.mk h1) h2) h3) h4
  · rw [(hodometer hheld).1] at hraised
    cases hraised

/-! ### ARM_START (R116) -/

theorem exec_armStart {s : State} (hdrive : s.mayDrive = true) (hsel : s.host.heldSel = false) : exec .armStart s =
    if s.motion.state ≠ .idle then .next (s.answered [0x01])
    else if !s.group.holds.isEmpty then .next (s.answered [0x08])
    else if !s.holdsCurrent then .next (s.answered [0x06])
    else if s.station.config.group = 0 then .next (s.answered [0x01])
    else .next (endOfStep (ok [] ((move .retained .arm s).onGroup fun g => { g with retained := true }))) := by
  show execArmStart s = _
  rw [execArmStart, whenTaken_taken _ _ hsel]
  simp only [hdrive, Bool.not_true, Bool.false_eq_true, false_or]
  rfl

theorem armed_of_idle {s : State} (hidle : s.motion.state = .idle) :
    ((move .retained .arm s).onGroup fun g => { g with retained := true }) = { s with
      motion := { s.motion with state := .retained, ceiling := 0, faults := FaultSet.empty }
      group := { s.group with retained := true }
      host := { s.host with
        events := s.withEvents [.motion .idle .retained .arm 0 s.currentSegment FaultSet.empty] } } := by
  rw [move, moveTo_eq .arm FaultSet.empty s (by rw [hidle]; decide) (by decide), hidle]
  simp [State.onGroup, Motion.moved, clampCeiling]

/-! ### STOP_ROUTE (R120) -/

/-- The block from which a stopped route takes the motion state: its entry ended, and armed no more (R106, R120). -/
def State.routeEnded (s : State) : State := (endEntry s).onGroup fun g => { g with retained := false }

theorem exec_stopRoute {s : State} (hrobot : s.isRobot = true) (hsel : s.host.heldSel = false)
    (hstate : s.station.state = .active ∨ s.station.state = .silent) :
    exec .stopRoute s = .next (endOfStep (ok [] (stopRouteState s.routeEnded))) := by
  show execStopRoute s = _
  rw [execStopRoute, whenTaken_taken _ _ hsel, if_pos ⟨hrobot, hstate⟩]
  rfl

theorem routeEnded_values (s : State) : s.routeEnded.station = s.station ∧ s.routeEnded.motion = s.motion ∧
    s.routeEnded.odo = { s.odo with entry := none } ∧ s.routeEnded.group = { s.group with retained := false } ∧
    s.routeEnded.dosing.stock = s.dosing.stock := by
  refine ⟨by simp [State.routeEnded], by simp [State.routeEnded], by simp [State.routeEnded], by simp [State.routeEnded],
    ?_⟩
  exact (endEntry_keeps s).owned.stock

/-- The motion state after a stopped route (R120). -/
theorem stopRouteState_motion (s : State) :
    ((s.motion.state = .run ∨ s.motion.state = .caution) → (stopRouteState s).motion.state = .stopping ∧
      (stopRouteState s).motion.stopEnd = .idle ∧ (stopRouteState s).motion.ceiling = s.motion.ceiling) ∧
    (s.motion.state = .stopping → (stopRouteState s).motion = { s.motion with stopEnd := .idle }) ∧
    ((s.motion.state = .retained ∨ s.motion.state = .groupHold) →
      (stopRouteState s).motion.state = .idle ∧ (stopRouteState s).motion.ceiling = 0) ∧
    ((s.motion.state = .idle ∨ s.motion.state = .guestStop ∨ s.motion.state = .faultStop) →
      (stopRouteState s).motion = s.motion) := by
  have hmoves (new : MotionState) (k : MotionCause) (u : State) (h : u.motion.state ≠ new) :=
    (moveTo_values new k FaultSet.empty u h).1
  refine ⟨fun h => ?_, fun h => ?_, fun h => ?_, fun h => ?_⟩
  · have hstops : stopRouteState s = enterStopping .idle .stopRoute s := by
      rcases h with h | h <;> simp [stopRouteState, h]
    rw [hstops, enterStopping, move, hmoves _ _ _ (by rcases h with h | h <;> simp [h])]
    exact ⟨rfl, rfl, rfl⟩
  · simp [stopRouteState, h, State.onMotion]
  · have hstops : stopRouteState s = move .idle .stopRoute s := by
      rcases h with h | h <;> simp [stopRouteState, h]
    rw [hstops, move, hmoves _ _ _ (by rcases h with h | h <;> rw [h] <;> decide)]
    exact ⟨rfl, rfl⟩
  · rcases h with h | h | h <;> simp [stopRouteState, h]

theorem stopRouteState_group (s : State) (h : s.group.retained = false) : (stopRouteState s).group = s.group := by
  have hmoves (new : MotionState) (k : MotionCause) (u : State) (hu : u.group = s.group) :
      (moveTo new k FaultSet.empty u).group = s.group := by
    by_cases hne : u.motion.state = new
    · rw [moveTo_self _ _ _ _ hne, hu]
    · rw [(moveTo_values new k FaultSet.empty u hne).2, hu, h, Bool.false_and, ← h]
  unfold stopRouteState
  split
  · exact hmoves _ _ _ rfl
  · exact hmoves _ _ _ rfl
  · rfl
  · exact hmoves _ _ _ rfl
  · exact hmoves _ _ _ rfl
  · rfl

theorem permit_no_entry {s : State} (h : s.odo.entry = none) : s.permit = false := by
  simp [State.permit, State.currentSegment, h]

/-- Settles O52. -/
theorem motionRequests : Obligations.MotionRequests := by
  intro s hrobot hsel
  refine ⟨fun hactive hleave => ?_, fun hstate => ?_⟩
  · have hdrive := (mayDrive_iff s).2 ⟨hrobot, hactive, hleave⟩
    have hstart := exec_start hdrive hsel
    have harm := exec_armStart hdrive hsel
    refine ⟨fun hidle => ⟨harm.trans (if_pos hidle), fun hfault => exec_start_standing hdrive hsel hidle hfault⟩,
      fun hidle => ?_, fun hfault => ?_⟩
    · rw [hidle] at hstart
      rw [if_neg (not_not.2 hidle)] at harm
      dsimp only at hstart
      refine ⟨fun hholds => ?_, fun hholds hclaim => ?_, fun n hholds hn hclaim => ?_⟩
      · have hheld : (!s.group.holds.isEmpty) = true := by simpa using hholds
        rw [hstart, harm, if_pos hheld, if_pos hheld]
        exact ⟨rfl, rfl⟩
      · have hnone : s.holdsCurrent = false := by
          unfold State.holdsCurrent State.currentSegment
          split
          · next n hn => exact hclaim n hn
          · rfl
        rw [hstart, harm, hnone, hholds]
        exact ⟨rfl, rfl⟩
      · have hcurrent : s.currentSegment = some n := hn
        have hholding : s.holdsCurrent = true := by simp only [State.holdsCurrent, hcurrent, hclaim]
        rw [hholding, hholds] at hstart harm
        refine ⟨fun new k v hnew hk hv => ?_, fun hgroup => harm.trans (if_pos hgroup), fun hgroup => ?_⟩
        · refine hstart.trans ?_
          rw [enterMoving_of_idle .start hidle hholds hnew hk hv, hcurrent]
          rfl
        · refine (harm.trans (if_neg hgroup)).trans ?_
          rw [armed_of_idle hidle, hcurrent]
          rfl
    · rw [hfault] at hstart
      refine ⟨fun hheld => ?_, fun hslow hodometer => ?_⟩
      · exact hstart.trans (if_neg (by rw [faultsCleared_false hheld]; decide))
      · have hcleared := (faultsCleared_iff s).2 ⟨fun h => ⟨hodometer h, hslow⟩, fun _ => hslow⟩
        have hmotion := (moveTo_values .idle .start FaultSet.empty s (by rw [hfault]; decide)).1
        refine ⟨_, hstart.trans (if_pos hcleared), ?_⟩
        simp [ok_eq_answered, State.answered, move, hmotion, Motion.moved, clampCeiling]
  · obtain ⟨hstation, hmotion, hodo, hgroup, hstock⟩ := routeEnded_values s
    refine ⟨_, exec_stopRoute hrobot hsel hstate, rfl, ?_, ?_, ?_, ?_, ?_, ?_⟩
    · simp [hodo]
    · simp [hstation]
    · simp [hstock]
    · show (stopRouteState s.routeEnded).group = _
      rw [stopRouteState_group _ (by rw [hgroup]), hgroup]
    · have hnone : (stopRouteState s.routeEnded).odo.entry = none := by simp [hodo]
      exact permit_no_entry hnone
    · have hstops := stopRouteState_motion s.routeEnded
      rw [hmotion] at hstops
      exact hstops

end Sys2Proof.Machine

/-! ## GO (R117, R137 to R139; O56) -/

namespace Sys2Proof.Machine

/-! ### Entries to RUN or CAUTION (R117) -/

/-- The motion state that an entry to "RUN or CAUTION" leads to (R117). -/
def State.movingState (s : State) : MotionState :=
  if s.motion.latch then .guestStop else if s.group.holds ≠ [] then .groupHold else if s.cautionCause then .caution else .run

/-- The cause that such an entry is shown with (R117). -/
def State.movingCause (s : State) (k : MotionCause) : MotionCause :=
  if s.motion.latch then .guest else if s.group.holds ≠ [] then .hold else k

theorem enterMoving_eq (k : MotionCause) (s : State) : enterMoving k s = move s.movingState (s.movingCause k) s := by
  have hheld : (!s.group.holds.isEmpty) = true ↔ s.group.holds ≠ [] := by simp
  unfold enterMoving State.movingState State.movingCause
  by_cases hlatch : s.motion.latch = true
  · simp only [if_pos hlatch]
  · simp only [if_neg hlatch]
    by_cases hholds : s.group.holds ≠ []
    · rw [if_pos (hheld.2 hholds), if_pos hholds, if_pos hholds]
    · rw [if_neg (mt hheld.1 hholds), if_neg hholds, if_neg hholds]
      split <;> rfl

theorem movingState_ne_idle (s : State) : s.movingState ≠ .idle := by
  unfold State.movingState
  repeat' split
  all_goals decide

/-- A change to a state other than IDLE touches motion supervisor, group control and event queue alone. -/
theorem move_shape {new : MotionState} (cause : MotionCause) (s : State) (hnew : new ≠ .idle) : move new cause s = { s with
    motion := (move new cause s).motion, group := (move new cause s).group
    host := { s.host with events := (move new cause s).host.events } } := by
  by_cases hstate : s.motion.state = new
  · rw [move, moveTo_self _ _ _ _ hstate]
  · rw [move, moveTo_eq _ _ _ hstate hnew]

theorem enterMoving_state (k : MotionCause) (s : State) : (enterMoving k s).motion.state = s.movingState := by
  rw [enterMoving_eq]
  exact moveTo_state ..

theorem move_group (new : MotionState) (cause : MotionCause) (s : State) :
    (move new cause s).group = { s.group with retained := (move new cause s).group.retained } := by
  by_cases hstate : s.motion.state = new
  · rw [move, moveTo_self _ _ _ _ hstate]
  · rw [move, (moveTo_values _ _ _ s hstate).2]

/-! ### The GO taken (R139) -/

theorem takeGo_retained (sender : Nat) {s : State} (h : s.motion.state = .retained) :
    takeGo sender s = (enterMoving .go s).onGroup fun g => { g with retained := false } := by
  simp only [takeGo, h]

/-- An armed robot that is held or stopped for a guest ignores it, and says so (R139). -/
theorem takeGo_ignored (sender : Nat) {s : State} (h : s.motion.state = .groupHold ∨ s.motion.state = .guestStop) :
    takeGo sender s = if s.group.retained then { s with host := { s.host with
      events := s.withEvents [.goIgnored sender s.group.holds.length] } } else s := by
  unfold takeGo
  rcases h with h | h <;> rw [h] <;> dsimp only <;> rw [post_events]

theorem takeGo_elsewhere (sender : Nat) {s : State} (hretained : s.motion.state ≠ .retained)
    (hhold : s.motion.state ≠ .groupHold) (hguest : s.motion.state ≠ .guestStop) : takeGo sender s = s := by
  unfold takeGo
  split
  · next h => exact absurd h hretained
  · next h => exact absurd h hhold
  · next h => exact absurd h hguest
  · rfl

theorem takeGo_shape (sender : Nat) (s : State) : takeGo sender s = { s with
    motion := (takeGo sender s).motion, group := (takeGo sender s).group
    host := { s.host with events := (takeGo sender s).host.events } } := by
  by_cases hretained : s.motion.state = .retained
  · rw [takeGo_retained sender hretained, enterMoving_eq]
    conv_lhs => rw [move_shape _ _ (movingState_ne_idle s)]
    rfl
  · by_cases hheld : s.motion.state = .groupHold ∨ s.motion.state = .guestStop
    · rw [takeGo_ignored sender hheld]
      split <;> rfl
    · obtain ⟨hhold, hguest⟩ := not_or.1 hheld
      rw [takeGo_elsewhere sender hretained hhold hguest]

/-- What a GO for the station's group does, by the motion state (R139). -/
theorem takeGo_spec (sender : Nat) (s : State) :
    (s.motion.state = .retained → s.group.holds = [] →
      (takeGo sender s).motion.state =
        (if s.motion.latch then .guestStop else if s.cautionCause then .caution else .run) ∧
      (takeGo sender s).group = { s.group with retained := false }) ∧
    ((s.motion.state = .groupHold ∨ s.motion.state = .guestStop) → s.group.retained = true →
      (takeGo sender s).motion = s.motion ∧ (takeGo sender s).group = s.group ∧
      (takeGo sender s).host.events = s.withEvents [.goIgnored sender s.group.holds.length]) ∧
    ((s.motion.state = .groupHold ∨ s.motion.state = .guestStop) → s.group.retained = false →
      (takeGo sender s).motion = s.motion ∧ (takeGo sender s).group = s.group ∧
      (takeGo sender s).host.events = s.host.events) ∧
    (s.motion.state ≠ .retained → s.motion.state ≠ .groupHold → s.motion.state ≠ .guestStop →
      (takeGo sender s).motion = s.motion ∧ (takeGo sender s).group = s.group ∧
      (takeGo sender s).host.events = s.host.events) := by
  refine ⟨fun hretained hholds => ?_, fun hheld harmed => ?_, fun hheld hunarmed => ?_, fun hretained hhold hguest => ?_⟩
  · rw [takeGo_retained sender hretained]
    refine ⟨?_, ?_⟩
    · show (enterMoving .go s).motion.state = _
      rw [enterMoving_state, State.movingState]
      simp only [hholds, ne_eq, not_true_eq_false, if_false]
    · rw [enterMoving_eq]
      simp only [onGroup_group]
      rw [move_group]
  · rw [takeGo_ignored sender hheld, if_pos harmed]
    exact ⟨rfl, rfl, rfl⟩
  · rw [takeGo_ignored sender hheld, hunarmed]
    exact ⟨rfl, rfl, rfl⟩
  · rw [takeGo_elsewhere sender hretained hhold hguest]
    exact ⟨rfl, rfl, rfl⟩

/-! ### The commands -/

theorem exec_go (sender group : Nat) (s : State) :
    exec (.go sender group) s = .next (endOfStep (receive sender (hearGo sender group) s)) := rfl

theorem mayCommandGroup_iff (s : State) : s.mayCommandGroup = true ↔
    s.station.state = .active ∧ s.station.leavePending = false ∧ s.station.config.group ≠ 0 := by
  simp [State.mayCommandGroup, working_iff, State.cfg, and_assoc]

theorem groupFrame_iff (s : State) (group : Nat) : s.groupFrame group = true ↔
    s.station.config.group ≠ 0 ∧ group = s.station.config.group := by
  simp [State.groupFrame, State.cfg]

theorem exec_sendGo {s : State} (hmay : s.mayCommandGroup = true) (hsel : s.host.heldSel = false) :
    exec .sendGo s = .next (endOfStep (ok [byteOf (motionCode
      (takeGo s.station.config.station (queueFrame .group (.go s.station.config.group) s)).motion.state)]
        (takeGo s.station.config.station (queueFrame .group (.go s.station.config.group) s)))) := by
  show execSendGo s = _
  rw [execSendGo, whenTaken_taken _ _ hsel, if_pos hmay]
  rfl

/-- Settles O56. -/
theorem goReleasesTheRetained : Obligations.GoReleasesTheRetained := by
  intro c sender group s hcase
  rcases hcase with ⟨rfl, hdelivers⟩ | ⟨rfl, rfl, rfl, hactive, hsel, hleave, hgroup, hroom⟩
  · have hexec := exec_go sender group s
    rw [receive_delivers _ _ s hdelivers, hearGo] at hexec
    refine ⟨fun hother => ?_, fun hgroup hours => ?_⟩
    · rw [hexec, if_neg]
      rw [groupFrame_iff]
      rintro ⟨hgroup, hours⟩
      exact hother.elim hgroup (· hours)
    · rw [if_pos ((groupFrame_iff s group).2 ⟨hgroup, hours⟩)] at hexec
      have htaken := takeGo_spec sender s
      obtain ⟨m, g, l, hshape⟩ : ∃ m g l, takeGo sender s = { s with
          motion := m, group := g, host := { s.host with events := l } } := ⟨_, _, _, takeGo_shape sender s⟩
      rw [hshape] at hexec htaken
      exact ⟨_, hexec, rfl, nofun, fun _ => ⟨rfl, rfl⟩, htaken⟩
  · have hon : s.hasRoom := ⟨by rw [hactive]; decide, hroom⟩
    have hexec := exec_sendGo ((mayCommandGroup_iff s).2 ⟨hactive, hleave, hgroup⟩) hsel
    have hqueued := queueFrame_queues .group (.go s.station.config.group) s hon
    have hchannel := queueFrame_shape .group (.go s.station.config.group) s hon
    rw [hchannel] at hexec
    have htaken := takeGo_spec s.station.config.station
      { s with channel := (queueFrame .group (.go s.station.config.group) s).channel }
    obtain ⟨m, g, l, hshape⟩ : ∃ m g l, takeGo s.station.config.station
        { s with channel := (queueFrame .group (.go s.station.config.group) s).channel } = { s with
          channel := (queueFrame .group (.go s.station.config.group) s).channel
          motion := m, group := g, host := { s.host with events := l } } := ⟨_, _, _, takeGo_shape _ _⟩
    rw [hshape] at hexec htaken
    exact ⟨fun hother => (hother.elim hgroup (· rfl)).elim, fun _ _ => ⟨_, hexec, rfl, fun _ => ⟨hqueued, rfl⟩,
      fun h => absurd rfl h, htaken⟩⟩

end Sys2Proof.Machine

/-! ## The timers of the scanner (R123 to R128, R143, R168; O55) -/

namespace Sys2Proof.Machine

/-! ### Guest notices (R126) -/

theorem guest_noClaim (a b c : Nat) : (Payload.guest a b c).NoClaim := fun _ _ _ _ => nofun

theorem offerNotice_eq (s : State) : offerNotice s =
    offerFrame .motion Payload.isGuest (.guest s.herePair.1 s.herePair.2 (zoneCode s.zone)) s := by
  have hplace : s.placeOrZero = s.herePair := rfl
  rw [offerNotice, hplace]

theorem isGuest_eq_false {p : Payload} (h : ∀ n k z, p ≠ .guest n k z) : p.isGuest = false := by
  cases p <;> simp_all [Payload.isGuest]

/-- Where no notice is queued a new one is (R126). -/
theorem offerNotice_new {s : State} (hnone : ∀ q ∈ s.channel.queue, ∀ n k z, q.payload ≠ .guest n k z) :
    offerNotice s = queueFrame .motion (.guest s.herePair.1 s.herePair.2 (zoneCode s.zone)) s := by
  rw [offerNotice_eq, offerFrame_new]
  intro q hq hguest
  rw [isGuest_eq_false (hnone q hq)] at hguest
  cases hguest

/-- The block once a change of the zone has been shown, before the notice (R126). -/
def State.zoned (s : State) (old : Zone) : State := { s with
  motion := { s.motion with noticeMs := 0 }
  host := { s.host with
    events := s.withEvents [.guestZone s.zone old (s.odo.entry.map fun e => (e.segment, e.cell))] } }

theorem zoneChanged_eq {old : Zone} {s : State} (h : s.zone ≠ old) : zoneChanged old s = offerNotice (s.zoned old) := by
  rw [zoneChanged, if_neg h, post_events]
  rfl

/-- What a change of the zone does (R126). -/
theorem zoneChanged_spec {old : Zone} {s : State} (h : s.zone ≠ old) :
    (zoneChanged old s).motion = { s.motion with noticeMs := 0 } ∧ (zoneChanged old s).group = s.group ∧
    (∃ es, es.length ≤ 2 ∧ .guestZone s.zone old (s.odo.entry.map fun e => (e.segment, e.cell)) ∈ es ∧
      Brings s es (zoneChanged old s)) ∧ Roomy s (zoneChanged old s) := by
  rw [zoneChanged_eq h]
  have hzoned : Brings s [.guestZone s.zone old (s.odo.entry.map fun e => (e.segment, e.cell))] (s.zoned old) :=
    ⟨rfl, rfl, fun n hn => hn⟩
  have hroomy := offerFrame_roomy .motion Payload.isGuest
    (.guest (s.zoned old).herePair.1 (s.zoned old).herePair.2 (zoneCode (s.zoned old).zone)) (s.zoned old)
  obtain ⟨es, hes, hoffered⟩ := offerFrame_brings .motion Payload.isGuest
    (guest_noClaim (s.zoned old).herePair.1 (s.zoned old).herePair.2 (zoneCode (s.zoned old).zone)) (s.zoned old)
  rw [← offerNotice_eq] at hroomy hoffered
  refine ⟨by simp [State.zoned], by simp [State.zoned], ⟨_, ?_, ?_, hzoned.trans hoffered⟩, hroomy⟩
  · simp only [List.length_append, List.length_singleton]
    omega
  · exact List.mem_append_left _ (List.mem_singleton_self _)

/-! ### The end of the hold sent for the guest (R123, R143) -/

theorem dropHold_eq {o : Nat} {cause : HoldRemoval} {s : State} {h : HoldEntry}
    (hh : s.group.holds.find? (·.originator == o) = some h) : dropHold o cause s = { s with
      group := { s.group with holds := s.group.holds.filter fun x => !(x.originator == o) }
      host := { s.host with
        events := s.withEvents [.holdRemoved o cause h.holdType h.reason
          (s.group.holds.filter fun x => !(x.originator == o)).length] } } := by
  rw [dropHold, hh]
  simp only [post_events]
  rfl

theorem filter_of_not_found {l : List HoldEntry} {o : Nat} (h : l.find? (·.originator == o) = none) :
    l.filter (fun x => !(x.originator == o)) = l :=
  List.filter_eq_self.2 fun x hx => by simpa using List.find?_eq_none.1 h x hx

/-- The hold set after the entry of an originator has gone, where that changes no motion state (R140, R148). -/
theorem removeHold_group (o : Nat) (cause : HoldRemoval) (s : State) (hguest : s.motion.state = .guestStop) :
    (removeHold o cause s).group = { s.group with holds := s.group.holds.filter fun x => !(x.originator == o) } := by
  cases hh : s.group.holds.find? (·.originator == o) with
  | none =>
    have hany : s.group.holds.any (·.originator == o) = false := by simpa using hh
    rw [removeHold, if_neg (by simp [hany]), filter_of_not_found hh]
  | some h =>
    have hkey := List.find?_some hh
    have hany : s.group.holds.any (·.originator == o) = true :=
      List.any_eq_true.2 ⟨h, List.mem_of_find?_eq_some hh, hkey⟩
    have hdropped : (dropHold o cause s).motion.state = .guestStop := by rw [dropHold_eq hh]; exact hguest
    rw [removeHold, if_pos hany]
    simp only [holdsEmptied_standing _ hdropped, ite_self]
    rw [dropHold_eq hh]

/-- Offering the HOLD frame restarts the repeat interval, and touches nothing else of group control (R144). -/
theorem offerHold_repeats (s : State) :
    (offerHold s).group = { s.group with repeatMs := (offerHold s).group.repeatMs } := by
  unfold offerHold
  split
  · rfl
  · split
    · simp
    · rfl

/-- The hold that was sent for the guest has ended, as GUEST_STOP is left (R123, R143). -/
theorem releaseGuestHold_group {s : State} (hguest : s.motion.state = .guestStop) :
    (releaseGuestHold true s).group.retained = s.group.retained ∧
    (s.motion.holdSent = false → (releaseGuestHold true s).group.holds = s.group.holds) ∧
    (s.motion.holdSent = true → (releaseGuestHold true s).group.guestMark = false ∧
      (s.group.hostMark = none → (releaseGuestHold true s).group.holds =
        s.group.holds.filter fun h => !(h.originator == s.station.config.station)) ∧
      (s.group.hostMark ≠ none →
        (releaseGuestHold true s).group.holds.map (·.originator) = s.group.holds.map (·.originator))) := by
  cases hsent : s.motion.holdSent with
  | false =>
    have hkept : releaseGuestHold true s = s := if_neg (by rw [hsent]; decide)
    rw [hkept]
    exact ⟨rfl, fun _ => rfl, nofun⟩
  | true =>
    rw [releaseGuestHold, if_pos hsent]
    generalize hu : (s.onMotion fun m => { m with holdSent := false }).onGroup (fun g => { g with guestMark := false }) = u
    have hgroup : u.group = { s.group with guestMark := false } := by rw [← hu]; rfl
    have hstation : u.station = s.station := by rw [← hu]; rfl
    have hstate : u.motion.state = .guestStop := by rw [← hu]; exact hguest
    have hvalues : u.group.ownValues = s.group.hostMark := by rw [hgroup]; rfl
    rw [lowerOwnHold, hvalues]
    cases hmark : s.group.hostMark with
    | none =>
      have hremoved := removeHold_group u.cfg.station .ownCleared u hstate
      simp only [if_true, queueResume, queueFrame_frame, onGroup_group, hremoved]
      rw [hgroup, show u.cfg.station = s.station.config.station from congrArg (·.config.station) hstation]
      exact ⟨rfl, nofun, fun _ => ⟨rfl, fun _ => rfl, fun h => absurd rfl h⟩⟩
    | some m =>
      obtain ⟨ty, re⟩ := m
      cases hown : u.ownHold? with
      | none =>
        rw [hgroup]
        exact ⟨rfl, nofun, fun _ => ⟨rfl, nofun, fun _ => rfl⟩⟩
      | some h =>
        dsimp only
        split
        · rw [changeHold_standing h ty re none u hstate, offerHold_repeats]
          simp only [State.reheld, hgroup, List.map_map]
          refine ⟨trivial, nofun, fun _ => ⟨trivial, nofun, fun _ => List.map_congr_left fun x _ => ?_⟩⟩
          rw [Function.comp_apply]
          split <;> rfl
        · rw [hgroup]
          exact ⟨rfl, nofun, fun _ => ⟨rfl, nofun, fun _ => rfl⟩⟩

/-- A RESUME frame stands in the queue as a new frame of group control. -/
def State.Resumes (s : State) : Prop :=
  ∃ q ∈ s.channel.queue, q.payload = .resume s.station.config.group ∧ q.age = 0 ∧ q.owner = .group

/-- With no host mark the RESUME frame follows the hold that was sent for the guest (R143, R146). -/
theorem releaseGuestHold_resumes {s : State} (hguest : s.motion.state = .guestStop) (hsent : s.motion.holdSent = true)
    (hmark : s.group.hostMark = none) (hroom : s.hasRoom) : (releaseGuestHold true s).Resumes := by
  rw [releaseGuestHold, if_pos hsent]
  generalize hu : (s.onMotion fun m => { m with holdSent := false }).onGroup (fun g => { g with guestMark := false }) = u
  have hroomy : u.hasRoom := by rw [← hu]; exact hroom
  have hstate : u.motion.state = .guestStop := by rw [← hu]; exact hguest
  have hvalues : u.group.ownValues = none := by rw [← hu, ← hmark]; rfl
  rw [lowerOwnHold, hvalues]
  dsimp only
  rw [if_pos rfl]
  have hshape := (removeHold_standing u.cfg.station .ownCleared u hstate).1
  have hspace : ((removeHold u.cfg.station .ownCleared u).onGroup fun g => { g with repeatMs := 0 }).hasRoom := by
    rw [hshape]
    exact hroomy
  have hwaits := queueFrame_waits .group (.resume u.cfg.group) _ hspace
  unfold State.Resumes
  simpa [queueResume, State.cfg] using hwaits

/-! ### GUEST_CLEARED (R124) -/

/-- The block once GUEST_CLEARED has shown the zone CLEAR (R124, R126). -/
def State.guestGone (s : State) : State :=
  zoneChanged s.zone (s.onMotion fun m => { m with latch := false, restartMs := 0 })

/-- The block of a robot in GUEST_STOP once its latch has been cleared and the hold sent for the guest has ended, and the
motion state that it goes to (R123, R124). -/
def State.leavingGuestStop (s : State) : State := releaseGuestHold true s.guestGone

def State.afterGuestStop (s : State) : MotionState :=
  if s.station.config.manualRestart = true ∨ s.odo.entry = none then .idle
  else if s.group.retained = true ∧ s.group.holds = [] then .retained
  else s.movingState

theorem exec_guestCleared {s : State} (hruns : s.restartRuns = true) : exec .guestCleared s =
    if s.guestGone.motion.state = .guestStop then
      if s.leavingGuestStop.cfg.manualRestart ∨ s.leavingGuestStop.odo.entry.isNone then
        .next (endOfStep (move .idle .guestCleared s.leavingGuestStop))
      else if s.leavingGuestStop.group.retained ∧ s.leavingGuestStop.group.holds.isEmpty then
        .next (endOfStep (move .retained .guestCleared s.leavingGuestStop))
      else .next (endOfStep (enterMoving .guestCleared s.leavingGuestStop))
    else .next (endOfStep s.guestGone) := by
  show execGuestCleared s = _
  rw [execGuestCleared, if_pos hruns]
  rfl

theorem exec_guestCleared_standing {s : State} (hruns : s.restartRuns = true)
    (hguest : s.guestGone.motion.state = .guestStop) :
    ∃ k, exec .guestCleared s = .next (endOfStep (move s.leavingGuestStop.afterGuestStop k s.leavingGuestStop)) := by
  rw [exec_guestCleared hruns, if_pos hguest]
  simp only [Option.isNone_iff_eq_none, List.isEmpty_iff]
  unfold State.afterGuestStop
  by_cases hidle : s.leavingGuestStop.station.config.manualRestart = true ∨ s.leavingGuestStop.odo.entry = none
  · exact ⟨.guestCleared, (if_pos hidle).trans (by rw [if_pos hidle])⟩
  · by_cases hretained : s.leavingGuestStop.group.retained = true ∧ s.leavingGuestStop.group.holds = []
    · exact ⟨.guestCleared, (if_neg hidle).trans (by rw [if_neg hidle, if_pos hretained, if_pos hretained])⟩
    · exact ⟨s.leavingGuestStop.movingCause .guestCleared,
        (if_neg hidle).trans (by rw [if_neg hidle, if_neg hretained, if_neg hretained, enterMoving_eq])⟩

/-- What the zone going CLEAR leaves, before a robot leaves GUEST_STOP (R124, R126). -/
theorem guestGone_spec {s : State} (hlatch : s.motion.latch = true) (hwarning : s.motion.warning = false) :
    s.guestGone.motion = { s.motion with latch := false, restartMs := 0, noticeMs := 0 } ∧ s.guestGone.group = s.group ∧
    (∃ es, es.length ≤ 2 ∧ .guestZone .clear .protective (s.odo.entry.map fun e => (e.segment, e.cell)) ∈ es ∧
      Brings s es s.guestGone) ∧ Roomy s s.guestGone := by
  have hold : s.zone = .protective := by simp [State.zone, hlatch]
  have hnew : (s.onMotion fun m => { m with latch := false, restartMs := 0 }).zone = .clear := by
    simp [State.zone, hwarning]
  obtain ⟨hmotion, hgroup, ⟨es, hes, hshown, hbrings⟩, hroomy⟩ := zoneChanged_spec (old := s.zone)
    (s := s.onMotion fun m => { m with latch := false, restartMs := 0 }) (by rw [hnew, hold]; decide)
  rw [hnew, hold] at hshown
  exact ⟨hmotion, hgroup, ⟨es, hes, hshown, hbrings.station, hbrings.events, hbrings.frames⟩, hroomy⟩

/-! ### A change to any state, IDLE among them (R73, R91, R111) -/

theorem endOccupancy_brings (n : Nat) (s : State) : BringsAtMost s 1 (endOccupancy n s) := by
  unfold endOccupancy
  split
  · exact .same 1 rfl rfl fun _ hq => hq
  · split
    · split
      · exact endOwn_brings _ _ _ s
      · exact .same 1 rfl rfl fun _ hq => hq
    · exact .same 1 rfl rfl fun _ hq => hq

/-- A change of the motion state posts two events at most, the second at the end of an occupancy (R91, R111). -/
theorem moveTo_brings (new : MotionState) (k : MotionCause) (f : FaultSet) (s : State) :
    BringsAtMost s 2 (moveTo new k f s) := by
  unfold moveTo
  split
  · exact .same 2 rfl rfl fun _ hq => hq
  · have hmoved : BringsAtMost s 1 (post (.motion s.motion.state new k
        ((s.onMotion fun m => m.moved new f s.cfg.crawl).onGroup fun g =>
          { g with retained := g.retained && keepsRetained new }).motion.ceiling s.currentSegment f)
        ((s.onMotion fun m => m.moved new f s.cfg.crawl).onGroup fun g =>
          { g with retained := g.retained && keepsRetained new })) := by
      rw [post_events]
      exact .one _ rfl rfl fun _ hq => hq
    dsimp only
    split
    · exact hmoved.trans (endOccupancy_brings _ _)
    · exact hmoved.mono (by omega)

/-- Frames that are no CLAIM frames stay in the queue as the motion state changes (R91). -/
theorem moveTo_keeps_frame {new : MotionState} {k : MotionCause} {f : FaultSet} {s : State} {q : Queued}
    (hq : q ∈ s.channel.queue) (hclaim : ∀ n, isClaimFor n q = false) : q ∈ (moveTo new k f s).channel.queue := by
  have hended (n : Nat) (u : State) (hu : u.channel = s.channel) : q ∈ (endOccupancy n u).channel.queue := by
    rw [← hu] at hq
    unfold endOccupancy
    split
    · exact hq
    · next r hr =>
      split
      · split
        · rw [endOwn_eq hr]
          exact List.mem_filter.2 ⟨hq, by rw [hclaim n]; rfl⟩
        · exact hq
      · exact hq
  unfold moveTo
  split
  · exact hq
  · dsimp only
    split
    · exact hended _ _ (by rw [post_events]; rfl)
    · rw [post_events]
      exact hq

theorem moveTo_group (new : MotionState) (k : MotionCause) (f : FaultSet) (s : State) :
    (moveTo new k f s).group = { s.group with retained := (moveTo new k f s).group.retained } := by
  by_cases hstate : s.motion.state = new
  · rw [moveTo_self _ _ _ _ hstate]
  · rw [(moveTo_values _ _ _ s hstate).2]

/-- The fields of the motion supervisor that no change of state touches. -/
theorem moveTo_scanner (new : MotionState) (k : MotionCause) (f : FaultSet) (s : State) :
    (moveTo new k f s).motion.latch = s.motion.latch ∧ (moveTo new k f s).motion.warning = s.motion.warning ∧
      (moveTo new k f s).motion.restartMs = s.motion.restartMs ∧ (moveTo new k f s).motion.noticeMs = s.motion.noticeMs ∧
      (moveTo new k f s).motion.holdSent = s.motion.holdSent := by
  by_cases hstate : s.motion.state = new
  · rw [moveTo_self _ _ _ _ hstate]
    exact ⟨rfl, rfl, rfl, rfl, rfl⟩
  · rw [(moveTo_values _ _ _ s hstate).1]
    exact ⟨rfl, rfl, rfl, rfl, rfl⟩

/-- GUEST_CLEARED at a robot whose restart timer has run (R123, R124). -/
theorem guestCleared_spec {s : State} (hlatch : s.motion.latch = true) (hprot : s.motion.lastProt = false)
    (hwarning : s.motion.warning = false) : ∃ t,
    exec .guestCleared s = .next (endOfStep t) ∧ t.motion.latch = false ∧ t.zone = .clear ∧ t.motion.restartMs = 0 ∧
      t.motion.noticeMs = 0 ∧ t.station = s.station ∧ t.segs = s.segs ∧ t.odo = s.odo ∧ t.dosing = s.dosing ∧
      (s.channel.queue.length < 7 → ∃ x ∈ t.host.events, x.event =
        .guestZone .clear .protective (s.odo.entry.map fun e => (e.segment, e.cell))) ∧
      (s.motion.state ≠ .guestStop → t.motion.state = s.motion.state ∧ t.motion.ceiling = s.motion.ceiling ∧
        t.group = s.group) ∧
      (s.motion.state = .guestStop → t.motion.holdSent = false ∧
        (s.motion.holdSent = false → t.group.holds = s.group.holds) ∧
        (s.motion.holdSent = true → t.group.guestMark = false ∧
          (s.group.hostMark = none →
            t.group.holds = s.group.holds.filter (fun h => !(h.originator == s.station.config.station)) ∧
            (s.station.state ≠ .offline → s.channel.queue.length < 7 → ∃ q ∈ t.channel.queue,
              q.payload = .resume s.station.config.group ∧ q.age = 0 ∧ q.owner = .group)) ∧
          (s.group.hostMark ≠ none → t.group.holds.map (·.originator) = s.group.holds.map (·.originator))) ∧
        t.motion.state = (if s.station.config.manualRestart = true ∨ s.odo.entry = none then .idle
        else if s.group.retained = true ∧ t.group.holds = [] then .retained
        else if t.group.holds ≠ [] then .groupHold
        else if s.cautionCause then .caution else .run)) := by
  have hruns : s.restartRuns = true := by simp [State.restartRuns, hlatch, hprot, hwarning]
  obtain ⟨hmotion, hgroup, ⟨es, hes, hshown, hgone⟩, hroomy⟩ := guestGone_spec hlatch hwarning
  by_cases hguest : s.motion.state = .guestStop
  · have hstate : s.guestGone.motion.state = .guestStop := by rw [hmotion]; exact hguest
    have hsent : s.guestGone.motion.holdSent = s.motion.holdSent := by rw [hmotion]
    obtain ⟨hreleased, ⟨es', hes', hbrings⟩, -⟩ := releaseGuestHold_standing true s.guestGone hstate
    obtain ⟨hretained, hnone, hheld⟩ := releaseGuestHold_group hstate
    rw [hgroup, hsent, hgone.station] at hheld
    rw [hgroup, hsent] at hnone
    rw [hgroup] at hretained
    change s.leavingGuestStop.motion = _ at hreleased
    change s.leavingGuestStop.group.retained = _ at hretained
    change _ → s.leavingGuestStop.group.holds = _ at hnone
    change _ → s.leavingGuestStop.group.guestMark = _ ∧ _ at hheld
    obtain ⟨k, hexec⟩ := exec_guestCleared_standing hruns hstate
    obtain ⟨es'', hes'', hmoved⟩ := moveTo_brings s.leavingGuestStop.afterGuestStop k FaultSet.empty s.leavingGuestStop
    obtain ⟨hmlatch, hmwarning, hmrestart, hmnotice, hmsent⟩ :=
      moveTo_scanner s.leavingGuestStop.afterGuestStop k FaultSet.empty s.leavingGuestStop
    have hsegs : s.leavingGuestStop.segs = s.segs := by simp [State.leavingGuestStop, State.guestGone]
    have hodo : s.leavingGuestStop.odo = s.odo := by simp [State.leavingGuestStop, State.guestGone]
    have hdosing : s.leavingGuestStop.dosing = s.dosing := by simp [State.leavingGuestStop, State.guestGone]
    have hstation : s.leavingGuestStop.station = s.station := by simp [State.leavingGuestStop, State.guestGone]
    have hgroup' := moveTo_group s.leavingGuestStop.afterGuestStop k FaultSet.empty s.leavingGuestStop
    have hcause : s.leavingGuestStop.cautionCause = s.cautionCause :=
      cautionCause_congr (by rw [hreleased, hmotion]) (by rw [hreleased, hmotion]) hsegs hodo
    refine ⟨_, hexec, ?_⟩
    rw [move]
    rw [hreleased, hmotion] at hmlatch hmwarning hmrestart hmnotice hmsent
    refine ⟨hmlatch, ?_, hmrestart, hmnotice, ?_, ?_, ?_, ?_, fun _ => ?_, fun h => absurd hguest h, fun _ => ⟨hmsent, ?_, ?_,
      ?_⟩⟩
    · simp only [State.zone, hmlatch, hmwarning, hwarning]
      rfl
    · simp [hstation]
    · simp [hsegs]
    · simp [hodo]
    · simp [hdosing]
    · rw [((hgone.trans hbrings).trans hmoved).events]
      refine mem_withEvents s ?_ (List.mem_append_left _ (List.mem_append_left _ hshown))
      simp only [List.length_append]
      omega
    · rw [hgroup']
      exact hnone
    · intro hs
      obtain ⟨hmark, hcleared, hkept⟩ := hheld hs
      rw [hgroup']
      refine ⟨hmark, fun hnomark => ⟨hcleared hnomark, fun hon hlen => ?_⟩, hkept⟩
      obtain ⟨-, -, hlength⟩ := hroomy ⟨hon, by omega⟩
      obtain ⟨q, hq, hpayload, hage, howner⟩ := releaseGuestHold_resumes hstate (by rw [hsent]; exact hs)
        (by rw [hgroup]; exact hnomark) ⟨by rw [hgone.station]; exact hon, by omega⟩
      rw [hbrings.station, hgone.station] at hpayload
      refine ⟨q, moveTo_keeps_frame hq fun n => ?_, hpayload, hage, howner⟩
      simp only [isClaimFor, hpayload]
    · rw [moveTo_state, hgroup']
      simp only [State.afterGuestStop, State.movingState, hstation, hodo, hretained, hreleased, hmotion, hcause]
      rfl
  · have hstate : s.guestGone.motion.state ≠ .guestStop := by rw [hmotion]; exact hguest
    refine ⟨_, (exec_guestCleared hruns).trans (if_neg hstate), by rw [hmotion], ?_, by rw [hmotion], by rw [hmotion],
      hgone.station, by simp [State.guestGone], by simp [State.guestGone], by simp [State.guestGone], fun _ => ?_,
      fun _ => ⟨by rw [hmotion], by rw [hmotion], hgroup⟩, fun h => absurd h hguest⟩
    · simp [State.zone, hmotion, hwarning]
    · rw [hgone.events]
      exact mem_withEvents s (by omega) hshown

/-! ### GUEST_BLOCKED (R125) -/

theorem guestSeconds_eq {ms : Nat} (h : ms < 65536000) : guestSeconds ms = ms / 1000 :=
  if_pos (by omega)

theorem exec_guestBlocked {s : State} (hguest : s.motion.state = .guestStop)
    (hraised : s.motion.guestBlockedRaised = false) : exec .guestBlocked s =
      if s.motion.lastProt then .next (endOfStep (raiseHere 1 (guestSeconds (max s.motion.guestBlockedMs 120000))
        { s with motion := { s.motion with
          guestBlockedMs := max s.motion.guestBlockedMs 120000, guestBlockedRaised := true } }))
      else .next { s with motion := { s.motion with guestBlockedMs := max s.motion.guestBlockedMs 120000 } } := by
  show execGuestBlocked s = _
  rw [execGuestBlocked, if_pos ⟨hguest, by rw [hraised]; rfl⟩]
  rfl

/-- Raising a callout with room in both lists changes the callout unit and the queue alone (R168, R171). -/
theorem raiseHere_shape {s : State} (code detail : Nat) (hrobot : s.isDepot = false)
    (hstate : s.station.state = .active ∨ s.station.state = .listening) (hown : s.callout.own.length < 4)
    (hqueue : s.channel.queue.length < 8) : raiseHere code detail s = { s with
      channel := (raiseHere code detail s).channel, callout := (raiseHere code detail s).callout } := by
  have hon : s.station.state ≠ .offline := by rcases hstate with h | h <;> rw [h] <;> decide
  have hroom (u : State) (hstation : u.station = s.station) (hchannel : u.channel = s.channel) : u.hasRoom := by
    rw [State.hasRoom, hstation, hchannel]
    exact ⟨hon, hqueue⟩
  unfold raiseHere raise
  rw [if_neg (by simp [hrobot]), if_pos ⟨hstate, hown⟩]
  dsimp only
  rw [queueOwnCallout, queueFrame_shape _ _ (State.onCallout _ (takeSeq s.nextSeq s)) (hroom _ rfl rfl)]
  rfl

theorem robot_is_no_depot {s : State} (h : s.isRobot = true) : s.isDepot = false := by
  cases hcls : s.cfg.cls <;> simp_all [State.isRobot, State.isDepot]

/-! ### NOTICE_INTERVAL and SEIZE_CAUTION_PERIOD (R126, R128) -/

theorem exec_noticeInterval {s : State} (h : s.zone ≠ .clear) :
    exec .noticeInterval s = .next (endOfStep (offerNotice (s.onMotion fun m => { m with noticeMs := 0 }))) :=
  if_neg h

theorem exec_seizeCautionPeriod {s : State} {m : Nat} (h : s.motion.seizePeriod = some m) :
    exec .seizeCautionPeriod s = .next (endOfStep (evalCaution { s with motion := { s.motion with seizePeriod := none } })) :=
  if_pos (by rw [h]; rfl)

/-- With no seize period left, warning and peer guest are the causes of caution (R127, R128). -/
theorem cautionCause_unseized (s : State) :
    ({ s with motion := { s.motion with seizePeriod := none } } : State).cautionCause = true ↔
      s.motion.warning = true ∨ s.causePeer = true := by
  simp only [State.cautionCause, State.causeSeize, State.causeWarning, Option.isSome_none, Bool.or_false,
    Bool.or_eq_true]
  exact Iff.rfl

/-- The end of the seize caution period (R128). -/
theorem seizePeriod_ends {s : State} {m : Nat} (hperiod : s.motion.seizePeriod = some m) : ∃ t,
    exec .seizeCautionPeriod s = .next (endOfStep t) ∧
      t.motion.seizePeriod = none ∧ t.station = s.station ∧ t.segs = s.segs ∧ t.claims = s.claims ∧ t.odo = s.odo ∧
      t.channel = s.channel ∧
      (s.motion.state = .caution → t.motion.state =
        (if s.motion.warning = true ∨ s.causePeer = true then .caution else .run) ∧
        t.motion.ceiling = s.motion.ceiling) ∧
      (s.motion.state ≠ .run → s.motion.state ≠ .caution →
        t = { s with motion := { s.motion with seizePeriod := none } }) := by
  have hshape := evalCaution_shape { s with motion := { s.motion with seizePeriod := none } }
  refine ⟨_, exec_seizeCautionPeriod hperiod, ?_, by simp, by simp, by rw [hshape], by simp, by rw [hshape],
    fun hcaution => ?_, fun hrun hcaution => evalCaution_standing { s with motion := _ } hrun hcaution⟩
  · rcases evalCaution_moves { s with motion := { s.motion with seizePeriod := none } } with
      hsame | ⟨new, k, hnew, hstate, hmoves⟩
    · rw [hsame]
    · rw [hmoves, moveTo_eq _ _ _ hstate hnew]
      rfl
  · obtain ⟨hstate, hceiling, -⟩ := evalCaution_driving { s with motion := { s.motion with seizePeriod := none } }
      (.inr hcaution) rfl
    rw [hstate, hceiling, if_neg (show ¬ (_ ∧ s.motion.state = .run) from fun h => by simp [hcaution] at h)]
    refine ⟨?_, rfl⟩
    simp only [cautionCause_unseized]

/-- Settles O55. -/
theorem scannerTimers : Obligations.ScannerTimers := by
  intro s
  refine ⟨guestCleared_spec, fun hrobot hguest hraised => ⟨fun hprot => ?_, fun hprot hactive hown hqueue => ?_⟩,
    fun hraised => ?_, fun hzone hroom hnone => ?_, fun hzone => if_pos hzone, fun m hperiod => seizePeriod_ends hperiod⟩
  · rw [exec_guestBlocked hguest hraised, hprot]
    rfl
  · have hexec := exec_guestBlocked hguest hraised
    rw [hprot, if_pos rfl] at hexec
    have hdepot := robot_is_no_depot hrobot
    have hshape := raiseHere_shape (s := { s with motion := { s.motion with
      guestBlockedMs := max s.motion.guestBlockedMs 120000, guestBlockedRaised := true } }) 1
      (guestSeconds (max s.motion.guestBlockedMs 120000)) hdepot (.inl hactive) hown hqueue
    obtain ⟨c, hcallout, hcode, hdetail, hplace, hattempts, hretry⟩ := raiseHere_raises (s := { s with
      motion := { s.motion with guestBlockedMs := max s.motion.guestBlockedMs 120000, guestBlockedRaised := true } }) 1
      (guestSeconds (max s.motion.guestBlockedMs 120000)) hdepot (.inl hactive) hown hqueue
    refine ⟨_, hexec, by simp, by simp, by simp, by rw [hshape], by simp, by simp, by simp, by rw [hshape], c, hcallout,
      hcode, hattempts, hretry, hplace, fun hms => ?_⟩
    rw [hdetail]
    exact guestSeconds_eq (by omega)
  · exact if_neg fun h => by simp [hraised] at h
  · have hexec := exec_noticeInterval hzone
    rw [offerNotice_new (s := s.onMotion _) hnone] at hexec
    refine ⟨_, hexec, ?_, ?_⟩
    · conv_lhs => rw [queueFrame_shape _ _ (s.onMotion _) hroom]
      rfl
    · rintro place rfl
      exact queueFrame_queues .motion _ (s.onMotion fun m => { m with noticeMs := 0 }) hroom

end Sys2Proof.Machine

/-! ## The hold set (R137, R139 to R148; O57) -/

namespace Sys2Proof.Machine

/-! ### What the hold set does to the motion state (R147) -/

theorem effectiveHold_immediate {s : State}
    (h : s.station.config.alwaysImmediate = true ∨ ∃ x ∈ s.group.holds, x.holdType = .immediate) :
    s.effectiveHold = .immediate := by
  refine if_pos ?_
  rw [Bool.or_eq_true, List.any_eq_true]
  exact h.imp_right fun ⟨x, hx, himmediate⟩ => ⟨x, hx, by simp [himmediate]⟩

theorem effectiveHold_decelerate {s : State} (halways : s.station.config.alwaysImmediate = false)
    (hall : ∀ x ∈ s.group.holds, x.holdType = .decelerate) : s.effectiveHold = .decelerate := by
  refine if_neg ?_
  rw [Bool.or_eq_true, List.any_eq_true, not_or]
  refine ⟨by rw [State.cfg, halways]; decide, fun ⟨x, hx, himmediate⟩ => ?_⟩
  rw [hall x hx] at himmediate
  cases himmediate

theorem applyHold_immediate {s : State}
    (hstate : s.motion.state = .run ∨ s.motion.state = .caution ∨ s.motion.state = .stopping)
    (hhold : s.effectiveHold = .immediate) : applyHold s = move .groupHold .hold s := by
  rcases hstate with h | h | h <;> simp only [applyHold, h, hhold]

theorem applyHold_decelerate {s : State} (hstate : s.motion.state = .run ∨ s.motion.state = .caution)
    (hhold : s.effectiveHold = .decelerate) : applyHold s = enterStopping .groupHold .hold s := by
  rcases hstate with h | h <;> simp only [applyHold, h, hhold]

theorem applyHold_retained {s : State} (hstate : s.motion.state = .retained) :
    applyHold s = move .groupHold .hold s := by
  simp only [applyHold, hstate]

theorem applyHold_unmoved {s : State} (hstate : s.motion.state = .idle ∨ s.motion.state = .guestStop ∨
    s.motion.state = .faultStop ∨ s.motion.state = .groupHold) : applyHold s = s := by
  rcases hstate with h | h | h | h <;> simp only [applyHold, h]

/-- The block after an operation that may change the motion state: motion supervisor, retained flag and event queue. -/
def State.movedTo (s : State) (m : Motion) (retained : Bool) (es : List Event) : State := { s with
  motion := m, group := { s.group with retained := retained }, host := { s.host with events := s.withEvents es } }

/-- An operation that changes motion supervisor, retained flag and event queue alone, posting one event at most. -/
def MovesAlone (s t : State) : Prop := ∃ m retained es, es.length ≤ 1 ∧ t = s.movedTo m retained es

theorem MovesAlone.refl (s : State) : MovesAlone s s := ⟨s.motion, s.group.retained, [], by simp, rfl⟩

theorem move_movesAlone {new : MotionState} (k : MotionCause) (s : State) (hnew : new ≠ .idle) :
    MovesAlone s (move new k s) := by
  by_cases hstate : s.motion.state = new
  · rw [move, moveTo_self _ _ _ _ hstate]
    exact .refl s
  · rw [move, moveTo_eq _ _ _ hstate hnew]
    exact ⟨_, _, [_], le_rfl, rfl⟩

theorem enterStopping_movesAlone (e : StopEnd) (k : MotionCause) (s : State) : MovesAlone s (enterStopping e k s) := by
  obtain ⟨m, retained, es, hes, hmoved⟩ := move_movesAlone (new := .stopping) k
    (s.onMotion fun m => { m with stopEnd := e, stopFrom := if m.state = .caution then .caution else .run }) (by decide)
  exact ⟨m, retained, es, hes, hmoved⟩

theorem applyHold_movesAlone (s : State) : MovesAlone s (applyHold s) := by
  unfold applyHold
  split
  · split
    · exact move_movesAlone _ s (by decide)
    · exact enterStopping_movesAlone _ _ s
  · split
    · exact move_movesAlone _ s (by decide)
    · exact enterStopping_movesAlone _ _ s
  · split
    · exact move_movesAlone _ s (by decide)
    · exact ⟨_, s.group.retained, [], by simp, rfl⟩
  · exact move_movesAlone _ s (by decide)
  · exact .refl s

theorem permit_standing {s : State} (hrun : s.motion.state ≠ .run) (hcaution : s.motion.state ≠ .caution)
    (hstopping : s.motion.state ≠ .stopping) : s.permit = false := by
  simp [State.permit, hrun, hcaution, hstopping]

/-- A robot that is not in GROUP_HOLD comes to stand in it at once (R111, R114, R147). -/
theorem held_at_once {s : State} (h : s.motion.state ≠ .groupHold) :
    (move .groupHold .hold s).motion.state = .groupHold ∧ (move .groupHold .hold s).motion.ceiling = 0 ∧
      (move .groupHold .hold s).group = s.group := by
  rw [move]
  obtain ⟨hmotion, hgroup⟩ := moveTo_values .groupHold .hold FaultSet.empty s h
  rw [hmotion, hgroup, keepsRetained, Bool.and_true]
  exact ⟨rfl, rfl, rfl⟩

/-! ### Entries created, removed for another, and given new values (R140, R141) -/

/-- A new entry at the end of the set, with its event (R140). -/
def State.holdAdded (s : State) (k : Nat) (t : HoldType) (r : HoldReason) (expiry : Option Nat) : State := { s with
  group := { s.group with
    holds := s.group.holds ++ [⟨k, t, r, expiry, s.group.nextStamp⟩], nextStamp := s.group.nextStamp + 1 }
  host := { s.host with events := s.withEvents [.holdAdded k t r (s.group.holds.length + 1)] } }

theorem createHold_room {k : Nat} {t : HoldType} {r : HoldReason} {expiry : Option Nat} {s : State}
    (h : s.group.holds.length < 8) : createHold k t r expiry s = s.holdAdded k t r expiry := by
  have hroom : makeHoldRoom s = s := if_pos h
  have hlen : s.group.holds.length < Config.holdCap := h
  rw [createHold, hroom]
  dsimp only
  rw [if_pos hlen, post_events]
  simp [State.holdAdded, State.onGroup, State.withEvents]

/-- `oldestHold` names a received entry, with the earliest expiry and of several with the least stamp (R140). -/
theorem oldestHold_spec (l : List HoldEntry) : (oldestHold l = none → ∀ y ∈ l, y.expiry = none) ∧
    ∀ o, oldestHold l = some o → o ∈ l ∧ ∃ a, o.expiry = some a ∧
      ∀ y ∈ l, ∀ b, y.expiry = some b → a < b ∨ (a = b ∧ o.stamp ≤ y.stamp) := by
  induction l with
  | nil => simp [oldestHold]
  | cons x r ih =>
    obtain ⟨ihnone, ihsome⟩ := ih
    unfold oldestHold
    cases hx : x.expiry with
    | none =>
      refine ⟨fun h y hy => ?_, fun o ho => ?_⟩
      · rcases List.mem_cons.1 hy with rfl | hy
        · exact hx
        · exact ihnone h y hy
      · obtain ⟨hmem, a, ha, hleast⟩ := ihsome o ho
        refine ⟨List.mem_cons_of_mem _ hmem, a, ha, fun y hy b hb => ?_⟩
        rcases List.mem_cons.1 hy with rfl | hy
        · rw [hx] at hb
          cases hb
        · exact hleast y hy b hb
    | some a =>
      have hself (o : HoldEntry) (ho : o = x) (hrest : ∀ y ∈ r, ∀ b, y.expiry = some b → a < b ∨ (a = b ∧ x.stamp ≤ y.stamp)) :
          o ∈ x :: r ∧ ∃ a, o.expiry = some a ∧ ∀ y ∈ x :: r, ∀ b, y.expiry = some b → a < b ∨ (a = b ∧ o.stamp ≤ y.stamp) := by
        subst ho
        refine ⟨List.mem_cons_self, a, hx, fun y hy b hb => ?_⟩
        rcases List.mem_cons.1 hy with rfl | hy
        · rw [hx] at hb
          exact .inr ⟨by simpa using hb, le_rfl⟩
        · exact hrest y hy b hb
      cases hrest : oldestHold r with
      | none =>
        refine ⟨nofun, fun o ho => hself o (by simpa using ho.symm) fun y hy b hb => ?_⟩
        rw [ihnone hrest y hy] at hb
        cases hb
      | some o' =>
        obtain ⟨hmem, a', ha', hleast⟩ := ihsome o' hrest
        dsimp only
        rw [ha']
        dsimp only
        refine ⟨fun h => (by split at h <;> cases h), fun o ho => ?_⟩
        split at ho
        · next hle =>
          refine hself o (by simpa using ho.symm) fun y hy b hb => ?_
          have := hleast y hy b hb
          omega
        · next hle =>
          obtain rfl : o' = o := by simpa using ho
          refine ⟨List.mem_cons_of_mem _ hmem, a', ha', fun y hy b hb => ?_⟩
          rcases List.mem_cons.1 hy with rfl | hy
          · obtain rfl : a = b := by simpa [hx] using hb
            omega
          · exact hleast y hy b hb

theorem oldestHold_eq {l : List HoldEntry} {h : HoldEntry} {e : Nat} (hmem : h ∈ l) (hexpiry : h.expiry = some e)
    (hleast : ∀ y ∈ l, ∀ z, y.expiry = some z → y = h ∨ e < z ∨ (e = z ∧ h.stamp < y.stamp)) :
    oldestHold l = some h := by
  obtain ⟨hnone, hsome⟩ := oldestHold_spec l
  cases ho : oldestHold l with
  | none =>
    rw [hnone ho h hmem] at hexpiry
    cases hexpiry
  | some o =>
    obtain ⟨homem, a, ha, hfirst⟩ := hsome o ho
    rcases hleast o homem a ha with rfl | hlater
    · rfl
    · have := hfirst h hmem e hexpiry
      omega

/-- A full set gives up the entry with the earliest expiry for a new one (R140). -/
theorem createHold_full {k : Nat} {t : HoldType} {r : HoldReason} {expiry : Option Nat} {s : State} {h : HoldEntry}
    (hfull : s.group.holds.length = 8) (hkeys : (s.group.holds.map (·.originator)).Nodup) (hmem : h ∈ s.group.holds)
    (holdest : oldestHold s.group.holds = some h) :
    createHold k t r expiry s = (dropHold h.originator .replaced s).holdAdded k t r expiry ∧
      (dropHold h.originator .replaced s) = { s with
        group := { s.group with holds := s.group.holds.filter fun x => !(x.originator == h.originator) }
        host := { s.host with events := s.withEvents [.holdRemoved h.originator .replaced h.holdType h.reason 7] } } ∧
      (s.group.holds.filter fun x => !(x.originator == h.originator)).length = 7 := by
  have hfind : s.group.holds.find? (·.originator == h.originator) = some h := by
    cases hx : s.group.holds.find? (·.originator == h.originator) with
    | none => exact absurd (List.find?_eq_none.1 hx h hmem) (by simp)
    | some x =>
      have hkey : x.originator = h.originator := by simpa using List.find?_some hx
      rw [List.inj_on_of_nodup_map hkeys (List.mem_of_find?_eq_some hx) hmem hkey]
  have hlen : (s.group.holds.filter fun x => !(x.originator == h.originator)).length = 7 := by
    have hsplit := List.length_eq_length_filter_add (l := s.group.holds) (·.originator == h.originator)
    have hone : (s.group.holds.filter (·.originator == h.originator)).length = 1 := by
      have hcount := List.count_eq_one_of_mem hkeys (List.mem_map_of_mem (f := (·.originator)) hmem)
      rw [List.count, List.countP_map] at hcount
      rw [← List.countP_eq_length_filter]
      exact hcount
    omega
  have hdropped := dropHold_eq (cause := .replaced) hfind
  rw [hlen] at hdropped
  refine ⟨?_, hdropped, hlen⟩
  have hroom : makeHoldRoom s = dropHold h.originator .replaced s := by
    have hnot : ¬ s.group.holds.length < Config.holdCap := by rw [hfull]; decide
    rw [makeHoldRoom, if_neg hnot, holdest]
  have hless : (dropHold h.originator .replaced s).group.holds.length < 8 := by
    rw [hdropped]
    show (s.group.holds.filter fun x => !(x.originator == h.originator)).length < 8
    omega
  rw [← createHold_room hless, createHold, hroom, createHold, show makeHoldRoom (dropHold h.originator .replaced s) = _ from if_pos hless]

theorem enterStopping_values (e : StopEnd) (k : MotionCause) (s : State) (h : s.motion.state ≠ .stopping) :
    (enterStopping e k s).motion.state = .stopping ∧ (enterStopping e k s).motion.stopEnd = e ∧
      (enterStopping e k s).motion.ceiling = s.motion.ceiling := by
  obtain ⟨hmotion, -⟩ := moveTo_values .stopping k FaultSet.empty
    (s.onMotion fun m => { m with stopEnd := e, stopFrom := if m.state = .caution then .caution else .run }) h
  rw [enterStopping, move, hmotion]
  exact ⟨rfl, rfl, rfl⟩

/-- What an entry created or become IMMEDIATE does, by the motion state (R147). -/
theorem applyHold_spec (s : State) :
    (applyHold s).group.holds = s.group.holds ∧
    (∃ es, es.length ≤ 1 ∧ (applyHold s).host.events = s.withEvents es) ∧
    ((s.motion.state = .run ∨ s.motion.state = .caution ∨ s.motion.state = .stopping) → s.effectiveHold = .immediate →
      (applyHold s).motion.state = .groupHold ∧ (applyHold s).motion.ceiling = 0 ∧ (applyHold s).permit = false) ∧
    ((s.motion.state = .run ∨ s.motion.state = .caution) → s.effectiveHold = .decelerate →
      (applyHold s).motion.state = .stopping ∧ (applyHold s).motion.stopEnd = .groupHold ∧
        (applyHold s).motion.ceiling = s.motion.ceiling) ∧
    (s.motion.state = .retained → (applyHold s).motion.state = .groupHold ∧ (applyHold s).motion.ceiling = 0 ∧
      (applyHold s).permit = false ∧ (applyHold s).group.retained = s.group.retained) ∧
    ((s.motion.state = .idle ∨ s.motion.state = .guestStop ∨ s.motion.state = .faultStop ∨
      s.motion.state = .groupHold) → (applyHold s).motion = s.motion) := by
  obtain ⟨m, retained, es, hes, hmoved⟩ := applyHold_movesAlone s
  have hheld (h : s.motion.state ≠ .groupHold) : (move .groupHold .hold s).motion.state = .groupHold ∧
      (move .groupHold .hold s).motion.ceiling = 0 ∧ (move .groupHold .hold s).permit = false ∧
      (move .groupHold .hold s).group = s.group := by
    obtain ⟨hstate, hceiling, hgroup⟩ := held_at_once h
    exact ⟨hstate, hceiling, permit_standing (by rw [hstate]; decide) (by rw [hstate]; decide) (by rw [hstate]; decide),
      hgroup⟩
  refine ⟨by rw [hmoved]; rfl, ⟨es, hes, by rw [hmoved]; rfl⟩, fun hstate hhold => ?_, fun hstate hhold => ?_,
    fun hstate => ?_, fun hstate => by rw [applyHold_unmoved hstate]⟩
  · rw [applyHold_immediate hstate hhold]
    obtain ⟨h1, h2, h3, -⟩ := hheld (by rcases hstate with h | h | h <;> rw [h] <;> decide)
    exact ⟨h1, h2, h3⟩
  · rw [applyHold_decelerate hstate hhold]
    exact enterStopping_values _ _ s (by rcases hstate with h | h <;> rw [h] <;> decide)
  · rw [applyHold_retained hstate]
    obtain ⟨h1, h2, h3, h4⟩ := hheld (by rw [hstate]; decide)
    exact ⟨h1, h2, h3, by rw [h4]⟩

/-! ### HOLD heard (R137, R141) -/

theorem exec_hold (k group code reason : Nat) (s : State) :
    exec (.hold k group code reason) s = .next (endOfStep (receive k (hearHold k group code reason) s)) := rfl

theorem hearHold_ignored {k group code reason : Nat} {s : State}
    (h : s.station.config.group = 0 ∨ group ≠ s.station.config.group ∨ s.station.config.holdResponse = false ∨
      holdTypeOf code = none ∨ holdReasonOf reason = none) : hearHold k group code reason s = s := by
  unfold hearHold
  split
  · next t r ht hr =>
    refine if_neg fun ⟨hframe, hresponse⟩ => ?_
    obtain ⟨hgroup, hours⟩ := (groupFrame_iff s group).1 hframe
    have hresponse : s.station.config.holdResponse = true := hresponse
    rcases h with h | h | h | h | h
    · exact hgroup h
    · exact h hours
    · rw [h] at hresponse
      cases hresponse
    · rw [ht] at h
      cases h
    · rw [hr] at h
      cases h
  · rfl

theorem hearHold_taken {k group code reason : Nat} {ty : HoldType} {re : HoldReason} {s : State}
    (hgroup : s.station.config.group ≠ 0) (hours : group = s.station.config.group)
    (hresponse : s.station.config.holdResponse = true) (hcode : holdTypeOf code = some ty)
    (hreason : holdReasonOf reason = some re) : hearHold k group code reason s = receiveHold k ty re s := by
  simp only [hearHold, hcode, hreason]
  exact if_pos ⟨(groupFrame_iff s group).2 ⟨hgroup, hours⟩, hresponse⟩

theorem receiveHold_new {k : Nat} {ty : HoldType} {re : HoldReason} {s : State}
    (h : s.group.holds.find? (·.originator == k) = none) :
    receiveHold k ty re s = applyHold (createHold k ty re (some (s.station.clock + 30)) s) := by
  rw [receiveHold, h]
  rfl

theorem receiveHold_known {k : Nat} {ty : HoldType} {re : HoldReason} {s : State} {h : HoldEntry}
    (hh : s.group.holds.find? (·.originator == k) = some h) :
    receiveHold k ty re s = if h.holdType ≠ .immediate ∧ ty = .immediate then
      applyHold (s.reheld h ty re (some (s.station.clock + 30))) else s.reheld h ty re (some (s.station.clock + 30)) := by
  rw [receiveHold, hh]
  exact changeHold_eq h ty re _ s

/-- A new originator where the set has room (R140, R147). -/
theorem receiveHold_joins {k : Nat} {ty : HoldType} {re : HoldReason} {s : State}
    (h : s.group.holds.find? (·.originator == k) = none) (hroom : s.group.holds.length < 8) :
    (receiveHold k ty re s).group.holds =
      s.group.holds ++ [⟨k, ty, re, some (s.station.clock + 30), s.group.nextStamp⟩] ∧
    (∃ x ∈ (receiveHold k ty re s).host.events, x.event = .holdAdded k ty re (s.group.holds.length + 1)) ∧
    ((s.motion.state = .run ∨ s.motion.state = .caution) →
      ((s.station.config.alwaysImmediate = true ∨ ty = .immediate ∨ ∃ h ∈ s.group.holds, h.holdType = .immediate) →
        (receiveHold k ty re s).motion.state = .groupHold ∧ (receiveHold k ty re s).motion.ceiling = 0 ∧
          (receiveHold k ty re s).permit = false) ∧
      (s.station.config.alwaysImmediate = false → ty = .decelerate → (∀ h ∈ s.group.holds, h.holdType = .decelerate) →
        (receiveHold k ty re s).motion.state = .stopping ∧ (receiveHold k ty re s).motion.stopEnd = .groupHold ∧
          (receiveHold k ty re s).motion.ceiling = s.motion.ceiling)) ∧
    (s.motion.state = .retained → (receiveHold k ty re s).motion.state = .groupHold ∧
      (receiveHold k ty re s).group.retained = s.group.retained) ∧
    ((s.motion.state = .idle ∨ s.motion.state = .guestStop ∨ s.motion.state = .faultStop ∨
      s.motion.state = .groupHold) → (receiveHold k ty re s).motion = s.motion) := by
  rw [receiveHold_new h, createHold_room hroom]
  obtain ⟨hholds, ⟨es, hes, hevents⟩, himmediate, hdecelerate, hretained, hstays⟩ :=
    applyHold_spec (s.holdAdded k ty re (some (s.station.clock + 30)))
  refine ⟨hholds, ?_, fun hstate => ⟨fun hat => ?_, fun halways hty hall => ?_⟩, fun hstate => ?_, hstays⟩
  · rw [hevents.trans (withEvents_append s _ _)]
    exact mem_withEvents s (by simp only [List.length_append, List.length_singleton]; omega) (by simp)
  · refine himmediate (hstate.imp_right .inl) (effectiveHold_immediate ?_)
    rcases hat with hat | hat | ⟨x, hx, hat⟩
    · exact .inl hat
    · exact .inr ⟨_, List.mem_append_right _ (List.mem_singleton_self _), hat⟩
    · exact .inr ⟨x, List.mem_append_left _ hx, hat⟩
  · refine hdecelerate hstate (effectiveHold_decelerate halways fun x hx => ?_)
    rcases List.mem_append.1 hx with hx | hx
    · exact hall x hx
    · rw [List.mem_singleton.1 hx]
      exact hty
  · obtain ⟨h1, -, -, h2⟩ := hretained hstate
    exact ⟨h1, h2⟩

/-- A new originator where the set is full (R140). -/
theorem receiveHold_replaces {k : Nat} {ty : HoldType} {re : HoldReason} {s : State} {h : HoldEntry} {e : Nat}
    (hkeyed : s.Keyed) (hnew : s.group.holds.find? (·.originator == k) = none) (hfull : s.group.holds.length = 8)
    (hmem : h ∈ s.group.holds) (hexpiry : h.expiry = some e)
    (hleast : ∀ y ∈ s.group.holds, ∀ z, y.expiry = some z → y = h ∨ e < z ∨ (e = z ∧ h.stamp < y.stamp)) :
    (receiveHold k ty re s).group.holds = s.group.holds.filter (fun y => !(y.originator == h.originator)) ++
      [⟨k, ty, re, some (s.station.clock + 30), s.group.nextStamp⟩] ∧
    (∃ x ∈ (receiveHold k ty re s).host.events, x.event = .holdRemoved h.originator .replaced h.holdType h.reason 7) ∧
    ∃ x ∈ (receiveHold k ty re s).host.events, x.event = .holdAdded k ty re 8 := by
  obtain ⟨-, -, -, hkeys, -⟩ := hkeyed
  obtain ⟨hcreated, hdropped, hlen⟩ := createHold_full (k := k) (t := ty) (r := re)
    (expiry := some (s.station.clock + 30)) hfull hkeys hmem (oldestHold_eq hmem hexpiry hleast)
  rw [receiveHold_new hnew, hcreated, hdropped]
  obtain ⟨hholds, ⟨es, hes, hevents⟩, -⟩ := applyHold_spec (State.holdAdded { s with
      group := { s.group with holds := s.group.holds.filter fun x => !(x.originator == h.originator) }
      host := { s.host with events := s.withEvents [.holdRemoved h.originator .replaced h.holdType h.reason 7] } }
    k ty re (some (s.station.clock + 30)))
  have hposted := (hevents.trans (withEvents_append _ _ _)).trans (withEvents_append s _ _)
  have hmem' (x : Event) (hx : x ∈ [.holdRemoved h.originator .replaced h.holdType h.reason 7] ++
      ([.holdAdded k ty re ((s.group.holds.filter fun x => !(x.originator == h.originator)).length + 1)] ++ es)) := by
    have := mem_withEvents s (by simp only [List.length_append, List.length_singleton]; omega) hx
    rwa [← hposted] at this
  refine ⟨hholds, hmem' _ (by simp), ?_⟩
  rw [hlen] at hmem'
  exact hmem' _ (by simp)

end Sys2Proof.Machine

/-! ## The end of holds, the own hold and its frames (R140 to R148; O57) -/

namespace Sys2Proof.Machine

/-- A known originator's entry with the values of the frame (R141). -/
theorem reheld_holds {k : Nat} {ty : HoldType} {re : HoldReason} {expiry : Option Nat} {s : State} {h : HoldEntry}
    (hh : s.group.holds.find? (·.originator == k) = some h) : (s.reheld h ty re expiry).group.holds =
      s.group.holds.map fun x => if x.originator = k then
        { x with holdType := ty, reason := re, expiry := expiry, stamp := s.group.nextStamp } else x := by
  have hkey : h.originator = k := by simpa using List.find?_some hh
  rw [← hkey]
  rfl

/-- A known originator whose entry changes (R141, R147). -/
theorem receiveHold_changes {k : Nat} {ty : HoldType} {re : HoldReason} {s : State} {h : HoldEntry}
    (hh : s.group.holds.find? (·.originator == k) = some h) (hdiffers : h.holdType ≠ ty ∨ h.reason ≠ re) :
    (receiveHold k ty re s).group.holds = (s.group.holds.map fun x => if x.originator = k then
      { x with holdType := ty, reason := re, expiry := some (s.station.clock + 30), stamp := s.group.nextStamp } else x) ∧
    (∃ x ∈ (receiveHold k ty re s).host.events, x.event = .holdChanged k ty re s.group.holds.length) ∧
    ((h.holdType = .immediate ∨ ty = .decelerate) → (receiveHold k ty re s).motion = s.motion) ∧
    (h.holdType = .decelerate → ty = .immediate →
      ((s.motion.state = .run ∨ s.motion.state = .caution ∨ s.motion.state = .stopping ∨ s.motion.state = .retained) →
        (receiveHold k ty re s).motion.state = .groupHold ∧ (receiveHold k ty re s).motion.ceiling = 0 ∧
          (receiveHold k ty re s).permit = false) ∧
      ((s.motion.state = .idle ∨ s.motion.state = .guestStop ∨ s.motion.state = .faultStop ∨
        s.motion.state = .groupHold) → (receiveHold k ty re s).motion = s.motion)) := by
  have hkey : h.originator = k := by simpa using List.find?_some hh
  have hholds := reheld_holds (ty := ty) (re := re) (expiry := some (s.station.clock + 30)) hh
  have hposted : (s.reheld h ty re (some (s.station.clock + 30))).host.events =
      s.withEvents [.holdChanged k ty re s.group.holds.length] := by
    rw [← hkey]
    exact congrArg s.withEvents (if_pos hdiffers)
  rw [receiveHold_known hh]
  by_cases hbecomes : h.holdType ≠ .immediate ∧ ty = .immediate
  · obtain ⟨hnot, hty⟩ := hbecomes
    obtain ⟨hkept, ⟨es, hes, hevents⟩, himmediate, -, hretained, hstays⟩ :=
      applyHold_spec (s.reheld h ty re (some (s.station.clock + 30)))
    rw [if_pos ⟨hnot, hty⟩]
    refine ⟨hkept.trans hholds, ?_, fun hsame => ?_, fun _ _ => ⟨fun hstate => ?_, hstays⟩⟩
    · rw [hevents.trans (withEvents_of_events (s := s) (t := s.reheld h ty re (some (s.station.clock + 30))) rfl hposted es)]
      exact mem_withEvents s (by simp only [List.length_append, List.length_singleton]; omega) (by simp)
    · rcases hsame with hsame | hsame
      · exact absurd hsame hnot
      · rw [hty] at hsame
        cases hsame
    · by_cases hstate' : s.motion.state = .retained
      · obtain ⟨h1, h2, h3, -⟩ := hretained hstate'
        exact ⟨h1, h2, h3⟩
      · have hmoving : s.motion.state = .run ∨ s.motion.state = .caution ∨ s.motion.state = .stopping := by tauto
        refine himmediate hmoving (effectiveHold_immediate (.inr ?_))
        rw [hholds]
        exact ⟨_, List.mem_map_of_mem (List.mem_of_find?_eq_some hh), by rw [if_pos hkey]; exact hty⟩
  · rw [if_neg hbecomes]
    refine ⟨hholds, ?_, fun _ => rfl, fun hdecelerate hty => ?_⟩
    · rw [hposted]
      exact mem_withEvents s (by simp) (List.mem_singleton_self _)
    · exact absurd ⟨by rw [hdecelerate]; decide, hty⟩ hbecomes

/-- A known originator whose entry is only refreshed (R141). -/
theorem receiveHold_refreshes {k : Nat} {ty : HoldType} {re : HoldReason} {s : State} {h : HoldEntry}
    (hh : s.group.holds.find? (·.originator == k) = some h) (hty : h.holdType = ty) (hre : h.reason = re) :
    receiveHold k ty re s = { s with group := { s.group with
      nextStamp := s.group.nextStamp + 1
      holds := s.group.holds.map fun x => if x.originator = k then
        { x with holdType := ty, reason := re, expiry := some (s.station.clock + 30), stamp := s.group.nextStamp }
        else x } } := by
  rw [receiveHold_known hh, if_neg (fun hnot => hnot.1 (hty.trans hnot.2)), ← reheld_holds hh]
  have hsame : (if h.holdType ≠ ty ∨ h.reason ≠ re then
      [Event.holdChanged h.originator ty re s.group.holds.length] else []) = [] :=
    if_neg (not_or.2 ⟨not_not.2 hty, not_not.2 hre⟩)
  rw [State.reheld, hsame]
  rfl

/-! ### RESUME and HOLD_EXPIRY (R142, R148) -/

theorem removeHold_eq {o : Nat} {cause : HoldRemoval} {s : State} {h : HoldEntry}
    (hh : s.group.holds.find? (·.originator == o) = some h) : removeHold o cause s =
      if (s.group.holds.filter fun x => !(x.originator == o)) = [] then holdsEmptied (dropHold o cause s)
      else dropHold o cause s := by
  have hkey := List.find?_some hh
  have hany : s.group.holds.any (·.originator == o) = true :=
    List.any_eq_true.2 ⟨h, List.mem_of_find?_eq_some hh, hkey⟩
  rw [removeHold, if_pos hany]
  simp only [List.isEmpty_iff, dropHold_holds]

/-- An empty hold set changes the motion state, or the end of STOPPING, or nothing (R148). -/
theorem holdsEmptied_moves (s : State) : holdsEmptied s = s ∨ (∃ new k, holdsEmptied s = move new k s) ∨
    holdsEmptied s = s.onMotion fun m => { m with stopEnd := .idle } := by
  unfold holdsEmptied
  split
  · split
    · exact .inr (.inl ⟨_, _, rfl⟩)
    · split
      · exact .inr (.inl ⟨_, _, enterMoving_eq _ s⟩)
      · exact .inr (.inl ⟨_, _, rfl⟩)
  · split
    · split
      · exact .inr (.inl ⟨_, _, enterMoving_eq _ s⟩)
      · exact .inr (.inr rfl)
    · exact .inl rfl
  · exact .inl rfl

/-- A robot that was held goes on as R148 says. -/
theorem holdsEmptied_held {s : State} (hheld : s.motion.state = .groupHold) (hnone : s.group.holds = [])
    (hlatch : s.motion.latch = false) : (holdsEmptied s).motion.state =
      if s.group.retained = true then .retained else if s.odo.entry = none then .idle
        else if s.cautionCause then .caution else .run := by
  simp only [holdsEmptied, hheld]
  by_cases hretained : s.group.retained = true
  · rw [if_pos hretained, if_pos hretained]
    exact moveTo_state ..
  · rw [if_neg hretained, if_neg hretained]
    cases hentry : s.odo.entry with
    | none => exact moveTo_state ..
    | some e =>
      simp only [Option.isSome_some, if_true, enterMoving_state, State.movingState, hlatch, hnone]
      rfl

theorem holdsEmptied_unmoved {s : State} (hheld : s.motion.state ≠ .groupHold) (hstopping : s.motion.state ≠ .stopping) :
    holdsEmptied s = s := by
  unfold holdsEmptied
  split
  · next h => exact absurd h hheld
  · next h => exact absurd h hstopping
  · rfl

/-- At the end of an occupancy CLAIM frames may leave the queue, and no others (R91). -/
theorem moveTo_queue (new : MotionState) (k : MotionCause) (f : FaultSet) (s : State) :
    (moveTo new k f s).channel.queue.length ≤ s.channel.queue.length := by
  have hended (n : Nat) (u : State) : (endOccupancy n u).channel.queue.length ≤ u.channel.queue.length := by
    unfold endOccupancy
    split
    · exact le_rfl
    · next r hr =>
      split
      · split
        · rw [endOwn_eq hr]
          exact List.length_filter_le _ _
        · exact le_rfl
      · exact le_rfl
  unfold moveTo
  split
  · exact le_rfl
  · dsimp only
    split
    · exact (hended _ _).trans (by rw [post_events]; exact le_rfl)
    · rw [post_events]
      exact le_rfl

/-- What an empty hold set leaves alone, whatever the motion state (R148). -/
theorem holdsEmptied_spec (s : State) : BringsAtMost s 2 (holdsEmptied s) ∧
    (∀ q ∈ s.channel.queue, (∀ n, isClaimFor n q = false) → q ∈ (holdsEmptied s).channel.queue) ∧
    (holdsEmptied s).channel.queue.length ≤ s.channel.queue.length ∧
    (holdsEmptied s).group = { s.group with retained := (holdsEmptied s).group.retained } := by
  rcases holdsEmptied_moves s with h | ⟨new, k, h⟩ | h
  · rw [h]
    exact ⟨.same 2 rfl rfl fun _ hq => hq, fun q hq _ => hq, le_rfl, rfl⟩
  · rw [h]
    exact ⟨moveTo_brings _ _ _ s, fun q hq hclaim => moveTo_keeps_frame hq hclaim, moveTo_queue _ _ _ s, move_group new k s⟩
  · rw [h]
    exact ⟨.same 2 rfl rfl fun _ hq => hq, fun q hq _ => hq, le_rfl, rfl⟩

/-- An entry removed, with its event, and what follows where it was the last (R140, R142, R148). -/
theorem removeHold_spec {o : Nat} (cause : HoldRemoval) {s : State} {h : HoldEntry}
    (hh : s.group.holds.find? (·.originator == o) = some h) :
    (removeHold o cause s).group = { s.group with
      holds := s.group.holds.filter fun x => !(x.originator == o), retained := (removeHold o cause s).group.retained } ∧
    (∃ es, es.length ≤ 3 ∧ .holdRemoved o cause h.holdType h.reason
        (s.group.holds.filter fun x => !(x.originator == o)).length ∈ es ∧ Brings s es (removeHold o cause s)) ∧
    (removeHold o cause s).channel.queue.length ≤ s.channel.queue.length ∧
    ((s.group.holds.filter fun x => !(x.originator == o)) ≠ [] → (removeHold o cause s).motion = s.motion ∧
      (removeHold o cause s).group.retained = s.group.retained) ∧
    ((s.group.holds.filter fun x => !(x.originator == o)) = [] → s.motion.state = .groupHold → s.motion.latch = false →
      (removeHold o cause s).motion.state =
        if s.group.retained = true then .retained else if s.odo.entry = none then .idle
        else if s.cautionCause then .caution else .run) ∧
    (s.motion.state ≠ .groupHold → s.motion.state ≠ .stopping → (removeHold o cause s).motion = s.motion) := by
  have hdropped := dropHold_eq (cause := cause) hh
  have hposted : Brings s [.holdRemoved o cause h.holdType h.reason
      (s.group.holds.filter fun x => !(x.originator == o)).length] (dropHold o cause s) := by
    rw [hdropped]
    exact ⟨rfl, rfl, fun n hn => hn⟩
  rw [removeHold_eq hh]
  split
  · next hlast =>
    obtain ⟨⟨es, hes, hbrings⟩, -, hlength, hgroup⟩ := holdsEmptied_spec (dropHold o cause s)
    have hcause : (dropHold o cause s).cautionCause = s.cautionCause := by
      rw [hdropped]
      exact cautionCause_congr rfl rfl rfl rfl
    refine ⟨?_, ⟨_, ?_, List.mem_append_left _ (List.mem_singleton_self _), hposted.trans hbrings⟩, ?_,
      fun h => absurd hlast h, fun _ hheld hlatch => ?_, fun hheld hstopping => ?_⟩
    · rw [hgroup, hdropped]
    · simp only [List.length_append, List.length_singleton]
      omega
    · rw [hdropped] at hlength ⊢
      exact hlength
    · have hemptied := holdsEmptied_held (s := dropHold o cause s) (by rw [hdropped]; exact hheld)
        (by rw [hdropped]; exact hlast) (by rw [hdropped]; exact hlatch)
      rw [hcause] at hemptied
      rw [hemptied, hdropped]
    · rw [holdsEmptied_unmoved (by rw [hdropped]; exact hheld) (by rw [hdropped]; exact hstopping), hdropped]
  · next hmore =>
    refine ⟨by rw [hdropped], ⟨_, by simp, List.mem_singleton_self _, hposted⟩, by rw [hdropped],
      fun _ => by rw [hdropped]; exact ⟨rfl, rfl⟩, fun h => absurd h hmore, fun _ _ => by rw [hdropped]⟩

theorem exec_resume (k group : Nat) (s : State) :
    exec (.resume k group) s = .next (endOfStep (receive k (hearResume k group) s)) := rfl

theorem hearResume_ignored {k group : Nat} {s : State} (h : s.station.config.group = 0 ∨
    group ≠ s.station.config.group ∨ s.group.holds.find? (·.originator == k) = none) : hearResume k group s = s := by
  unfold hearResume
  split
  · next hframe =>
    obtain ⟨hgroup, hours⟩ := (groupFrame_iff s group).1 hframe
    have hnone := (h.resolve_left hgroup).resolve_left (not_not.2 hours)
    have hany : s.group.holds.any (·.originator == k) = false := by simpa using hnone
    exact if_neg (by rw [hany]; decide)
  · rfl

theorem exec_holdExpiry {k x : Nat} {s : State} {h : HoldEntry} (hh : s.group.holds.find? (·.originator == k) = some h)
    (hexpiry : h.expiry = some x) (hdue : x ≤ s.station.clock) :
    exec (.holdExpiry k) s = .next (endOfStep (removeHold k .expiry s)) := by
  show execHoldExpiry k s = _
  simp only [execHoldExpiry, hh, hexpiry]
  exact if_pos hdue

/-! ### The commands of the group (R139, R145, R146) -/

theorem group_refused {s : State} (hsel : s.host.heldSel = false)
    (h : s.station.config.group = 0 ∨ s.station.state ≠ .active ∨ s.station.leavePending = true) (code reason : Nat) :
    exec (.sendHold code reason) s = .next (s.answered [0x01]) ∧ exec .sendResume s = .next (s.answered [0x01]) ∧
      exec .sendGo s = .next (s.answered [0x01]) := by
  have hnot : ¬ s.mayCommandGroup = true := by
    rw [mayCommandGroup_iff]
    rintro ⟨hactive, hleave, hgroup⟩
    rcases h with h | h | h
    · exact hgroup h
    · exact h hactive
    · rw [h] at hleave
      cases hleave
  refine ⟨?_, ?_, ?_⟩
  · show execSendHold code reason s = _
    rw [execSendHold, whenTaken_taken _ _ hsel, if_neg hnot]
    rfl
  · show execSendResume s = _
    rw [execSendResume, whenTaken_taken _ _ hsel, if_neg hnot]
    rfl
  · show execSendGo s = _
    rw [execSendGo, whenTaken_taken _ _ hsel, if_neg hnot]
    rfl

theorem exec_sendHold {code reason : Nat} {s : State} (hmay : s.mayCommandGroup = true) (hsel : s.host.heldSel = false) :
    exec (.sendHold code reason) s =
      match holdTypeOf code, hostReasonOf reason with
      | some t, some r => .next (endOfStep (ok [byteOf (hostHold t r s).group.holds.length] (hostHold t r s)))
      | _, _ => .next (s.answered [0x02]) := by
  show execSendHold code reason s = _
  rw [execSendHold, whenTaken_taken _ _ hsel, if_pos hmay]
  rfl

theorem exec_sendResume {s : State} (hmay : s.mayCommandGroup = true) (hsel : s.host.heldSel = false) :
    exec .sendResume s =
      match s.group.hostMark.isSome, s.group.guestMark with
      | true, true => .next (endOfStep (ok [1] (lowerOwnHold true (s.onGroup fun g => { g with hostMark := none }))))
      | true, false => .next (endOfStep (ok [0] (lowerOwnHold true (s.onGroup fun g => { g with hostMark := none }))))
      | false, true => .next (endOfStep (ok [1] s))
      | false, false => .next (endOfStep (ok [0] (queueResume s))) := by
  show execSendResume s = _
  rw [execSendResume, whenTaken_taken _ _ hsel, if_pos hmay]
  rfl

theorem hostReasonOf_none {reason : Nat} (h : reason ≠ 1 ∧ reason ≠ 2) : hostReasonOf reason = none := by
  unfold hostReasonOf
  split
  · exact absurd rfl h.1
  · exact absurd rfl h.2
  · rfl

theorem hostReasonOf_some {reason : Nat} (h : reason = 1 ∨ reason = 2) : hostReasonOf reason = holdReasonOf reason := by
  rcases h with rfl | rfl <;> rfl

/-! ### The HOLD frame (R144) -/

theorem isHold_eq_false {p : Payload} (h : ∀ g y z, p ≠ .hold g y z) : p.isHold = false := by
  cases p <;> simp_all [Payload.isHold]

/-- Where no HOLD frame is queued a new one is, and the repeat interval starts again (R144). -/
theorem offerHold_new {s : State} {h : HoldEntry} (hown : s.ownHold? = some h) (hworking : s.working = true)
    (hnone : ∀ q ∈ s.channel.queue, ∀ g y z, q.payload ≠ .hold g y z) : offerHold s =
      queueFrame .group (.hold s.station.config.group (holdTypeCode h.holdType) (holdReasonCode h.reason))
        { s with group := { s.group with repeatMs := 0 } } := by
  simp only [offerHold, hown, hworking, if_true]
  refine offerFrame_new _ _ _ _ fun q hq hhold => ?_
  rw [isHold_eq_false (hnone q hq)] at hhold
  cases hhold

end Sys2Proof.Machine

/-! ## The own hold, and the hold set in all (R140 to R148; O57) -/

namespace Sys2Proof.Machine

/-- The block once SEND_HOLD has made the own hold, before its frame and its effect (R143, R145). -/
def State.ownHeld (s : State) (t : HoldType) (r : HoldReason) : State := { s with
  group := { s.group with
    hostMark := some (t, r), repeatMs := 0, nextStamp := s.group.nextStamp + 1
    holds := s.group.holds ++ [⟨s.station.config.station, t, r, none, s.group.nextStamp⟩] }
  host := { s.host with
    events := s.withEvents [.holdAdded s.station.config.station t r (s.group.holds.length + 1)] } }

/-- SEND_HOLD with no own hold yet: the entry, its HOLD frame, and what it does to the motion state (R143 to R147). -/
theorem hostHold_new {ty : HoldType} {re : HoldReason} {s : State} (hworking : s.working = true)
    (hmark : s.group.guestMark = false) (hown : s.ownHold? = none) (hroom : s.group.holds.length < 8)
    (hnone : ∀ q ∈ s.channel.queue, ∀ g y z, q.payload ≠ .hold g y z) :
    hostHold ty re s = applyHold (queueFrame .group
      (.hold s.station.config.group (holdTypeCode ty) (holdReasonCode re)) (s.ownHeld ty re)) := by
  have hmarked : (s.onGroup fun g => { g with hostMark := some (ty, re) }).ownHold? = none := hown
  have hvalues : (s.onGroup fun g => { g with hostMark := some (ty, re) }).group.ownValues = some (ty, re) := by
    simp [Group.ownValues, hmark]
  have hraised : hostHold ty re s = raiseOwnHold (s.onGroup fun g => { g with hostMark := some (ty, re) }) := by
    simp only [hostHold, hmarked]
  have hnew : (s.ownHeld ty re).ownHold? = some ⟨s.station.config.station, ty, re, none, s.group.nextStamp⟩ := by
    have hfind : s.group.holds.find? (·.originator == s.station.config.station) = none := hown
    simp [State.ownHold?, State.ownHeld, State.cfg, hfind]
  rw [hraised, raiseOwnHold, hvalues]
  simp only [hmarked]
  have hcreated := createHold_room (k := s.station.config.station) (t := ty) (r := re) (expiry := none)
    (s := s.onGroup fun g => { g with hostMark := some (ty, re) }) hroom
  refine congrArg applyHold ?_
  refine (congrArg (fun u => offerHold (u.onGroup fun g => { g with repeatMs := 0 })) hcreated).trans ?_
  exact offerHold_new (s := s.ownHeld ty re) hnew hworking hnone

/-- SEND_HOLD accepted (R145). -/
theorem sendHold_spec {code reason : Nat} {ty : HoldType} {re : HoldReason} {s : State}
    (hgroup : s.station.config.group ≠ 0) (hactive : s.station.state = .active) (hsel : s.host.heldSel = false)
    (hleave : s.station.leavePending = false) (hcode : holdTypeOf code = some ty) (hreason : reason = 1 ∨ reason = 2)
    (hre : holdReasonOf reason = some re) (hmark : s.group.guestMark = false) (hown : s.ownHold? = none)
    (hroom : s.group.holds.length < 8) (hqueue : s.channel.queue.length < 8)
    (hnone : ∀ q ∈ s.channel.queue, ∀ g y z, q.payload ≠ .hold g y z) : ∃ t,
    exec (.sendHold code reason) s = .next (endOfStep t) ∧ t.group.hostMark = some (ty, re) ∧
      t.group.holds = s.group.holds ++ [⟨s.station.config.station, ty, re, none, s.group.nextStamp⟩] ∧
      t.group.repeatMs = 0 ∧ t.host.reply = some [0x00, BitVec.ofNat 8 (s.group.holds.length + 1)] ∧
      t.station = s.station ∧ t.segs = s.segs ∧ t.odo = s.odo ∧ t.dosing = s.dosing ∧ t.callout = s.callout ∧
      Queues .group (.hold s.station.config.group (holdTypeCode ty) (holdReasonCode re)) s t := by
  have hexec := exec_sendHold (code := code) (reason := reason)
    ((mayCommandGroup_iff s).2 ⟨hactive, hleave, hgroup⟩) hsel
  rw [hostReasonOf_some hreason, hcode, hre] at hexec
  have hon : (s.ownHeld ty re).hasRoom := ⟨by rw [show (s.ownHeld ty re).station.state = _ from hactive]; decide, hqueue⟩
  have hheld := hostHold_new (ty := ty) (re := re) ((working_iff s).2 ⟨hactive, hleave⟩) hmark hown hroom hnone
  have hqueued := queueFrame_queues .group (.hold s.station.config.group (holdTypeCode ty) (holdReasonCode re)) _ hon
  obtain ⟨m, retained, es, -, hmoved⟩ := applyHold_movesAlone (queueFrame .group
    (.hold s.station.config.group (holdTypeCode ty) (holdReasonCode re)) (s.ownHeld ty re))
  rw [hmoved, queueFrame_shape _ _ _ hon] at hheld
  have hlen : (hostHold ty re s).group.holds.length = s.group.holds.length + 1 := by
    rw [hheld]
    exact List.length_append
  dsimp only at hexec
  rw [hlen, hheld] at hexec
  exact ⟨_, hexec, rfl, rfl, rfl, rfl, rfl, rfl, rfl, rfl, rfl, hqueued⟩

/-- SEND_RESUME clears the one mark of the own hold: the entry goes, and a RESUME follows (R143, R146, R148). -/
theorem sendResume_lifts {h : HoldEntry} {m : HoldType × HoldReason} {s : State} (hgroup : s.station.config.group ≠ 0)
    (hactive : s.station.state = .active) (hsel : s.host.heldSel = false) (hleave : s.station.leavePending = false)
    (hqueue : s.channel.queue.length < 8) (hhost : s.group.hostMark = some m) (hown : s.ownHold? = some h)
    (hmark : s.group.guestMark = false) : ∃ t, exec .sendResume s = .next (endOfStep t) ∧
        t.host.reply = some [0x00, 0] ∧ t.group.hostMark = none ∧ t.group.repeatMs = 0 ∧
        t.group.holds = s.group.holds.filter (fun x => !(x.originator == s.station.config.station)) ∧
        (∃ x ∈ t.host.events, x.event =
          .holdRemoved s.station.config.station .ownCleared h.holdType h.reason t.group.holds.length) ∧
        (∃ q ∈ t.channel.queue, q.payload = .resume s.station.config.group ∧ q.age = 0 ∧ q.owner = .group) ∧
        t.station = s.station ∧ t.segs = s.segs ∧ t.odo = s.odo ∧ t.dosing = s.dosing ∧ t.callout = s.callout ∧
        (t.group.holds ≠ [] → t.motion = s.motion ∧ t.group.retained = s.group.retained) ∧
        (t.group.holds = [] → s.motion.state = .groupHold → s.motion.latch = false → t.motion.state =
          (if s.group.retained = true then .retained else if s.odo.entry = none then .idle
          else if s.cautionCause then .caution else .run)) := by
  have hexec := exec_sendResume ((mayCommandGroup_iff s).2 ⟨hactive, hleave, hgroup⟩) hsel
  rw [hhost, hmark] at hexec
  generalize hu : (s.onGroup fun g => { g with hostMark := none }) = u at hexec
  have hshape : u = { s with group := { s.group with hostMark := none } } := hu.symm
  have hfind : u.group.holds.find? (·.originator == s.station.config.station) = some h := by rw [hshape]; exact hown
  have hvalues : u.group.ownValues = none := by rw [hshape]; simp [Group.ownValues, hmark]
  obtain ⟨hholds, ⟨es, hes, hshown, hbrings⟩, hlength, hmore, hlast, -⟩ := removeHold_spec .ownCleared hfind
  have hstation : u.cfg.station = s.station.config.station := by rw [hshape]; rfl
  have hlowered : lowerOwnHold true u = queueResume
      ((removeHold s.station.config.station .ownCleared u).onGroup fun g => { g with repeatMs := 0 }) := by
    rw [lowerOwnHold, hvalues, hstation]
    rfl
  have hblocks : (removeHold s.station.config.station .ownCleared u).segs = s.segs ∧
      (removeHold s.station.config.station .ownCleared u).odo = s.odo ∧
      (removeHold s.station.config.station .ownCleared u).dosing = s.dosing ∧
      (removeHold s.station.config.station .ownCleared u).callout = s.callout := by
    rw [hshape]
    simp
  generalize hw : removeHold s.station.config.station .ownCleared u = w at *
  have hws : w.station = s.station := by rw [hbrings.station, hshape]
  have hroom : (w.onGroup fun g => { g with repeatMs := 0 }).hasRoom := by
    refine ⟨?_, ?_⟩
    · show w.station.state ≠ _
      rw [hws, hactive]
      decide
    · show w.channel.queue.length < 8
      rw [hshape] at hlength
      exact hlength.trans_lt hqueue
  have hevents : w.host.events = s.withEvents es := by rw [hbrings.events, hshape]; rfl
  have hwaits := queueFrame_waits .group (.resume (w.onGroup fun g => { g with repeatMs := 0 }).cfg.group) _ hroom
  have hqueued : lowerOwnHold true u = _ := hlowered.trans (queueFrame_shape _ _ _ hroom)
  have hcfg : (w.onGroup fun g => { g with repeatMs := 0 }).cfg.group = s.station.config.group := by
    show w.station.config.group = _
    rw [hws]
  rw [hcfg] at hwaits hqueued
  rw [hqueued] at hexec
  obtain ⟨hsegs, hodo, hdosing, hcallout⟩ := hblocks
  have hwholds : w.group.holds = s.group.holds.filter (fun x => !(x.originator == s.station.config.station)) := by
    rw [hholds, hshape]
  have hcause : u.cautionCause = s.cautionCause := by rw [hshape]; exact cautionCause_congr rfl rfl rfl rfl
  have hugroup : u.group.holds = s.group.holds ∧ u.group.retained = s.group.retained := by rw [hshape]; exact ⟨rfl, rfl⟩
  rw [hugroup.1] at hshown hmore hlast
  rw [← hwholds] at hshown hmore hlast
  refine ⟨_, hexec, rfl, ?_, rfl, hwholds, ?_, hwaits, hws, hsegs, hodo, hdosing, hcallout, fun hleft => ?_,
    fun hnone hheld hlatch => ?_⟩
  · show w.group.hostMark = none
    rw [hholds, hshape]
  · show ∃ x ∈ w.host.events, _
    rw [hevents]
    exact mem_withEvents s (by omega) hshown
  · obtain ⟨hmotion, hretained⟩ := hmore hleft
    rw [hshape] at hmotion
    exact ⟨hmotion, hretained.trans hugroup.2⟩
  · have hstate := hlast hnone (by rw [hshape]; exact hheld) (by rw [hshape]; exact hlatch)
    rw [hcause, hugroup.2] at hstate
    rw [hshape] at hstate
    exact hstate

/-- Settles O57. -/
theorem holdsHoldAndEnd : Obligations.HoldsHoldAndEnd := by
  intro k s
  refine ⟨fun group code reason hdelivers hbad => ?_, fun group hdelivers hbad => ?_,
    fun code reason hsel => ⟨fun h => group_refused hsel h code reason, fun hgroup hactive hleave hbad => ?_⟩,
    fun group code reason ty re hgroup hdelivers hcode hre hresponse hours => ?_,
    fun c h why hh hcase => ?_,
    fun code reason ty re hgroup hactive hsel hleave hcode hreason hre hmark hown hroom hqueue hnone =>
      sendHold_spec hgroup hactive hsel hleave hcode hreason hre hmark hown hroom hqueue hnone,
    fun hgroup hactive hsel hleave hqueue hhost => ?_,
    fun h m hgroup hactive hsel hleave hqueue hhost hown => ⟨fun hmark htype hreason => ?_, fun hmark =>
      sendResume_lifts hgroup hactive hsel hleave hqueue hhost hown hmark⟩,
    fun h hown => ⟨fun hstate => ?_, fun hactive hleave hqueue hnone => ?_⟩⟩
  · rw [exec_hold, receive_delivers _ _ s hdelivers, hearHold_ignored hbad]
  · rw [exec_resume, receive_delivers _ _ s hdelivers, hearResume_ignored hbad]
  · have hexec := exec_sendHold (code := code) (reason := reason)
      ((mayCommandGroup_iff s).2 ⟨hactive, hleave, hgroup⟩) hsel
    rw [hexec]
    rcases hbad with hbad | hbad
    · rw [hbad]
    · rw [hostReasonOf_none hbad]
      cases holdTypeOf code <;> rfl
  · have hexec := exec_hold k group code reason s
    rw [receive_delivers _ _ s hdelivers, hearHold_taken hgroup hours hresponse hcode hre] at hexec
    refine ⟨_, hexec, by simp, by simp, by simp, by simp, by simp, fun hnew hroom => receiveHold_joins hnew hroom,
      fun x e hkeyed hnew hfull hmem hexpiry hleast => receiveHold_replaces hkeyed hnew hfull hmem hexpiry hleast,
      fun x hx hdiffers => receiveHold_changes hx hdiffers, fun x hx hty hreason => ?_⟩
    rw [receiveHold_refreshes hx hty hreason]
  · obtain ⟨hgroup, ⟨es, hes, hshown, hbrings⟩, -, hmore, hlast, hstays⟩ := removeHold_spec why hh
    have hholds : (removeHold k why s).group.holds = s.group.holds.filter fun x => !(x.originator == k) := by rw [hgroup]
    rw [← hholds] at hshown hmore hlast
    have hmem : ∃ x ∈ (removeHold k why s).host.events, x.event =
        .holdRemoved k why h.holdType h.reason (removeHold k why s).group.holds.length := by
      rw [hbrings.events]
      exact mem_withEvents s (by omega) hshown
    rcases hcase with ⟨rfl, hours, hdelivers, rfl⟩ | ⟨rfl, rfl, x, hexpiry, hdue⟩
    · have hexec := exec_resume k s.station.config.group s
      rw [receive_delivers _ _ s hdelivers, hearResume, if_pos ((groupFrame_iff s _).2 ⟨hours, rfl⟩)] at hexec
      exact ⟨_, hexec, hholds, by simp, by simp, by simp, by simp, by simp, hmem, hmore, hlast, hstays⟩
    · exact ⟨_, exec_holdExpiry hh hexpiry hdue, hholds, by simp, by simp, by simp, by simp, by simp, hmem, hmore, hlast,
        hstays⟩
  · have hexec := exec_sendResume ((mayCommandGroup_iff s).2 ⟨hactive, hleave, hgroup⟩) hsel
    have hroom : s.hasRoom := ⟨by rw [hactive]; decide, hqueue⟩
    rw [hhost] at hexec
    refine ⟨fun hmark => ?_, fun hmark => ?_⟩
    · rw [hmark] at hexec
      exact hexec
    · rw [hmark] at hexec
      refine ⟨_, hexec, ?_, queueFrame_queues .group _ s hroom⟩
      conv_lhs => rw [queueResume, queueFrame_shape _ _ _ hroom]
      rfl
  · have hexec := exec_sendResume ((mayCommandGroup_iff s).2 ⟨hactive, hleave, hgroup⟩) hsel
    rw [hhost, hmark] at hexec
    have hvalues : (s.onGroup fun g => { g with hostMark := none }).group.ownValues = some (.immediate, .guest) := by
      simp [Group.ownValues, hmark]
    have hsame : (s.onGroup fun g => { g with hostMark := none }).ownHold? = some h := hown
    refine hexec.trans ?_
    rw [lowerOwnHold, hvalues]
    simp only [hsame, htype, hreason]
    rfl
  · have hexec : exec .holdRepeatInterval s =
        .next (endOfStep (offerHold (s.onGroup fun g => { g with repeatMs := 0 }))) := if_pos (by rw [hown]; rfl)
    rw [hexec, offerHold, show (s.onGroup fun g => { g with repeatMs := 0 }).ownHold? = some h from hown]
    have hnot : ¬ (s.onGroup fun g => { g with repeatMs := 0 }).working = true := by
      rw [working_iff]
      exact fun hworking => hstate hworking.1
    simp only [if_neg hnot]
    rfl
  · have hexec : exec .holdRepeatInterval s =
        .next (endOfStep (offerHold (s.onGroup fun g => { g with repeatMs := 0 }))) := if_pos (by rw [hown]; rfl)
    have hroom (u : State) (hstation : u.station = s.station) (hchannel : u.channel = s.channel) : u.hasRoom := by
      rw [State.hasRoom, hstation, hchannel, hactive]
      exact ⟨by decide, hqueue⟩
    have hoffered : offerHold (s.onGroup fun g => { g with repeatMs := 0 }) = queueFrame .group
        (.hold s.station.config.group (holdTypeCode h.holdType) (holdReasonCode h.reason))
        (s.onGroup fun g => { g with repeatMs := 0 }) :=
      offerHold_new (s := s.onGroup _) hown ((working_iff _).2 ⟨hactive, hleave⟩) hnone
    rw [hoffered] at hexec
    refine ⟨_, hexec, ?_, queueFrame_queues .group _ (s.onGroup fun g => { g with repeatMs := 0 }) (hroom _ rfl rfl)⟩
    conv_lhs => rw [queueFrame_shape _ _ (s.onGroup fun g => { g with repeatMs := 0 }) (hroom _ rfl rfl)]
    rfl

end Sys2Proof.Machine

/-! ## Callouts raised, repeated and heard (R167 to R182; O59, O60) -/

namespace Sys2Proof.Machine

theorem exec_raiseCallout (urgency n cell detail : Nat) (s : State) :
    exec (.raiseCallout urgency n cell detail) s = execRaiseCallout urgency n cell detail s := rfl

theorem exec_calloutBackoff (seq : Nat) (s : State) : exec (.calloutBackoff seq) s = execCalloutBackoff seq s := rfl

theorem exec_relayBackoff (origin seq : Nat) (s : State) :
    exec (.relayBackoff origin seq) s = execRelayBackoff origin seq s := rfl

theorem exec_callout (sender origin seq code n cell hop distance detail sensed : Nat) (s : State) :
    exec (.callout sender origin seq code n cell hop distance detail sensed) s =
      .next (endOfStep (receive sender (hearCallout sender origin seq code n cell hop distance detail sensed) s)) := rfl

/-! ### The free sequence number (R168) -/

theorem freeSeq_lt {held : List Nat} : ∀ {fuel n : Nat}, n < 256 → freeSeq fuel held n < 256
  | 0, _, hn => hn
  | fuel + 1, n, hn => by
    rw [freeSeq]
    split
    · exact freeSeq_lt (Nat.mod_lt _ (by decide))
    · exact hn

theorem freeSeq_self {held : List Nat} {n : Nat} (hfree : n ∉ held) : ∀ fuel, freeSeq fuel held n = n
  | 0 => rfl
  | fuel + 1 => by rw [freeSeq, if_neg (by simpa using hfree)]

theorem nextSeq_lt (s : State) : s.nextSeq < 256 := freeSeq_lt (Nat.mod_lt _ (by decide))

theorem nextSeq_counter {s : State} (hseq : s.callout.seq < 256) (hfree : ∀ c ∈ s.callout.own, c.seq ≠ s.callout.seq) :
    s.nextSeq = s.callout.seq := by
  have hmod := Nat.mod_eq_of_lt hseq
  have hnot : s.callout.seq % 256 ∉ s.callout.own.map (·.seq) := by
    rw [hmod]
    intro hmem
    obtain ⟨c, hc, heq⟩ := List.mem_map.1 hmem
    exact hfree c hc heq
  exact (freeSeq_self hnot _).trans hmod

/-! ### Raising (R168 to R171) -/

/-- A DEPOT delivers its callout to itself (R170). -/
theorem raise_depot (code n cell detail : Nat) {s : State} (h : s.isDepot = true) : raise code n cell detail s = { s with
    callout := { s.callout with seq := (s.nextSeq + 1) % 256 }
    host := { s.host with
      events := s.withEvents
        [.calloutReceived s.station.config.station s.nextSeq code n cell detail 0 s.station.config.station 0,
          .callout code (some s.nextSeq) n cell detail .acked 0 (some (s.station.config.station, 0))] } } := by
  rw [raise, if_pos h]
  simp only [post_events]
  rfl

/-- A ROBOT on the channel with a place in its list keeps the callout and queues its frame (R168, R171). -/
theorem raise_robot (code n cell detail : Nat) {s : State} (h : s.isDepot = false)
    (hstate : s.station.state = .active ∨ s.station.state = .listening) (hown : s.callout.own.length < 4) :
    raise code n cell detail s =
      queueFrame .callout
        (.callout s.station.config.station s.nextSeq code n cell 0 s.station.distance detail)
        (s.onCallout fun u => { u with
          seq := (s.nextSeq + 1) % 256, own := u.own ++ [⟨code, n, cell, detail, s.nextSeq, 0, .queued⟩] }) := by
  rw [raise, if_neg (by simp [h]), if_pos ⟨hstate, hown⟩]
  rfl

theorem exec_raiseCallout_range {urgency n cell detail : Nat} {s : State} (hworking : s.working = true)
    (hsel : s.host.heldSel = false) (h : 1 < urgency ∨ 4000 < n ∨ 63 < cell ∨ 65535 < detail) :
    exec (.raiseCallout urgency n cell detail) s = .next (s.answered [0x02]) := by
  rw [exec_raiseCallout, execRaiseCallout, whenTaken_taken _ _ hsel, if_neg (by simp [hworking]),
    if_pos (by rw [Config.maxSegment]; omega), refuse_eq_answered]
  rfl

theorem exec_raiseCallout_full {urgency n cell detail : Nat} {s : State} (hworking : s.working = true)
    (hsel : s.host.heldSel = false) (hrange : urgency ≤ 1 ∧ n ≤ Config.maxSegment ∧ cell ≤ 63 ∧ detail ≤ 65535)
    (hrobot : s.isDepot = false) (hfull : 4 ≤ s.callout.own.length) :
    exec (.raiseCallout urgency n cell detail) s = .next (s.answered [0x03]) := by
  rw [exec_raiseCallout, execRaiseCallout, whenTaken_taken _ _ hsel, if_neg (by simp [hworking]),
    if_neg (not_not.2 hrange), if_pos ⟨by simp [hrobot], hfull⟩, refuse_eq_answered]
  rfl

theorem exec_raiseCallout_taken {urgency n cell detail : Nat} {s : State} (hworking : s.working = true)
    (hsel : s.host.heldSel = false) (hrange : urgency ≤ 1 ∧ n ≤ Config.maxSegment ∧ cell ≤ 63 ∧ detail ≤ 65535)
    (hroom : s.isDepot = false → s.callout.own.length < 4) :
    exec (.raiseCallout urgency n cell detail) s = .next (endOfStep
      ((raise (7 + urgency) n cell detail s).answered [0x00, BitVec.ofNat 8 s.nextSeq, flagByte s.isDepot])) := by
  have hplace : ¬ (((!s.isDepot) = true) ∧ Config.ownCalloutCap ≤ s.callout.own.length) := by
    rintro ⟨hrobot, hfull⟩
    have := hroom (by simpa using hrobot)
    rw [Config.ownCalloutCap] at hfull
    omega
  rw [exec_raiseCallout, execRaiseCallout, whenTaken_taken _ _ hsel, if_neg (by simp [hworking]),
    if_neg (not_not.2 hrange), if_neg hplace, ok_eq_answered]
  rfl

/-! ### Backoff (R171, R173, R178, R179) -/

theorem exec_calloutBackoff_over {c : OwnCallout} {m : Nat} {s : State}
    (hfind : s.callout.own.find? (·.seq == c.seq) = some c) (hretry : c.retry = .awaiting m) :
    exec (.calloutBackoff c.seq) s = .next (endOfStep (queueFrame .callout
      (.callout s.station.config.station c.seq c.code c.segment c.cell 0 s.station.distance c.detail)
      (s.onCallout fun u => { u with own := u.own.map fun x =>
        if x.seq = c.seq then { x with retry := .queued } else x }))) := by
  have hwaits : c.retry.waits = true := by rw [hretry]; rfl
  rw [exec_calloutBackoff, execCalloutBackoff, hfind]
  simp only [hwaits, if_true, updateIf, beq_iff_eq]
  rfl

theorem exec_relayBackoff_over {e : RelayEntry} {m : Nat} {s : State}
    (hfind : s.callout.relay.find? (fun x => x.origin == e.origin && x.seq == e.seq) = some e)
    (hretry : e.retry = .awaiting m) :
    exec (.relayBackoff e.origin e.seq) s = .next (endOfStep (queueFrame .callout
      (.callout e.origin e.seq e.code e.segment e.cell e.hop s.station.distance e.detail)
      (s.onCallout fun u => { u with relay := u.relay.map fun x =>
        if x.origin = e.origin ∧ x.seq = e.seq then { x with retry := .queued } else x }))) := by
  have hwaits : e.retry.waits = true := by rw [hretry]; rfl
  have hpair : s.callout.relay.find? (·.isPair e.origin e.seq) = some e := hfind
  rw [exec_relayBackoff, execRelayBackoff, hpair]
  simp only [hwaits, if_true, updateIf, RelayEntry.isPair, Bool.and_eq_true, beq_iff_eq]
  rfl

/-- Settles O59. -/
theorem calloutsRaisedAndRepeated : Obligations.CalloutsRaisedAndRepeated := by
  intro s
  refine ⟨fun urgency n cell detail hactive hsel hleave => ?_, fun c m hfind hretry hroom => ?_,
    fun e m hfind hretry hroom => ?_, fun o q => rfl⟩
  · have hworking : s.working = true := (working_iff s).2 ⟨hactive, hleave⟩
    refine ⟨exec_raiseCallout_range hworking hsel, fun hu hn hcell hdetail =>
      ⟨exec_raiseCallout_full hworking hsel ⟨hu, hn, hcell, hdetail⟩, s.nextSeq, nextSeq_lt s,
        fun hfew c hc heq => nextSeq_free s hfew (heq ▸ List.mem_map_of_mem hc), nextSeq_counter, fun hrobot hown hqueue => ?_, fun hdepot => ?_⟩⟩
    · have hexec := exec_raiseCallout_taken hworking hsel ⟨hu, hn, hcell, hdetail⟩ fun _ => hown
      rw [raise_robot _ _ _ _ hrobot (.inl hactive) hown, hrobot] at hexec
      have hroom (u : State) (hstation : u.station = s.station) (hchannel : u.channel = s.channel) : u.hasRoom := by
        rw [State.hasRoom, hstation, hchannel, hactive]
        exact ⟨by decide, hqueue⟩
      refine ⟨_, hexec, ?_, queueFrame_queues .callout _ (s.onCallout _) (hroom _ rfl rfl)⟩
      conv_lhs => rw [queueFrame_shape _ _ (s.onCallout _) (hroom _ rfl rfl)]
      rfl
    · have hexec := exec_raiseCallout_taken hworking hsel ⟨hu, hn, hcell, hdetail⟩ fun hrobot =>
        absurd hrobot (by simp [hdepot])
      rw [raise_depot _ _ _ _ hdepot, hdepot] at hexec
      exact hexec
  · have hplace : (s.onCallout fun u => { u with own := u.own.map fun x =>
        if x.seq = c.seq then { x with retry := .queued } else x }).hasRoom := hroom
    refine ⟨_, exec_calloutBackoff_over hfind hretry, ?_, queueFrame_queues .callout _ _ hplace⟩
    conv_lhs => rw [queueFrame_shape _ _ _ hplace]
    rfl
  · have hplace : (s.onCallout fun u => { u with relay := u.relay.map fun x =>
        if x.origin = e.origin ∧ x.seq = e.seq then { x with retry := .queued } else x }).hasRoom := hroom
    refine ⟨_, exec_relayBackoff_over hfind hretry, ?_, queueFrame_queues .callout _ _ hplace⟩
    conv_lhs => rw [queueFrame_shape _ _ _ hplace]
    rfl

/-! ### Heard (R177, R178, R182) -/

theorem role_won_iff (s : State) (sensed : Nat) : s.role sensed = .won ↔ s.channel.response = some sensed := by
  unfold State.role
  cases s.channel.response with
  | none => dsimp only; split <;> simp
  | some v => simp

theorem hearCallout_ends {sender origin seq code n cell hop distance detail sensed : Nat} {s : State}
    (h : s.channel.response ≠ some sensed ∨ origin = 0 ∨ 254 < origin ∨ code = 0 ∨ 8 < code ∨ 4000 < n ∨ 63 < cell ∨
      15 < hop ∨ 15 < distance) : hearCallout sender origin seq code n cell hop distance detail sensed s = s := by
  refine if_neg ?_
  rintro ⟨hsound, hwon, -⟩
  have hsensed := (role_won_iff s sensed).1 hwon
  obtain ⟨horigin, hcode, hn, hcell, hhop, hdistance⟩ := (calloutSound_iff ..).1 hsound
  rcases h with h | h
  · exact h hsensed
  · omega

/-- A pair that the station has taken is not taken again (R177, R182). -/
theorem hearCallout_known {sender origin seq code n cell hop distance detail sensed : Nat} {s : State}
    (h : (s.isDepot = false ∧ (∃ e ∈ s.callout.relay, e.origin = origin ∧ e.seq = seq)) ∨
      (∃ p ∈ s.callout.recent, p.origin = origin ∧ p.seq = seq)) :
    hearCallout sender origin seq code n cell hop distance detail sensed s = s := by
  unfold hearCallout
  split
  · split
    · next hdepot =>
      refine if_pos ?_
      rcases h with ⟨hrobot, -⟩ | h
      · simp [hrobot] at hdepot
      · simpa [RecentPair.isPair] using h
    · refine if_pos (.inl ((knowsPair_iff ..).2 ?_))
      exact h.imp (fun h => h.2) id
  · rfl

theorem hearCallout_taken {sender origin seq code n cell hop distance detail sensed : Nat} {s : State}
    (hsound : calloutSound origin code n cell hop distance = true) (hwon : s.channel.response = some sensed)
    (hown : origin ≠ s.station.config.station) (hhop : hop < 12) :
    hearCallout sender origin seq code n cell hop distance detail sensed s =
      if s.isDepot then takeAtDepot sender origin seq code n cell hop distance detail s
      else takeRelay origin seq code n cell hop detail s :=
  if_pos ⟨hsound, (role_won_iff s sensed).2 hwon, hown, hhop⟩

theorem takeRelay_taken {origin seq code n cell hop detail : Nat} {s : State} (hnew : ¬ s.knowsPair origin seq = true)
    (hroom : s.callout.relay.length < 8) : takeRelay origin seq code n cell hop detail s =
      queueFrame .callout (.callout origin seq code n cell (hop + 1) s.station.distance detail)
        (s.onCallout fun u => { u with relay := u.relay ++ [⟨origin, seq, code, n, cell, detail, hop + 1, 0, .queued⟩] }) := by
  rw [takeRelay, if_neg (by rw [Config.relayCap]; exact fun h => h.elim hnew (by omega))]
  rfl

theorem takeAtDepot_taken {sender origin seq code n cell hop distance detail : Nat} {s : State}
    (hnew : ∀ p ∈ s.callout.recent, ¬ (p.origin = origin ∧ p.seq = seq)) (hroom : s.callout.recent.length < 16) :
    takeAtDepot sender origin seq code n cell hop distance detail s = { s with
      callout := { s.callout with recent := s.callout.recent ++ [⟨origin, seq, s.station.clock + 120⟩] }
      host := { s.host with
        events := s.withEvents [.calloutReceived origin seq code n cell detail hop sender distance] } } := by
  have hnot : ¬ s.callout.recent.any (·.isPair origin seq) = true := by
    simp only [RecentPair.isPair, List.any_eq_true, Bool.and_eq_true, beq_iff_eq]
    rintro ⟨p, hp, hpair⟩
    exact hnew p hp hpair
  rw [takeAtDepot, if_neg hnot, post_events]
  simp only [addRecent, Config.recentCap, State.onCallout, hroom, if_true]
  rfl

/-- Settles O60. -/
theorem calloutHeardAndTaken : Obligations.CalloutHeardAndTaken := by
  intro sender origin seq code n cell hop distance detail sensed s hdelivers
  have hexec := exec_callout sender origin seq code n cell hop distance detail sensed s
  rw [receive_delivers _ _ s hdelivers] at hexec
  refine ⟨fun h => ?_, fun hwon horigin horigin' hcode hcode' hn hcell hhop hdistance hown hnew => ⟨fun hrobot hrelay
    hroom hqueue => ?_, fun hdepot hroom => ?_⟩, fun h => ?_⟩
  · rwa [hearCallout_ends h] at hexec
  · have hsound := (calloutSound_iff origin code n cell hop distance).2
      ⟨⟨horigin, horigin'⟩, ⟨hcode, hcode'⟩, hn, hcell, by omega, hdistance⟩
    have hunknown : ¬ s.knowsPair origin seq = true := by
      rw [knowsPair_iff]
      rintro (⟨e, he, hpair⟩ | ⟨p, hp, hpair⟩)
      · exact hrelay e he hpair
      · exact hnew p hp hpair
    rw [hearCallout_taken hsound hwon hown hhop, if_neg (by simp [hrobot]), takeRelay_taken hunknown hroom] at hexec
    have hplace : (s.onCallout fun u => { u with
        relay := u.relay ++ [⟨origin, seq, code, n, cell, detail, hop + 1, 0, .queued⟩] }).hasRoom := ⟨hdelivers.1, hqueue⟩
    rw [queueFrame_room _ _ _ hplace] at hexec
    exact ⟨_, hexec, rfl, _, (insertFrame_perm _ _).mem_iff.2 List.mem_cons_self, rfl, rfl, rfl⟩
  · have hsound := (calloutSound_iff origin code n cell hop distance).2
      ⟨⟨horigin, horigin'⟩, ⟨hcode, hcode'⟩, hn, hcell, by omega, hdistance⟩
    rwa [hearCallout_taken hsound hwon hown hhop, if_pos hdepot, takeAtDepot_taken hnew hroom] at hexec
  · rwa [hearCallout_known h] at hexec

end Sys2Proof.Machine

/-! ## The beacon, the stock and the FEED pulse (R134, R158, R162 to R164; O58) -/

namespace Sys2Proof.Machine

theorem exec_setBeacon (b : Nat) (s : State) : exec (.setBeacon b) s = execSetBeacon b s := rfl

theorem exec_loadStock (g : Nat) (s : State) : exec (.loadStock g) s = execLoadStock g s := rfl

theorem exec_feedPulse (s : State) : exec .feedPulse s = execFeedPulse s := rfl

theorem exec_setBeacon_cases (b : Nat) {s : State} (hsel : s.host.heldSel = false) :
    (b ≤ 255 → exec (.setBeacon b) s = .next { s with
      station := { s.station with config := { s.station.config with workBeacon := b } }
      host := { s.host with reply := some [0x00] } }) ∧
    (255 < b → exec (.setBeacon b) s = .next (s.answered [0x02])) := by
  rw [exec_setBeacon, execSetBeacon, whenTaken_taken _ _ hsel]
  constructor
  · intro hb
    rw [if_pos hb]
    rfl
  · intro hb
    rw [if_neg (by omega), refuse_eq_answered]
    rfl

/-! ### A callout raised here leaves the claims where the queue has room (R23) -/

theorem raiseHere_roomy {s : State} (code detail : Nat) (hqueue : s.channel.queue.length < 8) :
    (raiseHere code detail s).claims = s.claims ∧
      (raiseHere code detail s).channel.queue.length ≤ s.channel.queue.length + 1 := by
  unfold raiseHere raise
  dsimp only
  split
  · simp [takeSeq]
  · split
    · next hcond =>
      have hon : s.station.state ≠ .offline := by rcases hcond.1 with h | h <;> rw [h] <;> decide
      have hroom (u : State) (hstation : u.station = s.station) (hchannel : u.channel = s.channel) : u.hasRoom := by
        rw [State.hasRoom, hstation, hchannel]
        exact ⟨hon, hqueue⟩
      obtain ⟨-, hclaims, hlength⟩ :=
        queueFrame_roomy .callout (.callout s.station.config.station s.nextSeq code s.placeOrZero.1 s.placeOrZero.2 0
            s.station.distance detail) ((takeSeq s.nextSeq s).onCallout fun u =>
          { u with own := u.own ++ [⟨code, s.placeOrZero.1, s.placeOrZero.2, detail, s.nextSeq, 0, .queued⟩] })
          (hroom _ rfl rfl)
      exact ⟨hclaims, hlength⟩
    · simp

/-! ### The low test and the empty test (R163, R164) -/

/-- The low test finds the stock below the threshold with the flag clear (R163). -/
def State.lowDue (s : State) : Prop := s.dosing.stock < s.station.config.lowStock * 1000 ∧ s.dosing.low = false

/-- The empty test, of a stock that held a pulse before (R164). -/
def State.emptyDue (s : State) (before : Nat) : Prop :=
  s.station.config.feedCal ≤ before ∧ s.dosing.stock < s.station.config.feedCal

theorem lowTest_idle {s : State} (h : ¬ s.lowDue) : lowTest s = s :=
  if_neg fun ⟨hstock, hlow⟩ => h ⟨hstock, by simpa using hlow⟩

theorem lowTest_raises {s : State} (h : s.lowDue) : lowTest s = raiseHere 6 (min 65535 (s.dosing.stock / 1000000)) { s with
    dosing := { s.dosing with low := true }
    host := { s.host with events := s.withEvents [.stock .low s.dosing.stock] } } := by
  rw [lowTest, if_pos ⟨h.1, by simp [h.2]⟩, post_events]
  rfl

theorem emptyTest_idle {before : Nat} {s : State} (h : ¬ s.emptyDue before) : emptyTest before s = s := if_neg h

theorem emptyTest_raises {before : Nat} {s : State} (h : s.emptyDue before) : emptyTest before s =
    if s.dosing.active then raiseHere 5 s.dosing.stock (post (.stock .empty s.dosing.stock) s)
    else post (.stock .empty s.dosing.stock) s := by
  exact if_pos h

/-- The low test: its flag, its event and its callout. -/
theorem lowTest_spec (s : State) :
    (lowTest s).dosing = { s.dosing with
      low := s.dosing.low || decide (s.dosing.stock < s.station.config.lowStock * 1000) } ∧
    (∃ es, es.length ≤ 3 ∧ Brings s es (lowTest s) ∧ (s.lowDue → .stock .low s.dosing.stock ∈ es)) ∧
    (s.channel.queue.length < 8 → (lowTest s).claims = s.claims ∧
      (lowTest s).channel.queue.length ≤ s.channel.queue.length + 1) ∧
    (s.lowDue → s.mayRaise → s.Raises 6 (min 65535 (s.dosing.stock / 1000000)) (lowTest s)) := by
  by_cases h : s.lowDue
  · obtain ⟨es, hes, hbrings⟩ := raiseHere_brings 6 (min 65535 (s.dosing.stock / 1000000)) { s with
      dosing := { s.dosing with low := true }
      host := { s.host with events := s.withEvents [.stock .low s.dosing.stock] } }
    have hposted : Brings s [.stock .low s.dosing.stock] { s with
        dosing := { s.dosing with low := true }
        host := { s.host with events := s.withEvents [.stock .low s.dosing.stock] } } := ⟨rfl, rfl, fun _ hn => hn⟩
    rw [lowTest_raises h]
    refine ⟨by simp [h.1], ⟨_, by simp; omega, hposted.trans hbrings, fun _ => by simp⟩,
      fun hqueue => raiseHere_roomy (s := { s with dosing := _, host := _ }) _ _ hqueue,
      fun _ ⟨hrobot, hstate, hown, hqueue⟩ => ?_⟩
    exact raiseHere_raises (s := { s with dosing := _, host := _ }) _ _ hrobot hstate hown (Nat.lt_succ_of_lt hqueue)
  · rw [lowTest_idle h]
    refine ⟨?_, ⟨[], by simp, .refl s, fun hdue => absurd hdue h⟩, fun _ => ⟨rfl, by omega⟩, fun hdue => absurd hdue h⟩
    have hflag : (s.dosing.low || decide (s.dosing.stock < s.station.config.lowStock * 1000)) = s.dosing.low := by
      cases hlow : s.dosing.low
      · simpa using fun hstock => h ⟨hstock, hlow⟩
      · rfl
    rw [hflag]

/-- A callout raised now finds its place: at a ROBOT on the channel, with a record and a queue place free (R23, R168). -/
def State.raisesNow (s : State) : Prop :=
  s.isDepot = false ∧ (s.station.state = .active ∨ s.station.state = .listening) ∧ s.callout.own.length < 4 ∧
    s.channel.queue.length < 8

/-- The empty test: its event, and its callout with the feed active. -/
theorem emptyTest_spec (before : Nat) (s : State) :
    (∃ es, es.length ≤ 3 ∧ Brings s es (emptyTest before s) ∧
      (s.emptyDue before → .stock .empty s.dosing.stock ∈ es)) ∧
    (s.channel.queue.length < 8 → (emptyTest before s).claims = s.claims) ∧
    (¬ s.emptyDue before ∨ s.dosing.active = false → (emptyTest before s).callout = s.callout) ∧
    (s.emptyDue before → s.dosing.active = true → s.raisesNow → s.Raises 5 s.dosing.stock (emptyTest before s)) := by
  by_cases h : s.emptyDue before
  · have hposted := post_brings (.stock .empty s.dosing.stock) s
    rw [emptyTest_raises h]
    cases hactive : s.dosing.active with
    | false =>
      rw [if_neg (by decide)]
      exact ⟨⟨_, by simp, hposted, fun _ => by simp⟩, fun _ => by simp, fun _ => by simp, fun _ hon => by simp at hon⟩
    | true =>
      rw [if_pos rfl]
      obtain ⟨es, hes, hbrings⟩ := raiseHere_brings 5 s.dosing.stock (post (.stock .empty s.dosing.stock) s)
      have hall := hposted.trans hbrings
      refine ⟨⟨_, by simp; omega, hall, fun _ => by simp⟩, fun hqueue => ?_, fun hidle => ?_,
        fun _ _ ⟨hrobot, hstate, hown, hqueue⟩ => ?_⟩
      · rw [(raiseHere_roomy 5 _ (by simpa using hqueue)).1]
        simp
      · simp [h] at hidle
      · have hraises := raiseHere_raises (s := post (.stock .empty s.dosing.stock) s) 5 s.dosing.stock
          (by simpa [State.isDepot, State.cfg] using hrobot) (by simpa using hstate) (by simpa using hown)
          (by simpa using hqueue)
        simpa only [State.Raises, State.herePair, post_frame] using hraises
  · rw [emptyTest_idle h]
    exact ⟨⟨[], by simp, .refl s, fun hdue => absurd hdue h⟩, fun _ => rfl, fun _ => rfl, fun hdue => absurd hdue h⟩

/-- The callouts of the two tests stand in the list of own callouts. -/
def State.StockCallouts (s : State) (before : Nat) (t : State) : Prop :=
  (s.lowDue → ∃ c ∈ t.callout.own,
    c.code = 6 ∧ c.detail = min 65535 (s.dosing.stock / 1000000) ∧ (c.segment, c.cell) = s.herePair) ∧
  (s.emptyDue before → s.dosing.active = true → ∃ c ∈ t.callout.own,
    c.code = 5 ∧ c.detail = s.dosing.stock ∧ (c.segment, c.cell) = s.herePair)

theorem lowTest_raisesNow {s : State} (hmay : s.mayRaise) (hown : s.callout.own.length < 3) :
    (lowTest s).raisesNow := by
  obtain ⟨-, -, hroomy, hraises⟩ := lowTest_spec s
  have hdepot : (lowTest s).isDepot = s.isDepot := by simp [State.isDepot, State.cfg]
  obtain ⟨hrobot, hstate, hown', hqueue⟩ := hmay
  have hlength := (hroomy (by omega)).2
  refine ⟨hdepot.trans hrobot, by simpa using hstate, ?_, by omega⟩
  by_cases hlow : s.lowDue
  · obtain ⟨c, hcallouts, -⟩ := hraises hlow ⟨hrobot, hstate, hown', hqueue⟩
    rw [hcallouts, List.length_append, List.length_singleton]
    omega
  · rw [lowTest_idle hlow]
    omega

/-- Both tests, the low test first: flag, events, claims and callouts. -/
theorem stockTests_spec (before : Nat) (s : State) :
    (emptyTest before (lowTest s)).dosing = { s.dosing with
      low := s.dosing.low || decide (s.dosing.stock < s.station.config.lowStock * 1000) } ∧
    (∃ es, es.length ≤ 6 ∧ Brings s es (emptyTest before (lowTest s)) ∧
      (s.lowDue → .stock .low s.dosing.stock ∈ es) ∧ (s.emptyDue before → .stock .empty s.dosing.stock ∈ es)) ∧
    (s.channel.queue.length < 7 → (emptyTest before (lowTest s)).claims = s.claims) ∧
    (¬ s.lowDue → (¬ s.emptyDue before ∨ s.dosing.active = false) →
      (emptyTest before (lowTest s)).callout = s.callout) ∧
    (s.mayRaise → s.callout.own.length < 3 → s.StockCallouts before (emptyTest before (lowTest s))) := by
  obtain ⟨hflag, ⟨es, hes, hbrings, hlow⟩, hroomy, hraises⟩ := lowTest_spec s
  obtain ⟨⟨es', hes', hbrings', hempty⟩, hclaims, hquiet, hraises'⟩ := emptyTest_spec before (lowTest s)
  have hstock : (lowTest s).dosing.stock = s.dosing.stock := by rw [hflag]
  have hactive : (lowTest s).dosing.active = s.dosing.active := by rw [hflag]
  have hdue : (lowTest s).emptyDue before ↔ s.emptyDue before := by simp [State.emptyDue, hstock]
  have hhere : (lowTest s).herePair = s.herePair := by simp [State.herePair]
  rw [hdue, hstock] at hempty
  rw [hdue, hactive] at hquiet
  rw [hdue, hactive, hstock] at hraises'
  refine ⟨by simpa using hflag, ⟨_, by rw [List.length_append]; omega, hbrings.trans hbrings',
    fun h => List.mem_append_left _ (hlow h), fun h => List.mem_append_right _ (hempty h)⟩, fun hqueue => ?_,
    fun hnot hidle => ?_, fun hmay hown => ?_⟩
  · obtain ⟨hsame, hlength⟩ := hroomy (by omega)
    exact (hclaims (by omega)).trans hsame
  · rw [hquiet hidle, lowTest_idle hnot]
  · have hnow := lowTest_raisesNow hmay hown
    have hkept : ∀ c ∈ (lowTest s).callout.own, c ∈ (emptyTest before (lowTest s)).callout.own := by
      intro c hc
      by_cases hall : s.emptyDue before ∧ s.dosing.active = true
      · obtain ⟨x, hcallouts, -⟩ := hraises' hall.1 hall.2 hnow
        rw [hcallouts]
        exact List.mem_append_left _ hc
      · rw [hquiet (by rwa [← Bool.not_eq_true, ← not_and_or])]
        exact hc
    refine ⟨fun hlowDue => ?_, fun hemptyDue hon => ?_⟩
    · obtain ⟨c, hcallouts, hcode, hdetail, hplace, -⟩ := hraises hlowDue hmay
      exact ⟨c, hkept c (by rw [hcallouts]; simp), hcode, hdetail, hplace⟩
    · obtain ⟨c, hcallouts, hcode, hdetail, hplace, -⟩ := hraises' hemptyDue hon hnow
      exact ⟨c, by rw [hcallouts]; simp, hcode, hdetail, hplace.trans hhere⟩

/-! ### LOAD_STOCK (R162) -/

/-- The block once LOAD_STOCK has set the stock, before its tests (R162). -/
def State.stockLoaded (s : State) (m : Nat) : State := { s with
  dosing := { s.dosing with stock := m * 1000, low := false }
  host := { s.host with events := s.withEvents [.stock .loaded (m * 1000)] } }

/-- The block once the tests of LOAD_STOCK have run, of a valid record alone (R162 to R164). -/
def State.stockTested (s : State) (m : Nat) : State :=
  if s.station.configValid then emptyTest s.dosing.stock (lowTest (s.stockLoaded m)) else s.stockLoaded m

theorem exec_loadStock_taken (g : Nat) {s : State} (hsel : s.host.heldSel = false) : exec (.loadStock g) s =
    .next (endOfStep ((s.stockTested (min 4000000 g)).answered (0x00 :: be32 (min 4000000 g)))) := by
  rw [exec_loadStock, execLoadStock, whenTaken_taken _ _ hsel]
  dsimp only
  rw [post_events, ok_eq_answered]
  rfl

theorem stockTested_invalid {s : State} (m : Nat) (h : s.station.configValid = false) :
    s.stockTested m = s.stockLoaded m := if_neg (by simp [h])

theorem stockTested_valid {s : State} (m : Nat) (h : s.station.configValid = true) :
    s.stockTested m = emptyTest s.dosing.stock (lowTest (s.stockLoaded m)) := if_pos h

theorem stockLoaded_lowDue {s : State} {m : Nat} : (s.stockLoaded m).lowDue ↔ m < s.station.config.lowStock := by
  simp only [State.lowDue, State.stockLoaded, and_true]
  omega

/-- What LOAD_STOCK leaves as it was. -/
theorem stockTested_frame (s : State) (m : Nat) : (s.stockTested m).motion = s.motion ∧ (s.stockTested m).segs = s.segs ∧
    (s.stockTested m).station = s.station ∧ (s.stockTested m).odo = s.odo ∧ (s.stockTested m).group = s.group := by
  unfold State.stockTested
  split <;> simp [State.stockLoaded]

theorem stockTested_dosing (s : State) (m : Nat) : (s.stockTested m).dosing = { s.dosing with
    stock := m * 1000, low := s.station.configValid && decide (m < s.station.config.lowStock) } := by
  cases hvalid : s.station.configValid with
  | false => rw [stockTested_invalid m hvalid]; rfl
  | true =>
    rw [stockTested_valid m hvalid, (stockTests_spec _ _).1]
    simp [State.stockLoaded]

theorem stockTested_claims {s : State} (m : Nat) (hqueue : s.channel.queue.length < 7) :
    (s.stockTested m).claims = s.claims := by
  cases hvalid : s.station.configValid with
  | false => rw [stockTested_invalid m hvalid]; rfl
  | true =>
    rw [stockTested_valid m hvalid]
    obtain ⟨-, -, hclaims, -⟩ := stockTests_spec s.dosing.stock (s.stockLoaded m)
    exact hclaims hqueue

theorem stockTested_events {s : State} (m : Nat) (hvalid : s.station.configValid = true) :
    (m < s.station.config.lowStock → ∃ x ∈ (s.stockTested m).host.events, x.event = .stock .low (m * 1000)) ∧
    (s.station.config.feedCal ≤ s.dosing.stock → m * 1000 < s.station.config.feedCal →
      ∃ x ∈ (s.stockTested m).host.events, x.event = .stock .empty (m * 1000)) := by
  obtain ⟨-, ⟨es, hes, hbrings, hlow, hempty⟩, -⟩ := stockTests_spec s.dosing.stock (s.stockLoaded m)
  have hloaded : Brings s [.stock .loaded (m * 1000)] (s.stockLoaded m) := ⟨rfl, rfl, fun _ hn => hn⟩
  have hevents := (hloaded.trans hbrings).events
  rw [stockTested_valid m hvalid, hevents]
  refine ⟨fun h => mem_withEvents s (by simp; omega) (List.mem_append_right _ (hlow (stockLoaded_lowDue.2 h))),
    fun h h' => mem_withEvents s (by simp; omega) (List.mem_append_right _ (hempty ⟨h, h'⟩))⟩

theorem stockTested_raises {s : State} (m : Nat) (hvalid : s.station.configValid = true) (hmay : s.mayRaise)
    (hown : s.callout.own.length < 3) :
    (m < s.station.config.lowStock → ∃ c ∈ (s.stockTested m).callout.own,
      c.code = 6 ∧ c.detail = min 65535 (m * 1000 / 1000000) ∧ (c.segment, c.cell) = s.herePair) ∧
    (s.station.config.feedCal ≤ s.dosing.stock → m * 1000 < s.station.config.feedCal → s.dosing.active = true →
      ∃ c ∈ (s.stockTested m).callout.own,
        c.code = 5 ∧ c.detail = m * 1000 ∧ (c.segment, c.cell) = s.herePair) := by
  obtain ⟨-, -, -, -, hraises⟩ := stockTests_spec s.dosing.stock (s.stockLoaded m)
  obtain ⟨hlow, hempty⟩ := hraises hmay hown
  rw [stockTested_valid m hvalid]
  exact ⟨fun h => hlow (stockLoaded_lowDue.2 h), fun h h' => hempty ⟨h, h'⟩⟩

theorem stockTested_quiet {s : State} (m : Nat) (hlow : s.station.config.lowStock ≤ m)
    (hempty : s.dosing.stock < s.station.config.feedCal ∨ s.station.config.feedCal ≤ m * 1000 ∨ s.dosing.active = false) :
    (s.stockTested m).callout = s.callout := by
  cases hvalid : s.station.configValid with
  | false => rw [stockTested_invalid m hvalid]; rfl
  | true =>
    rw [stockTested_valid m hvalid]
    obtain ⟨-, -, -, hquiet, -⟩ := stockTests_spec s.dosing.stock (s.stockLoaded m)
    refine hquiet (by rw [stockLoaded_lowDue]; omega) ?_
    rcases hempty with h | h | h
    · exact .inl fun hdue => absurd hdue.1 h.not_ge
    · exact .inl fun hdue => absurd hdue.2 h.not_gt
    · exact .inr h

/-! ### FEED_PULSE (R158) -/

/-- The block once a pulse has left the stock and charged the open pass, before its tests (R158). -/
def State.pulsed (s : State) : State := { s with
  dosing := { s.dosing with
    acc := accAfterPulse s.dosing.rate s.dosing.acc
    stock := s.dosing.stock - s.station.config.feedCal
    pulsesNow := if 16000 ≤ s.dosing.acc then min 2 (s.dosing.pulsesNow + 1) else 1 }
  segs := { s.segs with pass := s.segs.pass.map fun p => { p with pulses := min 4294967295 (p.pulses + 1) } } }

theorem exec_feedPulse_emits {s : State} (h : s.emitsPulse = true) :
    exec .feedPulse s = .next (endOfStep (emptyTest s.dosing.stock (lowTest s.pulsed))) := by
  rw [exec_feedPulse, execFeedPulse, if_pos h]
  rfl

/-- The FEED line after a pulse: 100 µs from the first, and 100 µs from 500 µs on of a second one (R158). -/
theorem pulsed_line {s t : State} (h : t.dosing.pulsesNow = s.pulsed.dosing.pulsesNow) :
    (∀ us, us < 100 → t.feedLine us = true) ∧
    ((s.dosing.pulsesNow = 0 ∨ s.dosing.acc < 16000) → ∀ us, 100 ≤ us → t.feedLine us = false) ∧
    (1 ≤ s.dosing.pulsesNow → 16000 ≤ s.dosing.acc → ∀ us, 100 ≤ us → t.feedLine us = decide (500 ≤ us ∧ us < 600)) := by
  have hline (us : Nat) : t.feedLine us =
      (decide (1 ≤ t.dosing.pulsesNow ∧ us < 100) || decide (2 ≤ t.dosing.pulsesNow ∧ 500 ≤ us ∧ us < 600)) := by
    simp [State.feedLine, Bool.and_assoc]
  have hcount : t.dosing.pulsesNow = if 16000 ≤ s.dosing.acc then min 2 (s.dosing.pulsesNow + 1) else 1 := h
  refine ⟨fun us hus => ?_, fun hone us hus => ?_, fun hsome hacc us hus => ?_⟩
  · rw [hline, Bool.or_eq_true, decide_eq_true_iff]
    exact .inl ⟨by rw [hcount]; split <;> omega, hus⟩
  · have hpulses : t.dosing.pulsesNow = 1 := by rw [hcount]; split <;> omega
    rw [hline, hpulses]
    simp
    omega
  · have hpulses : t.dosing.pulsesNow = 2 := by rw [hcount, if_pos hacc]; omega
    rw [hline, hpulses]
    simp
    omega

/-- Settles O58. -/
theorem beaconStockAndFeed : Obligations.BeaconStockAndFeed := by
  intro s hsel
  refine ⟨fun b => exec_setBeacon_cases b hsel, fun h => ?_, fun h => ?_, fun h => ?_, fun h => ?_, fun h => ?_,
    fun h => ?_, fun g m hm => ?_, fun hactive hstock hrate => ?_, fun h => ?_⟩
  · simp only [State.beacon, h]
    rfl
  · simp only [State.beacon, h]
  · cases hfrom : s.motion.stopFrom <;> simp only [State.beacon, h, hfrom] <;> rfl
  · simp only [State.beacon, h]
  · rcases h with h | h <;> simp only [State.beacon, h]
  · rcases h with h | h <;> simp only [State.beacon, h]
  · subst hm
    obtain ⟨hmotion, hsegs, hstation, hodo, hgroup⟩ := stockTested_frame s (min 4000000 g)
    have hdosing := stockTested_dosing s (min 4000000 g)
    refine ⟨_, exec_loadStock_taken g hsel, by simp [State.answered, hdosing], rfl, hmotion, hsegs, hstation, hodo,
      hgroup, stockTested_claims _, by simp [State.answered, hdosing], fun hvalid _ => stockTested_events _ hvalid,
      fun hvalid => stockTested_raises _ hvalid, stockTested_quiet _, fun hvalid => ?_⟩
    rw [stockTested_invalid _ hvalid]
    rfl
  · have hexec := exec_feedPulse_emits ((emitsPulse_iff s).2 ⟨hactive, hstock, hrate⟩)
    obtain ⟨hdosing, ⟨es, hes, hbrings, hlow, hempty⟩, hclaims, -, hraises⟩ := stockTests_spec s.dosing.stock s.pulsed
    have hsame : Brings s [] s.pulsed := .same rfl rfl fun _ hq => hq
    have hevents := (hsame.trans hbrings).events
    obtain ⟨hhigh, hfirst, hsecond⟩ := pulsed_line (s := s) (t := emptyTest s.dosing.stock (lowTest s.pulsed))
      (by rw [hdosing])
    refine ⟨_, hexec, by rw [hdosing]; rfl, by simp; rfl, by rw [hdosing]; rfl,
      fun hacc => by rw [hdosing]; exact if_pos hacc, hhigh, hfirst, hsecond, fun left hleft hmay hown => ?_,
      by simp; rfl, by simp; rfl, by simp; rfl, by simp; rfl, hclaims⟩
    subst hleft
    obtain ⟨hlowCallout, hemptyCallout⟩ := hraises hmay hown
    rw [hevents]
    refine ⟨fun hflag hthreshold => ⟨mem_withEvents s (by simpa using by omega) (hlow ⟨hthreshold, hflag⟩),
      hlowCallout ⟨hthreshold, hflag⟩⟩, fun hgone => ⟨mem_withEvents s (by simpa using by omega) (hempty ⟨hstock, hgone⟩),
      hemptyCallout ⟨hstock, hgone⟩ hactive⟩⟩
  · refine if_neg fun hemits => ?_
    obtain ⟨hactive, hstock, hrate⟩ := (emitsPulse_iff s).1 hemits
    rcases h with h | h | h
    · simp [h] at hactive
    · exact absurd hstock h.not_ge
    · omega

end Sys2Proof.Machine

/-! ## Fields, requests and frames as bytes (R7, R8, R11, R184, R196, R197; O19) -/

namespace Sys2Proof.Machine

/-! ### Numbers at their widths (R197) -/

/-- Every number fits its field. -/
def FitFields (ws ns : List Nat) : Prop := List.Forall₂ (fun w n => n < 256 ^ w) ws ns

@[simp] theorem fitFields_nil : FitFields [] [] ↔ True := by simp [FitFields]

@[simp] theorem fitFields_cons (w n : Nat) (ws ns : List Nat) :
    FitFields (w :: ws) (n :: ns) ↔ n < 256 ^ w ∧ FitFields ws ns := by simp [FitFields]

@[simp] theorem beBytes_length : ∀ w n, (beBytes w n).length = w
  | 0, _ => rfl
  | w + 1, n => by rw [beBytes, List.length_cons, beBytes_length w n]

/-- Reading from `a` on, a number's bytes are appended to what has been read. -/
theorem foldl_beBytes (n : Nat) : ∀ w a, (beBytes w n).foldl (fun a b => a * 256 + b.toNat) a = a * 256 ^ w + n % 256 ^ w
  | 0, a => by simp [beBytes, Nat.mod_one]
  | w + 1, a => by
    have hbyte : (byteOf (n / 256 ^ w)).toNat = n / 256 ^ w % 256 := by simp [byteOf]
    rw [beBytes, List.foldl_cons, foldl_beBytes n w, hbyte, pow_succ, Nat.mod_mul]
    ring

theorem unsigned_beBytes {w n : Nat} (h : n < 256 ^ w) : unsigned (beBytes w n) = n := by
  rw [unsigned, foldl_beBytes, Nat.zero_mul, Nat.zero_add, Nat.mod_eq_of_lt h]

theorem totalWidth_cons (w : Nat) (ws : List Nat) : totalWidth (w :: ws) = w + totalWidth ws := by
  have hshift : ∀ (l : List Nat) (a : Nat), l.foldl (· + ·) a = a + l.foldl (· + ·) 0 := by
    intro l
    induction l with
    | nil => simp
    | cons x l ih =>
      intro a
      rw [List.foldl_cons, List.foldl_cons, ih, ih (0 + x)]
      omega
  rw [totalWidth, List.foldl_cons, hshift, Nat.zero_add]
  rfl

theorem writeFields_length {ws ns : List Nat} (h : FitFields ws ns) : (writeFields ws ns).length = totalWidth ws := by
  induction h with
  | nil => rfl
  | cons _ _ ih => rw [writeFields, List.length_append, beBytes_length, ih, totalWidth_cons]

/-- Fields written at their widths are read back, whatever follows them (R197). -/
theorem readFields_writeFields {ws ns : List Nat} (h : FitFields ws ns) (more : List Byte) :
    readFields ws (writeFields ws ns ++ more) = ns := by
  induction h with
  | nil => rfl
  | @cons w n ws ns hn hrest ih =>
    rw [writeFields, readFields, List.append_assoc, List.take_left' (beBytes_length w n),
      List.drop_left' (beBytes_length w n), unsigned_beBytes hn, ih]

/-! ### Frames (R7, R8, R10, R11, R196) -/

/-- The numbers of a payload's fields. -/
def Payload.values (p : Payload) : List Nat := p.fields.map (·.2)

/-- The widths of a payload's fields. -/
def Payload.widths (p : Payload) : List Nat := p.fields.map (·.1)

theorem payload_bytes_eq (p : Payload) : p.bytes = writeFields p.widths p.values := by
  rw [Payload.bytes, Payload.widths, Payload.values]
  induction p.fields with
  | nil => rfl
  | cons f l ih => rw [List.flatMap_cons, List.map_cons, List.map_cons, writeFields, ih]

theorem payload_fits {p : Payload} (h : payloadFits p = true) : FitFields p.widths p.values := by
  rw [payloadFits, List.all_eq_true] at h
  rw [Payload.widths, Payload.values]
  generalize p.fields = l at h
  induction l with
  | nil => exact .nil
  | cons f l ih =>
    exact .cons (of_decide_eq_true (h f List.mem_cons_self)) (ih fun g hg => h g (List.mem_cons_of_mem _ hg))

/-- The kind of a payload gives its fields back (section 11.2). -/
theorem payload_kind (p : Payload) : payloadWidths p.kind = some p.widths ∧ payloadOf p.kind p.values = some p ∧
    p.kind < 32 ∧ totalWidth p.widths < 256 := by
  cases p <;> exact ⟨rfl, rfl, Nat.le_of_ble_eq_true rfl, Nat.le_of_ble_eq_true rfl⟩

/-- A frame with a sound header and check byte delivers its payload (R10, R11). -/
theorem hearFrame_sound {own sensed : Nat} {b0 b1 b2 : Byte} {p : Payload}
    (hkind : b0.toNat % 32 = p.kind) (hlow : b1.toNat ≠ 0) (hhigh : b1.toNat ≤ 254) (hother : b1.toNat ≠ own)
    (hlength : b2.toNat = totalWidth p.widths) (hfits : FitFields p.widths p.values) :
    hearFrame own sensed (b0 :: b1 :: b2 :: (p.bytes ++ [checkByte (b0 :: b1 :: b2 :: p.bytes)])) =
      delivery b1.toNat p sensed := by
  obtain ⟨hwidths, hpayload, -⟩ := payload_kind p
  have hbytes : p.bytes.length = totalWidth p.widths := by rw [payload_bytes_eq, writeFields_length hfits]
  have hread : readFields p.widths (p.bytes ++ [checkByte (b0 :: b1 :: b2 :: p.bytes)]) = p.values := by
    rw [payload_bytes_eq, readFields_writeFields hfits]
  simp only [hearFrame, hkind, hwidths]
  rw [if_neg (by omega), List.drop_left' hbytes, List.take_left' hbytes, if_neg (not_not.2 rfl), if_neg hother, hread]
  simp only [hpayload]

/-- Settles O19. -/
theorem frameBytesDeliverThePayload : Obligations.FrameBytesDeliverThePayload := by
  intro own sender priority sensed p hlow hhigh hother hpriority hfits
  obtain ⟨-, -, hkind, hwidth⟩ := payload_kind p
  have hfields := payload_fits hfits
  have hlength : p.bytes.length = totalWidth p.widths := by rw [payload_bytes_eq, writeFields_length hfields]
  have hsender : (byteOf sender).toNat = sender := by
    rw [byteOf, BitVec.toNat_ofNat]
    omega
  have hheader : (byteOf (priority * 32 + p.kind)).toNat % 32 = p.kind := by
    rw [byteOf, BitVec.toNat_ofNat]
    omega
  have hcount : (byteOf p.bytes.length).toNat = totalWidth p.widths := by
    rw [byteOf, BitVec.toNat_ofNat, hlength]
    omega
  have hheard := hearFrame_sound (own := own) (sensed := sensed) (b0 := byteOf (priority * 32 + p.kind))
    (b1 := byteOf sender) (b2 := byteOf p.bytes.length) hheader (by omega) (by omega) (by omega) hcount hfields
  rw [hsender] at hheard
  exact hheard

/-! ### Requests (R184, R185, R197) -/

theorem signed16_twos16 {i : Int} (h : fitsSigned16 i = true) : signed16 (twos16 i) = i ∧ twos16 i < 65536 := by
  simp only [fitsSigned16, Bool.and_eq_true, decide_eq_true_eq] at h
  have htwos : twos16 i = (i % 65536).toNat := rfl
  unfold signed16
  refine ⟨?_, by omega⟩
  split <;> omega

/-- A list of one-byte numbers fits as many one-byte fields. -/
theorem fitFields_bytes {l : List Nat} (h : l.all fits8 = true) : FitFields (List.replicate l.length 1) l := by
  induction l with
  | nil => exact .nil
  | cons n l ih =>
    rw [List.all_cons, Bool.and_eq_true] at h
    exact .cons (by simpa [fits8] using h.1) (ih h.2)

/-- What the parts of a request come from: its code, with fields that fit the widths of that code and spell the request
again (section 11.3). -/
def RequestParts (i : Instr) (code : Nat) (fields : List Nat) : Prop :=
  code < 256 ∧ ∃ ws, requestWidths code = some ws ∧ FitFields ws fields ∧ requestOf code fields = some i

theorem requestParts_plain {i : Instr} {code : Nat} (hcode : code < 256) (hwidths : requestWidths code = some [])
    (hspells : requestOf code [] = some i) : RequestParts i code [] := ⟨hcode, [], hwidths, .nil, hspells⟩

theorem requestParts_configure {f : ConfigureFields} (h : f.wellFormed = true) :
    RequestParts (.configure f) 0x03 ([f.station, f.cls, f.group, f.width, f.feedCal, f.feedMax, f.crawl, f.accel, f.decel,
      f.countsPerMetre, f.decodeMode, f.warnThreshold, f.warnDecrement, f.stuckThreshold, f.stuckDecrement,
      f.holdResponse, f.holdStop, f.sendHold, f.manualRestart, f.stride, f.residualWindow, f.lowStock, f.workBeacon] ++
      f.doses) := by
  simp only [ConfigureFields.wellFormed, Bool.and_eq_true, beq_iff_eq] at h
  obtain ⟨hfixed, hdoses⟩ := h
  obtain ⟨hfixed, hcount⟩ := hfixed
  have hlist := fitFields_bytes hdoses
  rw [hcount] at hlist
  refine ⟨by decide, _, rfl, ?_, rfl⟩
  simp only [fits8, fits16, fits32, decide_eq_true_eq] at hfixed
  simpa [and_assoc] using And.intro hfixed hlist

theorem requestParts_load {f : LoadFields} (h : f.wellFormed = true) :
    RequestParts (.loadSegment f) 0x04 ([f.segment, f.length, f.speedLimit, f.surface, f.saltPermitted,
      twos16 f.defaultTemp, f.adjacentCount] ++ f.adjacent) := by
  simp only [LoadFields.wellFormed, Bool.and_eq_true, beq_iff_eq] at h
  obtain ⟨⟨⟨⟨hfixed, htemp⟩, hcount⟩, hlength⟩, hadjacent⟩ := h
  obtain ⟨hback, hfit⟩ := signed16_twos16 htemp
  obtain ⟨segment, length, limit, surface, salt, temp, count, adjacent⟩ := f
  obtain ⟨a, b, c, d, rfl⟩ := List.length_eq_four.1 hlength
  refine ⟨by decide, _, rfl, ?_, ?_⟩
  · simp only [fits8, fits16, decide_eq_true_eq, List.all_cons, List.all_nil, Bool.and_true, Bool.and_eq_true]
      at hfixed hcount hadjacent
    simpa [and_assoc, hfit] using And.intro hfixed (And.intro hcount hadjacent)
  · show some (Instr.loadSegment _) = _
    rw [hback]

/-- Every request that can be sent has its code and fields (section 11.3). -/
theorem requestParts_sound {i : Instr} {code : Nat} {fields : List Nat} (hwell : i.wellFormed = true)
    (hparts : requestParts i = some (code, fields)) : RequestParts i code fields := by
  cases i with
  | configure f => obtain ⟨rfl, rfl⟩ := hparts; exact requestParts_configure hwell
  | loadSegment f => obtain ⟨rfl, rfl⟩ := hparts; exact requestParts_load hwell
  | reportTemperature n t =>
    obtain ⟨rfl, rfl⟩ := hparts
    obtain ⟨hn, ht⟩ := (Bool.and_eq_true_iff ..).1 hwell
    obtain ⟨hback, hfit⟩ := signed16_twos16 ht
    refine ⟨by decide, _, rfl, by simpa [hfit, fits16] using hn, ?_⟩
    show some (Instr.reportTemperature n _) = _
    rw [hback]
  | readStatus => obtain ⟨rfl, rfl⟩ := hparts; exact requestParts_plain (by decide) rfl rfl
  | takeEvent => obtain ⟨rfl, rfl⟩ := hparts; exact requestParts_plain (by decide) rfl rfl
  | clearSegments => obtain ⟨rfl, rfl⟩ := hparts; exact requestParts_plain (by decide) rfl rfl
  | join => obtain ⟨rfl, rfl⟩ := hparts; exact requestParts_plain (by decide) rfl rfl
  | leave => obtain ⟨rfl, rfl⟩ := hparts; exact requestParts_plain (by decide) rfl rfl
  | restart => obtain ⟨rfl, rfl⟩ := hparts; exact requestParts_plain (by decide) rfl rfl
  | readClaims => obtain ⟨rfl, rfl⟩ := hparts; exact requestParts_plain (by decide) rfl rfl
  | start => obtain ⟨rfl, rfl⟩ := hparts; exact requestParts_plain (by decide) rfl rfl
  | armStart => obtain ⟨rfl, rfl⟩ := hparts; exact requestParts_plain (by decide) rfl rfl
  | stopRoute => obtain ⟨rfl, rfl⟩ := hparts; exact requestParts_plain (by decide) rfl rfl
  | sendGo => obtain ⟨rfl, rfl⟩ := hparts; exact requestParts_plain (by decide) rfl rfl
  | sendResume => obtain ⟨rfl, rfl⟩ := hparts; exact requestParts_plain (by decide) rfl rfl
  | readSegment n =>
    obtain ⟨rfl, rfl⟩ := hparts
    exact ⟨by decide, _, rfl, by simpa [Instr.wellFormed, fits8, fits16, fits32, and_assoc] using hwell, rfl⟩
  | readCells n first last =>
    obtain ⟨rfl, rfl⟩ := hparts
    exact ⟨by decide, _, rfl, by simpa [Instr.wellFormed, fits8, fits16, fits32, and_assoc] using hwell, rfl⟩
  | markSnowfall first last clearSalt broadcast =>
    obtain ⟨rfl, rfl⟩ := hparts
    exact ⟨by decide, _, rfl, by simpa [Instr.wellFormed, fits8, fits16, fits32, and_assoc] using hwell, rfl⟩
  | requestClaim n intent urgency =>
    obtain ⟨rfl, rfl⟩ := hparts
    exact ⟨by decide, _, rfl, by simpa [Instr.wellFormed, fits8, fits16, fits32, and_assoc] using hwell, rfl⟩
  | releaseClaim n =>
    obtain ⟨rfl, rfl⟩ := hparts
    exact ⟨by decide, _, rfl, by simpa [Instr.wellFormed, fits8, fits16, fits32, and_assoc] using hwell, rfl⟩
  | enterSegment n direction =>
    obtain ⟨rfl, rfl⟩ := hparts
    exact ⟨by decide, _, rfl, by simpa [Instr.wellFormed, fits8, fits16, fits32, and_assoc] using hwell, rfl⟩
  | sendHold holdType reason =>
    obtain ⟨rfl, rfl⟩ := hparts
    exact ⟨by decide, _, rfl, by simpa [Instr.wellFormed, fits8, fits16, fits32, and_assoc] using hwell, rfl⟩
  | setBeacon b =>
    obtain ⟨rfl, rfl⟩ := hparts
    exact ⟨by decide, _, rfl, by simpa [Instr.wellFormed, fits8, fits16, fits32, and_assoc] using hwell, rfl⟩
  | loadStock g =>
    obtain ⟨rfl, rfl⟩ := hparts
    exact ⟨by decide, _, rfl, by simpa [Instr.wellFormed, fits8, fits16, fits32, and_assoc] using hwell, rfl⟩
  | raiseCallout urgency n cell detail =>
    obtain ⟨rfl, rfl⟩ := hparts
    exact ⟨by decide, _, rfl, by simpa [Instr.wellFormed, fits8, fits16, fits32, and_assoc] using hwell, rfl⟩
  | _ => exact nomatch hparts

/-- The bytes of a request: a code byte with as many more as its widths say, and whatever follows, it decodes to the
request (R184). -/
theorem encodeRequest_sound {i : Instr} {bs : List Byte} (hwell : i.wellFormed = true) (hbytes : encodeRequest i = some bs) :
    ∃ code rest ws, bs = code :: rest ∧ requestWidths code.toNat = some ws ∧ rest.length = totalWidth ws ∧
      ∀ more, decodeRequest (bs ++ more) = i := by
  cases hparts : requestParts i with
  | none => simp [encodeRequest, hparts] at hbytes
  | some parts =>
    obtain ⟨code, fields⟩ := parts
    obtain ⟨hcode, ws, hwidths, hfits, hspells⟩ := requestParts_sound hwell hparts
    simp only [encodeRequest, hparts, hwidths, Option.getD_some, Option.some.injEq] at hbytes
    have hback : (byteOf code).toNat = code := by
      rw [byteOf, BitVec.toNat_ofNat]
      omega
    refine ⟨_, _, ws, hbytes.symm, by rw [hback, hwidths], writeFields_length hfits, fun more => ?_⟩
    subst hbytes
    simp only [List.cons_append, decodeRequest, hback, hwidths]
    rw [if_neg (by rw [List.length_append, writeFields_length hfits]; omega), readFields_writeFields hfits, hspells]
    rfl

end Sys2Proof.Machine

/-! ## The lines of the host port (R184, R185, R191, R192, R195; O16, O18) -/

namespace Sys2Proof.Machine

/-! ### A request clocked in (R184) -/

/-- The bytes are as many as the first of them says. -/
def WholeRequest (bs : List Byte) : Prop := ∃ code rest, bs = code :: rest ∧ requestLength code = bs.length

theorem whole_of_widths {code : Byte} {rest : List Byte} {ws : List Nat} (hwidths : requestWidths code.toNat = some ws)
    (hlength : rest.length = totalWidth ws) : WholeRequest (code :: rest) := by
  refine ⟨code, rest, rfl, ?_⟩
  rw [requestLength, hwidths, Option.getD_some, List.length_cons]
  omega

/-- A transaction that has taken in the first `n` bytes of a request is full where these are all of them (R184). -/
theorem full_take {bs : List Byte} (hwhole : WholeRequest bs) (t : Transaction) {n : Nat} (hbytes : t.bytes = bs.take n)
    (hn : n ≤ bs.length) : t.full = decide (n = bs.length) := by
  obtain ⟨code, rest, rfl, hlength⟩ := hwhole
  rw [List.length_cons] at hlength hn ⊢
  rw [Transaction.full, hbytes]
  cases n with
  | zero => simp
  | succ n =>
    rw [List.take_succ_cons]
    simp only [List.length_cons, List.length_take, hlength]
    rw [decide_eq_decide]
    omega

/-- The block in a transaction: what the port has handed on, and what it has taken in (R184). -/
def State.clocked (s : State) (handed : List Instr) (t : Transaction) : State := { s with
  pending := s.pending ++ handed, host := { s.host with reply := none, transaction := t } }

/-- SEL falls on a port that takes transactions: one begins (R184). -/
theorem selFalls_begins {s : State} (hsel : s.host.heldSel = false) (hidle : s.host.transaction.selected = false) :
    s.portEdge .selFalls = s.clocked [] ⟨true, 0, 0, [], 0⟩ := by
  simp [State.clocked, State.portEdge, State.portWaits, hsel, State.selFalls, hidle, Transaction.reset, State.onHost]

/-- The block after `n` of a request's bytes, clocked in from the fall of SEL on (R184). -/
theorem clockIn_bytes {s : State} (hsel : s.host.heldSel = false) (hidle : s.host.transaction.selected = false)
    {bs : List Byte} (hwhole : WholeRequest bs) (n : Nat) (hn : n ≤ bs.length) :
    ∃ shift, (s.portEdge .selFalls).clockIn ((bs.take n).flatMap bitsOf) =
      s.clocked (if n = bs.length then [decodeRequest bs] else []) ⟨true, 8 * n, shift, bs.take n, 8 * n⟩ := by
  induction n with
  | zero =>
    obtain ⟨code, rest, rfl, -⟩ := hwhole
    refine ⟨0, ?_⟩
    rw [selFalls_begins hsel hidle]
    rfl
  | succ n ih =>
    obtain ⟨shift, hso⟩ := ih (by omega)
    have hlt : n < bs.length := hn
    refine ⟨bs[n], ?_⟩
    rw [List.take_succ_eq_append_getElem hlt, List.flatMap_append, List.flatMap_singleton, clockIn_append, hso,
      if_neg (by omega), ← List.take_succ_eq_append_getElem hlt]
    have hstarted : Transaction.full ⟨true, 8 * n, shift, bs.take n, 8 * n⟩ = false :=
      (full_take hwhole _ rfl hlt.le).trans (by simp; omega)
    have htaken : Transaction.full ⟨true, 8 * n + 8, bs[n], bs.take n ++ [bs[n]], 8 * n + 8⟩ = decide (n + 1 = bs.length) :=
      full_take hwhole _ (List.take_succ_eq_append_getElem hlt).symm hn
    have hbyte := clockIn_byte bs[n] (s.clocked [] ⟨true, 8 * n, shift, bs.take n, 8 * n⟩) ⟨hsel, rfl⟩
      (Nat.mul_mod_right 8 n) hstarted ⟨true, 8 * n + 8, bs[n], bs.take n ++ [bs[n]], 8 * n + 8⟩ rfl
    rw [hbyte, htaken, ← List.take_succ_eq_append_getElem hlt]
    by_cases hlast : n + 1 = bs.length
    · rw [if_pos (by simpa using hlast), if_pos hlast, hlast, List.take_length]
      simp [State.clocked]
      omega
    · rw [if_neg (by simpa using hlast), if_neg hlast]
      simp [State.clocked]
      omega

theorem bits_length (bs : List Byte) : (bs.flatMap bitsOf).length = 8 * bs.length := by
  induction bs with
  | nil => rfl
  | cons b bs ih =>
    rw [List.flatMap_cons, List.length_append, ih, List.length_cons]
    simp [bitsOf]
    omega

/-- A request clocked in with whatever follows it: it is handed on, and what follows is counted alone (R184). -/
theorem clockIn_request {s : State} (hsel : s.host.heldSel = false) (hidle : s.host.transaction.selected = false)
    {bs : List Byte} (hwhole : WholeRequest bs) (more : List Bool) : ∃ t : Transaction,
    (s.portEdge .selFalls).clockIn (bs.flatMap bitsOf ++ more) = s.clocked [decodeRequest bs] t ∧
    t.selected = true ∧ t.bytes = bs ∧ t.count = 8 * bs.length + more.length ∧ t.shown = t.count ∧ t.full = true := by
  obtain ⟨shift, hso⟩ := clockIn_bytes hsel hidle hwhole bs.length le_rfl
  rw [if_pos rfl, List.take_length] at hso
  have hfull : Transaction.full ⟨true, 8 * bs.length, shift, bs, 8 * bs.length⟩ = true :=
    (full_take hwhole _ List.take_length.symm le_rfl).trans (by simp)
  rw [clockIn_append, hso, clockIn_full more (s.clocked _ _) ⟨hsel, rfl⟩ hfull]
  exact ⟨_, rfl, rfl, rfl, rfl, rfl, hfull⟩

/-- The bits of a list of bytes up to some bit of one of them. -/
theorem take_bits {bs : List Byte} : ∀ {m k : Nat} (hm : m < bs.length), k < 8 →
    (bs.flatMap bitsOf).take (8 * m + k) = (bs.take m).flatMap bitsOf ++ (bitsOf bs[m]).take k := by
  induction bs with
  | nil => intro m k hm; simp at hm
  | cons b bs ih =>
    intro m k hm hk
    have hbits : (bitsOf b).length = 8 := rfl
    cases m with
    | zero =>
      rw [List.flatMap_cons, Nat.mul_zero, Nat.zero_add, List.take_append_of_le_length (by omega)]
      rfl
    | succ m =>
      rw [List.flatMap_cons, show 8 * (m + 1) + k = (bitsOf b).length + (8 * m + k) by omega, List.take_length_add_append,
        ih (by simpa using hm) hk, List.take_succ_cons, List.flatMap_cons, List.append_assoc]
      rfl

/-- Short of its last bit a request is not handed on, and its transaction is not full (R184). -/
theorem clockIn_cut {s : State} (hsel : s.host.heldSel = false) (hidle : s.host.transaction.selected = false)
    {bs : List Byte} (hwhole : WholeRequest bs) {n : Nat} (hn : n < 8 * bs.length) : ∃ t : Transaction,
    (s.portEdge .selFalls).clockIn ((bs.flatMap bitsOf).take n) = s.clocked [] t ∧
    t.selected = true ∧ t.full = false := by
  have hm : n / 8 < bs.length := by omega
  obtain ⟨shift, hso⟩ := clockIn_bytes hsel hidle hwhole (n / 8) hm.le
  rw [if_neg (by omega)] at hso
  have hcut := take_bits hm (Nat.mod_lt n (by decide : 0 < 8))
  rw [Nat.div_add_mod] at hcut
  rw [hcut, clockIn_append, hso, clockIn_short _ (s.clocked _ _) ⟨hsel, rfl⟩ (by simp [bitsOf, State.clocked]; omega)]
  exact ⟨_, rfl, rfl, (full_take hwhole _ rfl hm.le).trans (by simp; omega)⟩

/-! ### Edges that hand on nothing, and the end of a transaction (R184, R185, R195) -/

theorem sckFalls_pending (s : State) : (s.portEdge .sckFalls).pending = s.pending := by
  unfold State.portEdge
  dsimp only
  split
  · rfl
  · split <;> rfl

theorem sck_idle {s : State} (hsel : s.host.heldSel = false) (hidle : s.host.transaction.selected = false) (b : Bool) :
    s.portEdge (.sckRises b) = s ∧ s.portEdge .sckFalls = s := by
  simp [State.portEdge, State.portWaits, hsel, hidle]

theorem selRises_taken {s : State} (hsel : s.host.heldSel = false) (hfull : s.host.transaction.full = true) :
    s.portEdge .selRises = { s with host := { s.host with transaction := ⟨false, 0, 0, [], 0⟩ } } := by
  simp [State.portEdge, State.portWaits, hsel, State.selRises, hfull, State.withTransaction, Transaction.reset, State.onHost]

theorem selRises_cut {s : State} (hsel : s.host.heldSel = false) (hselected : s.host.transaction.selected = true)
    (hfull : s.host.transaction.full = false) :
    s.portEdge .selRises = { s with
      pending := s.pending ++ [.transactionAborted]
      host := { s.host with transaction := ⟨false, 0, 0, [], 0⟩ } } := by
  simp [State.portEdge, State.portWaits, hsel, State.selRises, hselected, hfull, State.withTransaction, State.handOn,
    State.setPending, Transaction.reset, State.onHost]

/-! ### MISO (R184, R185) -/

theorem misoByte_filler {s : State} (n : Nat) (h : s.host.transaction.full = false ∨ s.host.heldSel = true) :
    s.misoByte n = fillerByte := by
  refine if_neg fun ⟨hfull, hport⟩ => ?_
  rcases h with h | h
  · rw [h] at hfull
    exact absurd hfull (by decide)
  · simp [State.portWaits, h] at hport

/-- With the request taken: filler up to one byte after it, then the reply, then filler (R184). -/
theorem misoByte_full {s : State} (n : Nat) (hsel : s.host.heldSel = false) (hfull : s.host.transaction.full = true) :
    s.misoByte n = if n ≤ s.host.transaction.bytes.length then fillerByte
      else (s.host.reply.getD []).getD (n - s.host.transaction.bytes.length - 1) fillerByte := by
  rw [State.misoByte, if_pos ⟨hfull, by simp [State.portWaits, hsel]⟩, State.miso, List.getElem?_take_of_lt (by omega),
    List.append_assoc]
  by_cases hn : n ≤ s.host.transaction.bytes.length
  · rw [if_pos hn, List.getElem?_append_left (by simp; omega), List.getElem?_replicate, if_pos (by omega)]
    rfl
  · rw [if_neg hn, List.getElem?_append_right (by simp; omega), List.length_replicate, Nat.sub_sub,
      List.getD_eq_getElem?_getD]
    by_cases hreply : n - (s.host.transaction.bytes.length + 1) < (s.host.reply.getD []).length
    · rw [List.getElem?_append_left hreply]
    · rw [List.getElem?_append_right (by omega), List.getElem?_eq_none (l := s.host.reply.getD []) (by omega),
        List.getElem?_replicate]
      split <;> rfl

theorem misoLevel_selected {s : State} {j k : Nat} (hselected : s.host.transaction.selected = true ∨ s.host.heldSel = true)
    (hk : k < 8) (hshown : s.host.transaction.shown = 8 * j + k) : s.misoLevel = (s.misoByte j).getMsbD k := by
  have hbits : s.bitsShown = 8 * j + k := by
    rw [← hshown]
    exact if_pos hselected
  rw [State.misoLevel, hbits]
  congr <;> omega

theorem misoLevel_idle {s : State} (hsel : s.host.heldSel = false) (hidle : s.host.transaction.selected = false) :
    s.misoLevel = (0xA5 : BitVec 8).getMsbD 0 := by
  have hbits : s.bitsShown = 0 := if_neg (by simp [hidle, State.portWaits, hsel])
  have hfiller : s.misoByte 0 = fillerByte := by
    cases hfull : s.host.transaction.full with
    | false => exact misoByte_filler 0 (.inl hfull)
    | true => rw [misoByte_full 0 hsel hfull, if_pos (Nat.zero_le _)]
  rw [State.misoLevel, hbits, Nat.zero_div, hfiller]
  rfl

/-- Settles O18. -/
theorem requestBytesDecodeToTheRequest : Obligations.RequestBytesDecodeToTheRequest := by
  intro i bs more hwell hbytes
  obtain ⟨code, rest, ws, hbs, hwidths, hlength, hdecode⟩ := encodeRequest_sound hwell hbytes
  have hwhole : WholeRequest bs := hbs ▸ whole_of_widths hwidths hlength
  have hrequest : decodeRequest bs = i := by simpa using hdecode []
  refine ⟨hdecode more, fun s hsel hidle => ⟨sck_idle hsel hidle, fun t ht => ?_, fun n hn t ht => ?_, fun l b hl => ?_⟩,
    fun s hsel hidle => misoLevel_idle hsel hidle, fun s j k hsel hselected hk hshown => ⟨fun n hn htaken => ?_,
    fun htaken => ?_⟩⟩
  · obtain ⟨u, hso, hselected, hall, hcount, hshown, hfull⟩ := clockIn_request hsel hidle hwhole (more.flatMap bitsOf)
    rw [List.flatMap_append, hso, hrequest] at ht
    subst ht
    refine ⟨rfl, hselected, hall, ?_, hshown, selRises_taken hsel hfull⟩
    rw [bits_length] at hcount
    refine hcount.trans ?_
    rw [List.length_append]
    omega
  · obtain ⟨u, hso, hselected, hfull⟩ := clockIn_cut hsel hidle hwhole hn
    rw [hso] at ht
    subst ht
    refine ⟨List.append_nil _, (selRises_cut (s := s.clocked [] u) hsel hselected hfull).trans ?_⟩
    simp [State.clocked]
  · obtain ⟨u, hso, -⟩ := clockIn_request hsel hidle hwhole []
    rw [List.append_nil, hl, clockIn_append, clockIn_cons, clockIn_nil, hrequest] at hso
    rw [← sckFalls_pending, hso]
    rfl
  · have hfull : s.host.transaction.full = false := (full_take hwhole _ htaken hn.le).trans (by simp; omega)
    rw [misoLevel_selected (.inl hselected) hk hshown, misoByte_filler j (.inl hfull)]
    rfl
  · have hfull : s.host.transaction.full = true :=
      (full_take hwhole _ (htaken.trans List.take_length.symm) le_rfl).trans (by simp)
    rw [misoLevel_selected (.inl hselected) hk hshown, misoByte_full j hsel hfull, htaken]
    rfl

/-! ### Requests lost, codes unknown and events taken (R185, R191, R195) -/

/-- A request sent in the transaction that a reset found under way is lost with it (R185, R195). -/
theorem exec_request_lost {c : Instr} {s : State} (hsel : s.host.heldSel = true)
    (hc : isRequest c = true ∨ ∃ code, c = .unknownRequest code) :
    exec c s = .next { s with host := { s.host with reply := none, heldSel := false } } := by
  rcases hc with hc | ⟨code, rfl⟩
  · cases c with
    | readStatus | takeEvent | configure | loadSegment | clearSegments | join | leave | restart | readSegment | readCells
    | reportTemperature | markSnowfall | requestClaim | releaseClaim | readClaims | enterSegment | start | armStart
    | stopRoute | sendGo | sendHold | sendResume | setBeacon | loadStock | raiseCallout => exact whenTaken_waits s _ hsel
    | _ => exact nomatch hc
  · exact whenTaken_waits s _ hsel

theorem requestWidths_unknown {n : Nat} (h : n = 0 ∨ 25 < n) : requestWidths n = none := by
  rcases h with rfl | h
  · rfl
  · obtain ⟨m, rfl⟩ := Nat.exists_eq_add_of_lt h
    rw [Nat.add_right_comm, Nat.add_comm]
    rfl

theorem exec_unknownRequest {code : Nat} {s : State} (hsel : s.host.heldSel = false) (hcode : code = 0 ∨ 25 < code) :
    exec (.unknownRequest code) s = .next (s.answered [0x09]) := by
  have hnone : ¬ definedCode code = true := by
    simp only [definedCode, Bool.and_eq_true, decide_eq_true_eq]
    omega
  refine (whenTaken_taken s _ hsel).trans ?_
  rw [if_neg hnone, refuse_eq_answered]
  rfl

theorem exec_takeEvent_none {s : State} (hsel : s.host.heldSel = false) (hevents : s.host.events = []) :
    exec .takeEvent s = .next (s.answered [0x00, 0x00, 0x00]) := by
  refine (whenTaken_taken s _ hsel).trans ?_
  rw [hevents]
  rfl

theorem exec_takeEvent_some {s : State} (hsel : s.host.heldSel = false) {r : EventRecord} {rest : List EventRecord}
    (hevents : s.host.events = r :: rest) : exec .takeEvent s = .next { s with host := { s.host with
      events := rest
      reply := some (0x00 :: BitVec.ofNat 8 rest.length :: recordBytes r) } } := by
  refine (whenTaken_taken s _ hsel).trans ?_
  rw [hevents]
  rfl

/-- Settles O16. -/
theorem transactionsAndEvents : Obligations.TransactionsAndEvents := by
  intro s
  refine ⟨rfl, fun hsel c hc => exec_request_lost hsel hc, fun hsel => ⟨fun b => ?_, ?_, ?_, ?_⟩, ?_,
    fun hsel => ⟨fun hidle code more hcode => ?_, fun code hcode => exec_unknownRequest hsel hcode,
      exec_takeEvent_none hsel, fun r rest hevents => exec_takeEvent_some hsel hevents⟩⟩
  · simp [State.portEdge, State.portWaits, hsel]
  · simp [State.portEdge, State.portWaits, hsel, State.sckFalls, State.withTransaction, State.onHost]
  · simp [State.portEdge, State.portWaits, hsel, nothingTaken, State.withTransaction, Transaction.reset, State.onHost]
  · rw [misoLevel_selected (.inr hsel) (Nat.mod_lt _ (by decide)) (Nat.div_add_mod _ 8).symm,
      misoByte_filler _ (.inr hsel)]
    rfl
  · simp [State.attn]
  · have hunknown : requestWidths code.toNat = none := by
      refine requestWidths_unknown (hcode.imp (fun h => by rw [h]; rfl) fun h => ?_)
      exact BitVec.lt_def.1 h
    have hwhole : WholeRequest [code] := ⟨code, [], rfl, by rw [requestLength, hunknown]; rfl⟩
    obtain ⟨t, hso, -⟩ := clockIn_request hsel hidle hwhole more
    rw [List.flatMap_singleton] at hso
    rw [hso]
    simp only [State.clocked, decodeRequest, hunknown]

end Sys2Proof.Machine

/-! ## The reads (R48, R96, R110, R135, R149, R165, R183, R193, R197; O17) -/

namespace Sys2Proof.Machine

/-! ### Bytes in a list (R197) -/

theorem flagByte_eq (b : Bool) : flagByte b = BitVec.ofNat 8 b.toNat := by cases b <;> rfl

theorem byteOf_eq (n : Nat) : byteOf n = BitVec.ofNat 8 n := rfl

@[simp] theorem byteList_nil : byteList [] = [] := rfl

@[simp] theorem byteList_cons (n : Nat) (l : List Nat) : byteList (n :: l) = BitVec.ofNat 8 n :: byteList l := rfl

theorem be32_halves (n : Nat) : be32 n = be16 (n / 65536) ++ be16 n := by
  simp [be32, be16, Nat.div_div_eq_div_mul]

/-! ### Read Status (R193) -/

theorem statusOdo_is (s : State) : ∃ a, statusOdo s = be32 (s.odo.position % 4294967296).toNat
    ++ (match s.odo.entry with
        | none => byteList [0, 0, a, 0, 255, 0, 0, 0, 0, 0]
        | some e => be16 e.segment ++ byteList [directionCode e.direction, e.done.toNat, e.cell, 1]
            ++ be32 (positionMm s.station.config (accounting e.length s.odo.position)))
    ++ be16 s.odo.speed ++ byteList [senseCode s.odo.sense, s.odo.fault.toNat, s.odo.lastErrors] := by
  refine ⟨(Config.unstatedReplyByte 0).toNat, ?_⟩
  unfold statusOdo
  cases s.odo.entry with
  | none => simp [twos32, flagByte_eq, byteOf_eq, optional32, be16, be32]
  | some e => simp [twos32, flagByte_eq, byteOf_eq, optional32, State.cfg]

/-- The two bytes that show end state and origin of STOPPING (R135; log 23). -/
theorem stoppingBytes_is (m : Motion) : ∃ e f, (m.state = .stopping →
    e = motionCode (if m.stopEnd = .idle then .idle else .groupHold) ∧
    f = motionCode (if m.stopFrom = .run then .run else .caution)) ∧ stoppingBytes m = byteList [e, f] := by
  by_cases h : m.state = .stopping
  · refine ⟨_, _, fun _ => ⟨rfl, rfl⟩, ?_⟩
    rw [stoppingBytes, if_pos h]
    cases m.stopEnd <;> cases m.stopFrom <;> rfl
  · refine ⟨(Config.unstatedReplyByte 1).toNat, (Config.unstatedReplyByte 2).toNat, fun hs => absurd hs h, ?_⟩
    rw [stoppingBytes, if_neg h]
    simp

theorem statusMotion_is (s : State) : ∃ e f secs, (s.motion.state = .stopping →
      e = motionCode (if s.motion.stopEnd = .idle then .idle else .groupHold) ∧
      f = motionCode (if s.motion.stopFrom = .run then .run else .caution)) ∧
    (s.motion.guestBlockedMs / 1000 ≤ 65535 → secs = s.motion.guestBlockedMs / 1000) ∧
    statusMotion s = byteList [motionCode s.motion.state, e, f] ++ be16 s.motion.ceiling ++ be16 s.target
      ++ byteList [s.permit.toNat, s.causeWarning.toNat + 2 * s.causePeer.toNat + 4 * s.causeSeize.toNat]
      ++ be16 ((s.motion.seizePeriod.map (10000 - ·)).getD 0)
      ++ byteList [s.motion.warnCounter, s.motion.warning.toNat, s.motion.latch.toNat] ++ be16 s.motion.restartMs
      ++ byteList [zoneCode s.zone] ++ be16 secs
      ++ byteList [s.motion.stuck, s.motion.overspeedRun,
        s.motion.faults.overspeed.toNat + 2 * s.motion.faults.stuck.toNat + 4 * s.motion.faults.odometer.toNat
          + 8 * s.motion.faults.claimLost.toNat,
        s.motion.holdSent.toNat, s.beacon, s.station.config.workBeacon] := by
  obtain ⟨e, f, hstopping, hbytes⟩ := stoppingBytes_is s.motion
  refine ⟨e, f, guestSeconds s.motion.guestBlockedMs, hstopping, fun h => if_pos h, ?_⟩
  simp [statusMotion, hbytes, flagByte_eq, byteOf_eq, causeByte, faultByte, Config.seizePeriodLimit, State.cfg]

theorem statusGroup_is (s : State) : statusGroup s =
    byteList ([s.station.config.group, s.group.retained.toNat, s.group.guestMark.toNat]
        ++ match s.group.hostMark with
          | none => [0, 0, 0]
          | some (ty, re) => [1, holdTypeCode ty, holdReasonCode re])
      ++ be16 s.group.repeatMs ++ byteList [s.group.holds.length]
      ++ s.group.holds.flatMap (fun h =>
        byteList [h.originator, holdTypeCode h.holdType, holdReasonCode h.reason] ++ optional32 h.expiry) := by
  have hholds : holdBytes = fun h =>
      byteList [h.originator, holdTypeCode h.holdType, holdReasonCode h.reason] ++ optional32 h.expiry := rfl
  rw [statusGroup, hholds]
  rcases s.group.hostMark with _ | ⟨ty, re⟩
  · simp [flagByte_eq, byteOf_eq, State.cfg]
  · simp [flagByte_eq, byteOf_eq, State.cfg]

theorem retryCode_eq (r : Retry) : retryCode r = if r = .queued then 0 else 1 := by cases r <;> rfl

theorem statusReply_is (s : State) : ∃ g : StatusGroups, s.StatusIs g ∧ statusReply s =
    0x4B :: 3 :: (g.station ++ g.channel ++ g.odometry ++ g.motion ++ g.group ++ g.dosing ++ g.callout ++
      [BitVec.ofNat 8 s.host.events.length]) := by
  refine ⟨⟨statusStation s, statusChannel s, statusOdo s, statusMotion s, statusGroup s, statusDosing s,
    statusCallout s⟩, ⟨?_, rfl, statusOdo_is s, statusMotion_is s, statusGroup_is s, ?_, ?_⟩, ?_⟩
  · simp [statusStation, flagByte_eq, byteOf_eq, State.cfg]
  · simp [statusDosing, flagByte_eq, byteOf_eq]
  · simp [statusCallout, byteOf_eq, retryCode_eq]
  · simp [statusReply, byteOf_eq]

theorem exec_readStatus {s : State} (hsel : s.host.heldSel = false) : exec .readStatus s = .next { s with
    channel := { s.channel with noiseCount := 0 }
    host := { s.host with reply := some (0x00 :: statusReply s) } } :=
  whenTaken_taken s _ hsel

/-! ### Read Claims (R96) -/

/-- The order of Read Claims: by segment, then by holder (R96). -/
def ViewEntry.before (v w : ViewEntry) : Prop := v.segment < w.segment ∨ (v.segment = w.segment ∧ v.holder ≤ w.holder)

theorem insertView_perm (v : ViewEntry) (l : List ViewEntry) : (insertView v l).Perm (v :: l) := by
  induction l with
  | nil => exact .refl _
  | cons w r ih =>
    rw [insertView]
    split
    · exact (ih.cons w).trans (.swap v w r)
    · exact .refl _

theorem insertView_sorted (v : ViewEntry) {l : List ViewEntry} (h : l.Pairwise ViewEntry.before) :
    (insertView v l).Pairwise ViewEntry.before := by
  induction l with
  | nil => exact List.pairwise_singleton _ _
  | cons w r ih =>
    obtain ⟨hhead, htail⟩ := List.pairwise_cons.1 h
    rw [insertView]
    split
    · next hbehind =>
      refine List.pairwise_cons.2 ⟨fun x hx => ?_, ih htail⟩
      rcases List.mem_cons.1 ((insertView_perm v r).mem_iff.1 hx) with rfl | hx
      · exact hbehind
      · exact hhead x hx
    · next hahead =>
      have hvw : v.before w := by unfold ViewEntry.before; omega
      refine List.pairwise_cons.2 ⟨fun x hx => ?_, h⟩
      rcases List.mem_cons.1 hx with rfl | hx
      · exact hvw
      · have hwx := hhead x hx
        unfold ViewEntry.before at *
        omega

theorem sortView_perm (l : List ViewEntry) : (sortView l).Perm l := by
  induction l with
  | nil => exact .refl _
  | cons v l ih => exact (insertView_perm v _).trans (ih.cons v)

theorem sortView_sorted (l : List ViewEntry) : (sortView l).Pairwise ViewEntry.before := by
  induction l with
  | nil => exact .nil
  | cons v l ih => exact insertView_sorted v ih

theorem ownClaimBytes_is (s : State) (r : OwnClaim) : ownClaimBytes s r =
    be16 r.segment ++ byteList [intentCode r.intent, r.urgency, r.rank, claimStateCode r.state,
      claimFrameCode r.frame] ++ optional32 r.lastSend ++ byteList [r.releasePending.toNat,
      if r.state = .holding ∧ s.currentSegment = some r.segment ∧ s.motion.state ≠ .idle then 1 else 0] := by
  have hoccupied : (s.occupied r).toNat =
      if r.state = .holding ∧ s.currentSegment = some r.segment ∧ s.motion.state ≠ .idle then 1 else 0 := by
    rw [occupied_eq]
    by_cases h : r.state = .holding ∧ s.currentSegment = some r.segment ∧ s.motion.state ≠ .idle
    · rw [if_pos h]; exact congrArg Bool.toNat (decide_eq_true h)
    · rw [if_neg h]; exact congrArg Bool.toNat (decide_eq_false h)
  simp [ownClaimBytes, flagByte_eq, byteOf_eq, hoccupied]

theorem claimsReply_is (s : State) : claimsReply s =
    byteList [s.claims.deferrals, s.claims.own.length] ++ s.claims.own.flatMap (fun r =>
      be16 r.segment ++ byteList [intentCode r.intent, r.urgency, r.rank, claimStateCode r.state,
        claimFrameCode r.frame] ++ optional32 r.lastSend ++ byteList [r.releasePending.toNat,
        if r.state = .holding ∧ s.currentSegment = some r.segment ∧ s.motion.state ≠ .idle then 1 else 0]) ++
      byteList [(sortView (s.claims.view.filter fun v => decide (s.station.clock < v.expiry))).length] ++
      (sortView (s.claims.view.filter fun v => decide (s.station.clock < v.expiry))).flatMap (fun v =>
        be16 v.segment ++ byteList [v.holder, intentCode v.intent, v.rank] ++ be32 v.expiry) := by
  have hown : s.claims.own.flatMap (ownClaimBytes s) = s.claims.own.flatMap _ :=
    congrArg s.claims.own.flatMap (funext (ownClaimBytes_is s))
  rw [claimsReply, hown]
  rfl

/-! ### Read Segment and Read Cells (R48) -/

theorem segmentReply_is (s : State) (r : Segment) : s.SegmentIs r (segmentReply s r) := by
  refine ⟨match r.reported with
      | none => 0 :: be16 0 ++ be32 0
      | some (t, at_) => 1 :: be16 (twos16 t) ++ be32 at_,
    match r.guest with
      | none => [0, 0] ++ optional32 none
      | some g => [byteOf (zoneCode g.zone), byteOf g.source] ++ optional32 (some g.expiry),
    match s.odo.entry, s.segs.pass with
      | some e, some p =>
        if e.segment = r.number then
          [1, byteOf e.cell] ++ be32 p.travel ++ be32 p.blade ++ be32 p.pulses ++ [byteOf p.target, byteOf p.residual]
        else List.replicate 16 0
      | _, _ => List.replicate 16 0, fun h => ?_, fun t a h => ?_, fun h => ?_, fun g h => ?_, fun h => ?_,
    fun e p he hnumber hp => ?_, ?_⟩
  · rw [h]; rfl
  · rw [h]; rfl
  · rw [h]; rfl
  · rw [h]; rfl
  · rcases h with h | h
    · cases he : s.odo.entry with
      | none => rfl
      | some e =>
        rw [he] at h
        cases s.segs.pass with
        | none => rfl
        | some p => exact if_neg fun hnumber => h (congrArg some hnumber)
    · rw [h]
      cases s.odo.entry <;> rfl
  · rw [he, hp]
    exact if_pos hnumber
  · simp only [segmentReply, flagByte_eq, byteOf_eq] <;> rfl

theorem cellBytes_is (s : State) (c : Cell) : cellBytes s c =
    byteList [c.plowed.toNat] ++ optional32 c.plowedAt ++ byteList [c.dose] ++ optional32 c.saltedAt ++
      byteList [c.shortfall.toNat, match c.saltedAt with
        | none => 0
        | some a =>
          if s.station.clock - a ≤ 60 * s.station.config.residualWindow then c.dose
          else if s.station.clock - a ≤ 120 * s.station.config.residualWindow then c.dose / 2 else 0] := by
  simp only [cellBytes, flagByte_eq, residual]
  rfl

theorem cellsReply_is (s : State) (r : Segment) (first last : Nat) : cellsReply s r first last =
    byteList [first, last] ++ ((r.cells.take (last + 1)).drop first).flatMap (cellBytes s) := by
  rw [cellsReply, List.drop_take]
  split
  · rfl
  · next h =>
    rw [show last + 1 - first = 0 by omega]
    rfl

theorem exec_readSegment_some {n : Nat} {r : Segment} {s : State} (hsel : s.host.heldSel = false)
    (hr : s.segment? n = some r) : exec (.readSegment n) s = .next (s.answered (0x00 :: segmentReply s r)) := by
  refine (whenTaken_taken s _ hsel).trans ?_
  rw [hr]
  rfl

theorem exec_readCells_some {n first last : Nat} {r : Segment} {s : State} (hsel : s.host.heldSel = false)
    (hr : s.segment? n = some r) : exec (.readCells n first last) s = .next (s.answered (0x00 ::
      cellsReply s r (min first ((r.length + 49) / 50 - 1)) (min last ((r.length + 49) / 50 - 1)))) := by
  refine (whenTaken_taken s _ hsel).trans ?_
  rw [hr]
  rfl

/-- Settles O17. -/
theorem readsChangeNothingElse : Obligations.ReadsChangeNothingElse := by
  intro s hsel
  refine ⟨fun n => ⟨rfl, be32_halves n, rfl, rfl⟩, ?_, ?_, fun n r hr => ⟨?_, fun first last => ?_⟩, fun n hn => ⟨?_, ?_⟩⟩
  · obtain ⟨g, hg, hreply⟩ := statusReply_is s
    exact ⟨g, hg, by rw [exec_readStatus hsel, hreply]⟩
  · refine ⟨_, sortView_perm _, sortView_sorted _, (whenTaken_taken s _ hsel).trans ?_⟩
    rw [claimsReply_is]
    rfl
  · exact ⟨_, segmentReply_is s r, exec_readSegment_some hsel hr⟩
  · rw [exec_readCells_some hsel hr, cellsReply_is, show cellBytes s = _ from funext (cellBytes_is s)] <;> rfl
  · refine (whenTaken_taken s _ hsel).trans ?_
    rw [show s.segment? n = none from hn]
    rfl
  · intro first last
    refine (whenTaken_taken s _ hsel).trans ?_
    rw [show s.segment? n = none from hn]
    rfl

end Sys2Proof.Machine

/-! ## The completion of a Leave (R31, R32, R49, R95, R149, R174, R180, R181; O24) -/

namespace Sys2Proof.Machine

/-! ### Counters that no end of a route changes (R12, R70, R168) -/

/-- The noise count, the sequence counter and the deferral count are the same. -/
structure SameCounts (s t : State) : Prop where
  noise : t.channel.noiseCount = s.channel.noiseCount
  seq : t.callout.seq = s.callout.seq
  deferrals : t.claims.deferrals = s.claims.deferrals

theorem SameCounts.refl (s : State) : SameCounts s s := ⟨rfl, rfl, rfl⟩

theorem SameCounts.trans {s t u : State} (h : SameCounts s t) (k : SameCounts t u) : SameCounts s u :=
  ⟨k.noise.trans h.noise, k.seq.trans h.seq, k.deferrals.trans h.deferrals⟩

theorem onMotion_sameCounts (f : Motion → Motion) (s : State) : SameCounts s (s.onMotion f) := ⟨rfl, rfl, rfl⟩

theorem onGroup_sameCounts (f : Group → Group) (s : State) : SameCounts s (s.onGroup f) := ⟨rfl, rfl, rfl⟩

theorem onSegs_sameCounts (f : Segments → Segments) (s : State) : SameCounts s (s.onSegs f) := ⟨rfl, rfl, rfl⟩

theorem post_sameCounts (e : Event) (s : State) : SameCounts s (post e s) := by
  rw [post_events]
  exact ⟨rfl, rfl, rfl⟩

theorem withdraw_sameCounts (p : Queued → Bool) (s : State) : SameCounts s (withdraw p s) := ⟨rfl, rfl, rfl⟩

theorem noteOutcome_sameCounts (s : State) : SameCounts s (noteOutcome s) := ⟨rfl, rfl, rfl⟩

/-- A record that ends in any way but DENIED leaves the deferral count (R70). -/
theorem endOwn_sameCounts (n : Nat) {change : ClaimChange} (hchange : change ≠ .denied) (stronger : Option (Nat × Nat))
    (s : State) : SameCounts s (endOwn n change stronger s) := by
  unfold endOwn
  split
  · exact .refl s
  · refine .trans (.trans ?_ (withdraw_sameCounts _ _)) (post_sameCounts _ _)
    exact ⟨rfl, rfl, if_neg hchange⟩

theorem ownAttempt_sameCounts (seq : Nat) (s : State) : SameCounts s (ownAttempt seq s) := by
  unfold ownAttempt
  split
  · exact .refl s
  · split
    · exact ⟨rfl, rfl, rfl⟩
    · rw [endCallout_eq]
      exact ⟨rfl, rfl, rfl⟩

theorem relayAttempt_sameCounts (origin seq : Nat) (s : State) : SameCounts s (relayAttempt origin seq s) := by
  unfold relayAttempt leaveRelay
  split
  · exact .refl s
  · split
    · exact ⟨rfl, rfl, rfl⟩
    · split
      · exact ⟨rfl, rfl, rfl⟩
      · exact .refl s

theorem unsent_sameCounts (p : Payload) (s : State) : SameCounts s (unsent p s) := by
  have hnoted := noteOutcome_sameCounts s
  unfold unsent
  split
  · split
    · exact hnoted.trans (endOwn_sameCounts _ (by decide) _ _)
    · exact hnoted.trans ⟨rfl, rfl, rfl⟩
  · refine hnoted.trans ?_
    unfold calloutAttempt
    split
    · exact ownAttempt_sameCounts _ _
    · exact relayAttempt_sameCounts _ _ _
  · exact hnoted

theorem queueFrame_sameCounts (b : Block) (p : Payload) (s : State) : SameCounts s (queueFrame b p s) := by
  have hentered (u : State) : SameCounts u (enterQueue b p u) := ⟨rfl, rfl, rfl⟩
  unfold queueFrame
  split
  · exact unsent_sameCounts p s
  · split
    · exact hentered s
    · split
      · exact unsent_sameCounts p s
      · split
        · exact ((withdraw_sameCounts _ s).trans (hentered _)).trans (unsent_sameCounts _ _)
        · exact unsent_sameCounts p s

theorem offerFrame_sameCounts (b : Block) (same : Payload → Bool) (p : Payload) (s : State) :
    SameCounts s (offerFrame b same p s) := by
  unfold offerFrame
  split
  · exact ⟨rfl, rfl, rfl⟩
  · exact queueFrame_sameCounts b p s

/-! ### Motion and holds -/

theorem endOccupancy_sameCounts (n : Nat) (s : State) : SameCounts s (endOccupancy n s) := by
  unfold endOccupancy
  split
  · exact .refl s
  · split
    · split
      · exact endOwn_sameCounts _ (by decide) _ s
      · exact .refl s
    · exact .refl s

theorem moveTo_sameCounts (new : MotionState) (cause : MotionCause) (faults : FaultSet) (s : State) :
    SameCounts s (moveTo new cause faults s) := by
  have hmoved (u : State) (f : Motion → Motion) (g : Group → Group) (e : Event) :
      SameCounts u (post e ((u.onMotion f).onGroup g)) :=
    ((onMotion_sameCounts f u).trans (onGroup_sameCounts g _)).trans (post_sameCounts e _)
  unfold moveTo
  split
  · exact .refl s
  · dsimp only
    split
    · exact (hmoved _ _ _ _).trans (endOccupancy_sameCounts _ _)
    · exact hmoved _ _ _ _

theorem enterMoving_sameCounts (cause : MotionCause) (s : State) : SameCounts s (enterMoving cause s) := by
  unfold enterMoving
  split
  · exact moveTo_sameCounts _ _ _ s
  · split
    · exact moveTo_sameCounts _ _ _ s
    · split
      · exact moveTo_sameCounts _ _ _ s
      · exact moveTo_sameCounts _ _ _ s

theorem applyHold_sameCounts (s : State) : SameCounts s (applyHold s) := by
  have hstopping (cause : MotionCause) (e : StopEnd) : SameCounts s (enterStopping e cause s) :=
    (onMotion_sameCounts _ s).trans (moveTo_sameCounts _ _ _ _)
  unfold applyHold
  split
  · split
    · exact moveTo_sameCounts _ _ _ s
    · exact hstopping _ _
  · split
    · exact moveTo_sameCounts _ _ _ s
    · exact hstopping _ _
  · split
    · exact moveTo_sameCounts _ _ _ s
    · exact ⟨rfl, rfl, rfl⟩
  · exact moveTo_sameCounts _ _ _ s
  · exact .refl s

theorem holdsEmptied_sameCounts (s : State) : SameCounts s (holdsEmptied s) := by
  unfold holdsEmptied
  split
  · split
    · exact moveTo_sameCounts _ _ _ s
    · split
      · exact enterMoving_sameCounts _ s
      · exact moveTo_sameCounts _ _ _ s
  · split
    · split
      · exact enterMoving_sameCounts _ s
      · exact ⟨rfl, rfl, rfl⟩
    · exact .refl s
  · exact .refl s

theorem removeHold_sameCounts (k : Nat) (why : HoldRemoval) (s : State) : SameCounts s (removeHold k why s) := by
  have hdropped : SameCounts s (dropHold k why s) := by
    unfold dropHold
    split
    · exact .refl s
    · exact (onGroup_sameCounts _ s).trans (post_sameCounts _ _)
  unfold removeHold
  split
  · dsimp only
    split
    · exact hdropped.trans (holdsEmptied_sameCounts _)
    · exact hdropped
  · exact .refl s

theorem changeHold_sameCounts (h : HoldEntry) (t : HoldType) (r : HoldReason) (expiry : Option Nat) (s : State) :
    SameCounts s (changeHold h t r expiry s) := by
  have hposted (f : Group → Group) (c : Prop) [Decidable c] (e : Event) :
      SameCounts s (if c then post e (s.onGroup f) else s.onGroup f) := by
    split
    · exact (onGroup_sameCounts f s).trans (post_sameCounts e _)
    · exact onGroup_sameCounts f s
  unfold changeHold
  dsimp only
  split
  · exact (hposted _ _ _).trans (applyHold_sameCounts _)
  · exact hposted _ _ _

theorem offerHold_sameCounts (s : State) : SameCounts s (offerHold s) := by
  unfold offerHold
  split
  · exact .refl s
  · split
    · exact (onGroup_sameCounts _ s).trans (offerFrame_sameCounts _ _ _ _)
    · exact .refl s

theorem lowerOwnHold_sameCounts (send : Bool) (s : State) : SameCounts s (lowerOwnHold send s) := by
  unfold lowerOwnHold
  split
  · split
    · exact .refl s
    · split
      · exact (changeHold_sameCounts _ _ _ _ s).trans (offerHold_sameCounts _)
      · exact .refl s
  · have hremoved : SameCounts s ((removeHold s.cfg.station .ownCleared s).onGroup fun g => { g with repeatMs := 0 }) :=
      (removeHold_sameCounts _ _ s).trans (onGroup_sameCounts _ _)
    dsimp only
    split
    · exact hremoved.trans (queueFrame_sameCounts _ _ _)
    · exact hremoved

/-! ### The end of an entry and of a route -/

theorem flush_sameCounts (n : Nat) (s : State) : SameCounts s (flush n s) := by
  unfold flush
  split
  · exact .refl s
  · dsimp only
    split
    · split <;> exact ⟨rfl, rfl, rfl⟩
    · exact (onSegs_sameCounts _ s).trans (queueFrame_sameCounts _ _ _)

theorem flushAtStride_sameCounts (n : Nat) (s : State) : SameCounts s (flushAtStride n s) := by
  unfold flushAtStride
  split
  · exact .refl s
  · split
    · exact flush_sameCounts n s
    · exact .refl s

theorem addReport_sameCounts (n cell : Nat) (work : Work) (dose : Nat) (s : State) :
    SameCounts s (addReport n cell work dose s) := by
  unfold addReport
  dsimp only
  split
  · exact (onSegs_sameCounts _ s).trans (flushAtStride_sameCounts _ _)
  · split
    · exact (onSegs_sameCounts _ s).trans (flushAtStride_sameCounts _ _)
    · exact .trans ((flush_sameCounts n s).trans (onSegs_sameCounts _ _)) (flushAtStride_sameCounts _ _)

theorem finalise_sameCounts (s : State) : SameCounts s (finalise s) := by
  unfold finalise
  split
  · dsimp only
    split
    · exact ⟨rfl, rfl, rfl⟩
    · exact .trans (.trans (onSegs_sameCounts _ s) (onSegs_sameCounts _ _)) (addReport_sameCounts _ _ _ _ _)
  · exact .refl s

theorem endEntry_sameCounts (s : State) : SameCounts s (endEntry s) := by
  have hflushed : SameCounts s (finaliseAndFlush s) := by
    unfold finaliseAndFlush
    split
    · exact .refl s
    · exact (finalise_sameCounts s).trans (flush_sameCounts _ _)
  have hended : SameCounts s (((finaliseAndFlush s).onOdo fun o => { o with entry := none }).onDosing
      fun d => { d with need := 0, pulsesNow := 0 }) := hflushed.trans ⟨rfl, rfl, rfl⟩
  unfold endEntry
  split
  · exact .refl s
  · dsimp only
    split
    · exact hended
    · exact hended.trans (endOccupancy_sameCounts _ _)

theorem endRoute_sameCounts (send : Bool) (s : State) : SameCounts s (endRoute send s) := by
  have hended (x : State) : SameCounts x (move .idle .leave ((endEntry x).onMotion fun m => { m with ceiling := 0 })) :=
    ((endEntry_sameCounts x).trans (onMotion_sameCounts _ _)).trans (moveTo_sameCounts _ _ _ _)
  have hreleased : SameCounts s (releaseGuestHold send s) := by
    unfold releaseGuestHold
    split
    · exact (onMotion_sameCounts _ s).trans ((onGroup_sameCounts _ _).trans (lowerOwnHold_sameCounts _ _))
    · exact .refl s
  unfold endRoute
  split
  · dsimp only
    split
    · exact hreleased.trans (hended _)
    · exact hended s
  · exact .refl s

theorem clearHostMark_sameCounts (send : Bool) (s : State) : SameCounts s (clearHostMark send s) := by
  unfold clearHostMark
  split
  · exact (onGroup_sameCounts _ s).trans (lowerOwnHold_sameCounts _ _)
  · exact .refl s

/-! ### OFFLINE by Leave -/

theorem reported_sameCounts (s : State) : SameCounts s s.reported := by
  have hfold {α : Type} (f : State → α → State) (h : ∀ u x, SameCounts u (f u x)) (l : List α) :
      ∀ u, SameCounts u (l.foldl f u) := by
    induction l with
    | nil => exact .refl
    | cons x r ih => exact fun u => (h u x).trans (ih _)
  have hcallout (u : State) (c : OwnCallout) : SameCounts u (abandonCallout u c) := by
    unfold abandonCallout
    rw [endCallout_eq]
    exact ⟨rfl, rfl, rfl⟩
  have hclaim (u : State) (r : OwnClaim) : SameCounts u (abandonClaim u r) := endOwn_sameCounts _ (by decide) _ u
  have hleft : SameCounts s (s.onStation Station.left) := ⟨rfl, rfl, rfl⟩
  exact ((hleft.trans (post_sameCounts _ _)).trans (hfold _ hcallout _ _)).trans (hfold _ hclaim _ _)

/-- A station that has left: OFFLINE and off the air, what goes gone and what is kept kept (R32, R49, R95, R149, R174). -/
structure GoneOffline (s t : State) : Prop where
  state : t.station.state = .offline
  air : t.OffTheAir
  pending : t.station.leavePending = false
  owned : Owned s t
  distance : t.station.distance = t.serviceDistance
  unheard : t.channel.unheardCount = 0
  counts : SameCounts s t
  callouts : t.callout.own = [] ∧ t.callout.relay = [] ∧ t.callout.recent = []
  holds : t.group.holds = [] ∧ t.group.retained = false ∧ t.group.guestMark = false ∧ t.group.hostMark = none
  seize : t.motion.seizePeriod = none
  guests : ∀ r ∈ t.segs.records, r.guest = none
  numbers : t.segs.records.map (·.number) = s.segs.records.map (·.number)

theorem numbers_of_loaded {l m : List Segment} (h : l.map Segment.loaded = m.map Segment.loaded) :
    l.map (·.number) = m.map (·.number) := by
  have := congrArg (List.map Prod.fst) h
  rw [List.map_map, List.map_map] at this
  exact this

theorem enterOffline_gone (s : State) : GoneOffline s (enterOffline s) := by
  obtain ⟨hcleared, -, -, hair⟩ := cleared_sound s.reported (by simp [Station.left])
  obtain ⟨howned, hsampled, -⟩ := reported_keepsRecords s
  have hkept := recomputeDistance_keeps s.reported.cleared
  have hcounts : SameCounts s s.reported.cleared := (reported_sameCounts s).trans ⟨rfl, rfl, rfl⟩
  rw [enterOffline_eq]
  obtain ⟨hdistance, -⟩ := recomputeDistance_settled s.reported.cleared
  exact {
    state := by simp [State.cleared, Station.left]
    air := hkept.lawful.offTheAir hair
    pending := by simp [State.cleared, Station.left]
    owned := (howned.trans hcleared.owned).trans hkept.owned
    distance := hdistance
    unheard := by simp [State.cleared, Channel.off, Channel.reset]
    counts := ⟨by simpa using hcounts.noise, by simpa using hcounts.seq, by simpa using hcounts.deferrals⟩
    callouts := by simp [State.cleared]
    holds := by simp [State.cleared]
    seize := by simp [State.cleared]
    guests := by simp [State.cleared]
    numbers := by simp [State.cleared, Function.comp_def] }

/-- What a Leave does from a state that has kept its records and counters on the way (R31, R32). -/
theorem GoneOffline.of_kept {s u t : State} (hkept : Keeps s u) (hcounts : SameCounts s u) (h : GoneOffline u t) :
    GoneOffline s t :=
  { h with
    owned := hkept.owned.trans h.owned
    counts := hcounts.trans h.counts
    numbers := h.numbers.trans (numbers_of_loaded hkept.sampled.loaded) }

/-- The answer and the end of the step change nothing of it. -/
theorem GoneOffline.ends {s t : State} (h : GoneOffline s t) : endOfStep t = settleFeed t ∧ GoneOffline s (endOfStep t) := by
  have hstep : endOfStep t = settleFeed t := endOfStep_eq_settleFeed t h.pending
  refine ⟨hstep, ?_⟩
  rw [hstep]
  have hsame : (settleFeed t).serviceDistance = t.serviceDistance := serviceDistance_congr (by simp) (by simp) (by simp)
  have hkept := settleFeed_keeps t
  exact {
    state := by simpa using h.state
    air := hkept.lawful.offTheAir h.air
    pending := by simpa using h.pending
    owned := h.owned.trans hkept.owned
    distance := by simpa [hsame] using h.distance
    unheard := by simpa using h.unheard
    counts := ⟨by simpa using h.counts.noise, by simpa using h.counts.seq, by simpa using h.counts.deferrals⟩
    callouts := by simpa using h.callouts
    holds := by simpa using h.holds
    seize := by simpa using h.seize
    guests := by simpa using h.guests
    numbers := by simpa using h.numbers }

/-! ### A Leave that is pending (R32) -/

theorem settleLeave_completes {s : State} (hactive : s.station.state = .active) (hpending : s.station.leavePending = true)
    (hgone : ∀ q ∈ s.channel.queue, q.entry ∉ s.station.leaveFrames) : settleLeave s = enterOffline s := by
  refine if_pos ⟨hpending, hactive, fun hwaits => ?_⟩
  obtain ⟨q, hq, hframe⟩ := List.any_eq_true.1 hwaits
  exact hgone q hq (by simpa using hframe)

theorem settleLeave_waits {s : State} (hwaits : ∃ q ∈ s.channel.queue, q.entry ∈ s.station.leaveFrames) :
    settleLeave s = s := by
  obtain ⟨q, hq, hframe⟩ := hwaits
  exact if_neg fun ⟨_, _, hgone⟩ => hgone (List.any_eq_true.2 ⟨q, hq, by simpa using hframe⟩)

/-- The end of a step in which nothing is left to wait for (R32; log 21). -/
theorem endOfStep_completes {s : State} (hactive : s.station.state = .active) (hpending : s.station.leavePending = true)
    (hgone : ∀ q ∈ s.channel.queue, q.entry ∉ s.station.leaveFrames) : GoneOffline s (endOfStep s) := by
  obtain ⟨hstep, hgoneOffline⟩ := (enterOffline_gone s).ends
  have hend : endOfStep s = endOfStep (enterOffline s) := by
    rw [hstep, endOfStep, settleLeave_completes hactive hpending hgone]
  rw [hend]
  exact hgoneOffline

theorem endOfStep_waits {s : State} (hwaits : ∃ q ∈ s.channel.queue, q.entry ∈ s.station.leaveFrames) :
    endOfStep s = settleFeed s := by
  rw [endOfStep, settleLeave_waits hwaits]

/-- LEAVE in LISTENING and SILENT (R31, R32). -/
theorem exec_leave_at_once {s : State} (hsel : s.host.heldSel = false)
    (hstate : s.station.state = .listening ∨ s.station.state = .silent) : exec .leave s =
    .next (endOfStep ((enterOffline (clearHostMark false (endRoute false s))).answered [0x00])) := by
  refine (whenTaken_taken s _ hsel).trans ?_
  rcases hstate with h | h
  · rw [h]
    rfl
  · rw [h]
    rfl

theorem GoneOffline.answered {s t : State} (h : GoneOffline s t) (bs : List Byte) : GoneOffline s (t.answered bs) :=
  { h with owned := ⟨h.owned.pending, h.owned.clock, h.owned.resetCause, h.owned.configValid, h.owned.config,
      h.owned.stock, h.owned.transaction⟩, counts := ⟨h.counts.noise, h.counts.seq, h.counts.deferrals⟩ }

/-- Settles O24. -/
theorem leaveCompletes : Obligations.LeaveCompletes := by
  intro s
  refine ⟨fun hactive hpending => ⟨fun hgone => ?_, fun hwaits => ?_, fun f q n horder hfly hrelease => ?_⟩, fun c hc => ?_⟩
  · have h := endOfStep_completes hactive hpending hgone
    exact ⟨h.state, h.pending, h.air⟩
  · rw [endOfStep_waits hwaits]
    simp
  · have hsent := exec_sent s
    rw [frameSent_plain hfly horder (by rw [hrelease]; rfl)] at hsent
    refine ⟨_, hsent, fun hgone => ?_, fun ⟨x, hx, hentry, hframe⟩ => ?_⟩
    · have h := endOfStep_completes (s := { s with channel := s.channel.sentOver f }) hactive hpending fun x hx => by
        obtain ⟨hx, hentry⟩ := List.mem_filter.1 (hx : x ∈ s.channel.queue.filter _)
        exact hgone x hx (by simpa using hentry)
      exact ⟨h.state, h.pending, h.air⟩
    · have hx : x ∈ s.channel.queue.filter fun x => !(x.entry == f.entry) :=
        List.mem_filter.2 ⟨hx, by simpa using hentry⟩
      rw [endOfStep_waits (s := { s with channel := s.channel.sentOver f }) ⟨x, hx, hframe⟩]
      exact ⟨by simp, by simp [Channel.sentOver]⟩
  · have hleft : ∃ t, exec c s = .next t ∧ GoneOffline s t ∧ (c = .leave → t.host.reply = some [0x00]) ∧
        (c = .leaveComplete → t.odo = s.odo ∧ t.motion = { s.motion with seizePeriod := none } ∧
          t.host.reply = s.host.reply) := by
      rcases hc with ⟨rfl, hsel, hstate⟩ | ⟨rfl, hpending⟩
      · have hkept := (endRoute_keeps false s).trans (clearHostMark_keeps false _)
        have hcounts := (endRoute_sameCounts false s).trans (clearHostMark_sameCounts false _)
        have hgone := (GoneOffline.of_kept hkept hcounts (enterOffline_gone _)).answered [0x00]
        obtain ⟨hstep, hend⟩ := hgone.ends
        refine ⟨_, exec_leave_at_once hsel hstate, hend, fun _ => ?_, nofun⟩
        rw [hstep]
        simp [State.answered]
      · obtain ⟨hstep, hend⟩ := (enterOffline_gone s).ends
        refine ⟨_, if_pos hpending, hend, nofun, fun _ => ?_⟩
        rw [hstep, enterOffline_eq]
        simp [State.cleared]
    obtain ⟨t, hexec, h, hleave, hcomplete⟩ := hleft
    obtain ⟨hown, hrelay, hrecent⟩ := h.callouts
    obtain ⟨hholds, hretained, hguest, hhost⟩ := h.holds
    exact ⟨t, hexec, h.state, h.air, h.pending, h.owned.config, h.owned.configValid, h.owned.clock, h.distance, h.unheard,
      h.counts.noise, hown, hrelay, hrecent, h.counts.seq, hholds, hretained, hguest, hhost, h.seize, h.counts.deferrals,
      h.guests, h.owned.stock, h.numbers, hleave, hcomplete⟩

end Sys2Proof.Machine

/-! ## Decode errors and speed samples (R107 to R109, R119, R129 to R132; O51) -/

namespace Sys2Proof.Machine

theorem exec_decodeError (s : State) : exec .decodeError s = execDecodeError s := rfl

/-- FAULT_STOP entered: what it sets, and the events it brings (R111, R129). -/
theorem faultStop_alone (c : FaultCause) {u : State} (h : u.motion.state ≠ .faultStop) :
    (faultStop c u).motion.state = .faultStop ∧ (faultStop c u).motion.ceiling = 0 ∧
      (faultStop c u).motion.faults = FaultSet.empty.add c ∧ ∃ es, es.length ≤ 3 ∧ Brings u es (faultStop c u) ∧
      .motion u.motion.state .faultStop (faultMotionCause c) 0 u.currentSegment (FaultSet.empty.add c) ∈ es := by
  obtain ⟨⟨hstate, hceiling, hfaults⟩, ⟨es, hes, hevent, hbrings⟩, -⟩ := faultStop_spec c u
  rw [if_neg h] at hceiling hfaults
  rw [State.faultEvent, if_neg h] at hevent
  exact ⟨hstate, hceiling, hfaults, es, hes, hbrings, hevent⟩

/-! ### Decode errors (R108) -/

/-- The odometry unit once an error has been counted (R97, R108). -/
def Odo.erred (o : Odo) : Odo := { o with lineA := !o.lineA, lineB := !o.lineB, errors := min 255 (o.errors + 1) }

/-- The block once an error has raised the odometer fault (R108). -/
def State.odometerFault (s : State) : State := { s with
  odo := { s.odo.erred with fault := true, faultFresh := true, faultWindows := 0 } }

theorem exec_decodeError_runs {s : State} (hrobot : s.isRobot = true) : exec .decodeError s =
    if s.odo.erred.errors = 8 ∧ (!s.odo.fault) = true then
      .next (endOfStep (raiseHere 4 0 (faultStop .odometer s.odometerFault)))
    else .next { s with odo := s.odo.erred } := if_pos hrobot

theorem exec_decodeError_counts {s : State} (hrobot : s.isRobot = true) (h : s.odo.errors ≠ 7 ∨ s.odo.fault = true) :
    exec .decodeError s = .next { s with odo := s.odo.erred } := by
  rw [exec_decodeError_runs hrobot]
  refine if_neg fun ⟨herrors, hfault⟩ => ?_
  have herrors : min 255 (s.odo.errors + 1) = 8 := herrors
  rcases h with h | h
  · omega
  · simp [h] at hfault

theorem exec_decodeError_faults {s : State} (hrobot : s.isRobot = true) (herrors : s.odo.errors = 7)
    (hfault : s.odo.fault = false) :
    exec .decodeError s = .next (endOfStep (raiseHere 4 0 (faultStop .odometer s.odometerFault))) := by
  rw [exec_decodeError_runs hrobot]
  exact if_pos ⟨by simp [Odo.erred, herrors], by simp [hfault]⟩

/-! ### The tests of a sample (R119, R130, R131) -/

theorem testOverspeed_faults {u : State} (hidle : u.motion.state ≠ .idle) (hfault : u.motion.state ≠ .faultStop)
    (hfast : overspeedSample u.motion.history u.odo.speed = true) (hrun : u.motion.overspeedRun = 2) :
    testOverspeed u = faultStop .overspeed u := by
  rw [testOverspeed, if_neg (by simp [hidle, hfault]), if_pos hfast, if_neg (by omega)]

theorem testOverspeed_idle {u : State} (hidle : u.motion.state = .idle) : testOverspeed u = u := if_pos (.inl hidle)

theorem testOverspeed_slow {u : State} (hidle : u.motion.state ≠ .idle) (hfault : u.motion.state ≠ .faultStop)
    (hslow : u.odo.speed < 20) : testOverspeed u = u.onMotion fun m => { m with overspeedRun := 0 } := by
  have hnot : ¬ overspeedSample u.motion.history u.odo.speed = true := by
    simp only [overspeedSample, decide_eq_true_eq]
    omega
  rw [testOverspeed, if_neg (by simp [hidle, hfault]), if_neg hnot]

theorem testStuck_faults {u : State} (hpermit : u.permit = true) (hceiling : 100 ≤ u.motion.ceiling)
    (hslow : u.odo.speed < 20) (hthreshold : u.cfg.stuckThreshold ≤ min 40 (u.motion.stuck + 1)) :
    testStuck u = raiseHere 2 u.motion.ceiling (faultStop .stuck u) := by
  rw [testStuck, if_pos ⟨hpermit, hceiling, hslow⟩, if_pos hthreshold]

theorem testStuck_lowers {u : State} (h : u.permit = false ∨ u.motion.ceiling < 100) :
    testStuck u = u.onMotion fun m => { m with stuck := lowered u.station.config.stuckDecrement m.stuck } := by
  refine if_neg fun ⟨hpermit, hceiling, _⟩ => ?_
  rcases h with h | h
  · simp [h] at hpermit
  · omega

/-- A test leaves the motion state, or FAULT_STOP follows (R130, R131). -/
theorem testOverspeed_state (u : State) : (testOverspeed u).motion.state = .faultStop ∨
    ((testOverspeed u).motion.state = u.motion.state ∧ (testOverspeed u).motion.ceiling = u.motion.ceiling) := by
  obtain ⟨⟨hstate, -⟩, -⟩ := faultStop_spec .overspeed u
  unfold testOverspeed
  split
  · exact .inr ⟨rfl, rfl⟩
  · split
    · split
      · exact .inr ⟨rfl, rfl⟩
      · exact .inl hstate
    · exact .inr ⟨rfl, rfl⟩

theorem testStuck_state (u : State) : (testStuck u).motion.state = .faultStop ∨
    ((testStuck u).motion.state = u.motion.state ∧ (testStuck u).motion.ceiling = u.motion.ceiling) := by
  obtain ⟨⟨hstate, -⟩, -⟩ := faultStop_spec .stuck u
  unfold testStuck
  split
  · split
    · exact .inl (by simpa using hstate)
    · exact .inr ⟨rfl, rfl⟩
  · exact .inr ⟨rfl, rfl⟩

/-! ### The sample (R107, R109) -/

/-- The block at the end of a window, before the tests (R107, R109, R130). -/
def State.windowOver (s : State) : State := { s with
  odo := s.odo.sampled s.decoderRuns s.station.config
  motion := { s.motion with history := pushHistory s.motion.ceiling s.motion.history } }

theorem exec_speedSample (s : State) : exec .speedSample s =
    .next (endOfStep (followSpeed (checkStopped (testStuck (testOverspeed s.windowOver))))) := rfl

theorem sampled_place (o : Odo) (runs : Bool) (cfg : Configuration) :
    (o.sampled runs cfg).entry = o.entry ∧ (o.sampled runs cfg).position = o.position := by
  simp only [Odo.sampled, Odo.faultAged]
  split
  · split
    · exact ⟨rfl, rfl⟩
    · split <;> exact ⟨rfl, rfl⟩
  · exact ⟨rfl, rfl⟩

theorem sampled_fault_clears {o : Odo} (runs : Bool) (cfg : Configuration) (hfault : o.fault = true)
    (hfresh : o.faultFresh = false) (herrors : o.errors = 0) (hwindows : 3 ≤ o.faultWindows) :
    (o.sampled runs cfg).fault = false := by
  simp only [Odo.sampled, Odo.faultAged]
  rw [if_pos hfault, if_neg (by simp [hfresh]), if_pos ⟨herrors, by omega⟩]

theorem sampled_fault_stays {o : Odo} (runs : Bool) (cfg : Configuration) (hfault : o.fault = true)
    (h : o.faultFresh = true ∨ o.errors ≠ 0 ∨ o.faultWindows < 3) : (o.sampled runs cfg).fault = true := by
  simp only [Odo.sampled, Odo.faultAged]
  rw [if_pos hfault]
  split
  · exact hfault
  · next hfresh =>
    rw [if_neg (by rcases h with h | h | h
                   · exact absurd h hfresh
                   · exact fun hclears => h hclears.1
                   · omega)]
    exact hfault

theorem windowOver_currentSegment (s : State) : s.windowOver.currentSegment = s.currentSegment := by
  obtain ⟨hentry, -⟩ := sampled_place s.odo s.decoderRuns s.station.config
  simp only [State.currentSegment, State.windowOver, hentry]

theorem windowOver_permit (s : State) : s.windowOver.permit = s.permit := by
  rw [State.permit, windowOver_currentSegment]
  rfl

/-- With no hold sent for the guest to end, a fault stop leaves the callouts (R123, R129). -/
theorem faultStop_callout {c : FaultCause} {s : State} (h : s.motion.holdSent = false ∨ s.motion.state ≠ .guestStop) :
    (faultStop c s).callout = s.callout := by
  by_cases hfault : s.motion.state = .faultStop
  · rw [faultStop_adds c s hfault]
  · have hsame : s.unheldForFault = s := by
      unfold State.unheldForFault releaseGuestHold
      split
      · next hguest =>
        refine if_neg ?_
        rcases h with h | h
        · simp [h]
        · exact absurd hguest h
      · rfl
    rw [faultStop_enters c s hfault, hsame]

/-- What ends a sample after its tests where no STOPPING ends. -/
theorem sampleEnds_drives {u : State} (h : ¬ (u.motion.state = .stopping ∧ u.motion.ceiling = 0 ∧ u.odo.speed < 20)) :
    followSpeed (checkStopped u) = followSpeed u := by rw [checkStopped_drives u h]

theorem followSpeed_events (u : State) : (followSpeed u).host = u.host := by
  unfold followSpeed
  split <;> rfl

/-- What every sample leaves and sets, whatever its tests do (R107, R130). -/
theorem sample_values (s : State) {t : State} (ht : t = followSpeed (checkStopped (testStuck (testOverspeed s.windowOver)))) :
    t.odo = s.odo.sampled s.decoderRuns s.station.config ∧ t.motion.history = s.windowOver.motion.history ∧
      t.station = s.station ∧ t.segs = s.segs ∧ t.dosing.stock = s.dosing.stock := by
  subst ht
  have hkept := (((testOverspeed_keeps s.windowOver).trans (testStuck_keeps _)).trans (checkStopped_keeps _)).trans
    (followSpeed_keeps _)
  exact ⟨by simp; rfl, hkept.sampled.scanner.1, by simp; rfl, by simp; rfl, hkept.owned.stock⟩

/-- A sample whose overspeed test is a fault stop (R129, R130). -/
theorem sample_overspeed {s : State} (hidle : s.motion.state ≠ .idle) (hfault : s.motion.state ≠ .faultStop)
    (hfast : overspeedSample s.windowOver.motion.history s.windowOver.odo.speed = true) (hrun : s.motion.overspeedRun = 2)
    {t : State} (ht : t = followSpeed (checkStopped (testStuck (testOverspeed s.windowOver)))) :
    t.motion.state = .faultStop ∧ t.motion.faults.overspeed = true ∧ t.motion.ceiling = 0 ∧
      s.FaultShown .overspeed ⟨true, false, false, false⟩ ⟨true, false, false, false⟩ t ∧
      (s.motion.holdSent = false ∨ s.motion.state ≠ .guestStop → t.callout = s.callout) := by
  obtain ⟨hstate, hceiling, hfaults, es, hes, hbrings, hevent⟩ := faultStop_alone .overspeed (u := s.windowOver) hfault
  have hstopped := testStuck_lowers (u := faultStop .overspeed s.windowOver) (.inl (permit_faultStop hstate))
  rw [testOverspeed_faults (u := s.windowOver) hidle hfault hfast hrun, hstopped, sampleEnds_drives] at ht
  · subst ht
    refine ⟨by simpa using hstate, by simp [hfaults, FaultSet.add], by simpa using hceiling, ?_, fun h => ?_⟩
    · rw [State.FaultShown, if_neg hfault, followSpeed_events, ← windowOver_currentSegment]
      show ∃ x ∈ (faultStop .overspeed s.windowOver).host.events, _
      rw [hbrings.events]
      exact mem_withEvents s.windowOver (by omega) hevent
    · simp only [followSpeed_frame]
      exact faultStop_callout (c := .overspeed) (s := s.windowOver) h
  · rintro ⟨hstopping, -⟩
    have hstopping : (faultStop .overspeed s.windowOver).motion.state = .stopping := hstopping
    rw [hstate] at hstopping
    exact absurd hstopping (by decide)

theorem permit_moving {s : State} (h : s.permit = true) :
    s.motion.state ≠ .idle ∧ s.motion.state ≠ .faultStop ∧ s.motion.state ≠ .guestStop := by
  refine ⟨fun hs => ?_, fun hs => ?_, fun hs => ?_⟩ <;> simp [State.permit, hs] at h

/-- A sample whose stuck test is a fault stop (R131). -/
theorem sample_stuck {s : State} (hpermit : s.permit = true) (hslow : s.windowOver.odo.speed < 20)
    (hceiling : 100 ≤ s.motion.ceiling) (hcounter : s.motion.stuck < 40)
    (hthreshold : s.station.config.stuckThreshold ≤ s.motion.stuck + 1)
    {t : State} (ht : t = followSpeed (checkStopped (testStuck (testOverspeed s.windowOver)))) :
    t.motion.state = .faultStop ∧ t.motion.faults.stuck = true ∧ t.motion.ceiling = 0 ∧
      s.FaultShown .stuck ⟨false, true, false, false⟩ ⟨false, true, false, false⟩ t ∧
      (s.mayRaise → s.Raises 2 s.motion.ceiling t) := by
  obtain ⟨hidle, hfault, -⟩ := permit_moving hpermit
  obtain ⟨u, hu⟩ : ∃ u, u = s.windowOver.onMotion fun m => { m with overspeedRun := 0 } := ⟨_, rfl⟩
  have hmotion : u.motion.state = s.motion.state ∧ u.motion.ceiling = s.motion.ceiling ∧ u.motion.stuck = s.motion.stuck := by
    subst hu
    exact ⟨rfl, rfl, rfl⟩
  have hsegment : u.currentSegment = s.currentSegment := by
    rw [hu]
    exact windowOver_currentSegment s
  have hsame : u.permit = s.permit := by
    rw [hu]
    exact windowOver_permit s
  have hentry : u.odo.entry = s.odo.entry := by
    rw [hu]
    exact (sampled_place ..).1
  have hrest : u.station = s.station ∧ u.channel = s.channel ∧ u.callout = s.callout ∧ u.host = s.host := by
    subst hu
    exact ⟨rfl, rfl, rfl, rfl⟩
  have hspeed : u.odo.speed < 20 := by
    subst hu
    exact hslow
  obtain ⟨hstate', hceiling', hstuck'⟩ := hmotion
  obtain ⟨hstation, hchannel, hcallout, hhost⟩ := hrest
  rw [testOverspeed_slow (u := s.windowOver) hidle hfault hslow, ← hu, testStuck_faults (hsame.trans hpermit)
    (by omega) hspeed (by rw [State.cfg, hstation]; omega)] at ht
  obtain ⟨hstate, hstopped, hfaults, es, hes, hbrings, hevent⟩ := faultStop_alone .stuck (u := u) (by rw [hstate']; exact hfault)
  obtain ⟨es', hes', hraised⟩ := raiseHere_brings 2 u.motion.ceiling (faultStop .stuck u)
  rw [sampleEnds_drives (by simp [hstate])] at ht
  subst ht
  refine ⟨by simpa using hstate, by simp [hfaults, FaultSet.add], by simpa using hstopped, ?_, fun hmay => ?_⟩
  · rw [State.FaultShown, if_neg hfault, followSpeed_events, (hbrings.trans hraised).events, ← hsegment, ← hstate']
    exact mem_withEvents u (by rw [List.length_append]; omega) (List.mem_append_left _ hevent)
  · have hmay : u.mayRaise := by
      simpa only [State.mayRaise, State.isDepot, State.cfg, hstation, hchannel, hcallout] using hmay
    have hraises := fault_raises .stuck 2 u.motion.ceiling hmay
    simp only [State.Raises, State.herePair, hcallout, hentry, hceiling'] at hraises ⊢
    simpa using hraises

/-! ### STOPPING and IDLE at a sample (R119, R131) -/

/-- A sample that ends STOPPING (R119). -/
theorem sample_stops {s : State} (hstopping : s.motion.state = .stopping) (hceiling : s.motion.ceiling = 0)
    (hslow : s.windowOver.odo.speed < 20) {t : State}
    (ht : t = followSpeed (checkStopped (testStuck (testOverspeed s.windowOver)))) :
    t.motion.ceiling = 0 ∧ t.motion.state = s.motion.stopEnd.state := by
  have hidle : s.motion.state ≠ .idle := by rw [hstopping]; decide
  have hfault : s.motion.state ≠ .faultStop := by rw [hstopping]; decide
  obtain ⟨u, hu⟩ : ∃ u, u = s.windowOver.onMotion fun m => { m with overspeedRun := 0 } := ⟨_, rfl⟩
  have hu' : u.motion.state = s.motion.state ∧ u.motion.ceiling = s.motion.ceiling ∧ u.motion.stopEnd = s.motion.stopEnd ∧
      u.odo.speed < 20 := by
    subst hu
    exact ⟨rfl, rfl, rfl, hslow⟩
  obtain ⟨hstate, hzero, hend, hspeed⟩ := hu'
  rw [testOverspeed_slow (u := s.windowOver) hidle hfault hslow, ← hu, testStuck_lowers (.inr (by omega))] at ht
  have hends := checkStopped_ends (u.onMotion fun m =>
    { m with stuck := lowered u.station.config.stuckDecrement m.stuck }) (hstate.trans hstopping) (hzero.trans hceiling) hspeed
  subst ht
  have hmotion := (followSpeed_frame (checkStopped (u.onMotion fun m =>
    { m with stuck := lowered u.station.config.stuckDecrement m.stuck }))).2.2.2.2.2.2.1
  rw [hmotion, hends]
  refine ⟨?_, by rw [← hend]; rfl⟩
  have hclamp := clampCeiling_le u.motion.stopEnd.state u.station.config.crawl u.motion.ceiling
  rw [hzero, hceiling] at hclamp
  show clampCeiling u.motion.stopEnd.state u.station.config.crawl u.motion.ceiling = 0
  rw [hzero, hceiling]
  omega

/-- A sample that ends no STOPPING leaves it, but for a fault (R119, R130, R131). -/
theorem sample_goes_on {s : State} (hstopping : s.motion.state = .stopping)
    (h : s.motion.ceiling ≠ 0 ∨ 20 ≤ s.windowOver.odo.speed) {t : State}
    (ht : t = followSpeed (checkStopped (testStuck (testOverspeed s.windowOver)))) :
    t.motion.state = .stopping ∨ t.motion.state = .faultStop := by
  have hspeed : (testStuck (testOverspeed s.windowOver)).odo.speed = s.windowOver.odo.speed := by simp
  have htested : (testStuck (testOverspeed s.windowOver)).motion.state = .faultStop ∨
      ((testStuck (testOverspeed s.windowOver)).motion.state = .stopping ∧
        (testStuck (testOverspeed s.windowOver)).motion.ceiling = s.motion.ceiling) := by
    rcases testStuck_state (testOverspeed s.windowOver) with hfault | ⟨hstate, hceiling⟩
    · exact .inl hfault
    · rcases testOverspeed_state s.windowOver with hfault | ⟨hstate', hceiling'⟩
      · exact .inl (hstate.trans hfault)
      · exact .inr ⟨hstate.trans (hstate'.trans hstopping), hceiling.trans hceiling'⟩
  rw [sampleEnds_drives] at ht
  · subst ht
    simp only [followSpeed_frame]
    exact htested.symm.imp (fun h => h.1) id
  · rintro ⟨hstop, hzero, hslow⟩
    rw [hspeed] at hslow
    rcases htested with hfault | ⟨-, hceiling⟩
    · rw [hstop] at hfault
      exact absurd hfault (by decide)
    · rw [hceiling] at hzero
      rcases h with h | h
      · exact h hzero
      · omega

theorem sample_idle {s : State} (hidle : s.motion.state = .idle) {t : State}
    (ht : t = followSpeed (checkStopped (testStuck (testOverspeed s.windowOver)))) :
    t.motion = { s.motion with
      history := s.windowOver.motion.history, stuck := lowered s.station.config.stuckDecrement s.motion.stuck } := by
  have hpermit : s.windowOver.permit = false := by
    rw [windowOver_permit]
    simp [State.permit, hidle]
  rw [testOverspeed_idle (u := s.windowOver) hidle, testStuck_lowers (.inl hpermit), sampleEnds_drives] at ht
  · subst ht
    simp only [followSpeed_frame]
    rfl
  · rintro ⟨hstop, -⟩
    have hstop : s.motion.state = .stopping := hstop
    rw [hidle] at hstop
    exact absurd hstop (by decide)

/-- Settles O51. -/
theorem samplesAndFaults : Obligations.SamplesAndFaults := by
  intro s hrobot
  refine ⟨exec_decodeError_counts hrobot, fun herrors hfault => ?_, fun v h hv hh => ?_⟩
  · obtain ⟨⟨hstate, -, hfaults⟩, ⟨es, hes, hevent, hbrings⟩, -⟩ := faultStop_spec .odometer s.odometerFault
    obtain ⟨es', hes', hraised⟩ := raiseHere_brings 4 0 (faultStop .odometer s.odometerFault)
    refine ⟨_, exec_decodeError_faults hrobot herrors hfault, ?_, by simp; rfl, by simp; rfl, by simpa using hstate, ?_,
      fun hnot => ?_, ?_, fun hmay => fault_raises (s := s.odometerFault) .odometer 4 0 hmay⟩
    · have hodo : s.odometerFault.odo = { s.odo with
          lineA := !s.odo.lineA, lineB := !s.odo.lineB, errors := 8, fault := true, faultFresh := true,
          faultWindows := 0 } := by simp [State.odometerFault, Odo.erred, herrors]
      rw [← hodo]
      simp
    · simp only [raiseHere_frame, hfaults]
      split <;> rfl
    · rw [faultStop_enters .odometer s.odometerFault hnot]
      simp [Motion.moved, clampCeiling]
    · rw [State.FaultShown, (hbrings.trans hraised).events]
      exact mem_withEvents s.odometerFault (by rw [List.length_append]; omega) (List.mem_append_left _ hevent)
  · have hspeed : s.windowOver.odo.speed = v := by
      rw [hv]
      exact if_pos hrobot
    have hhistory : s.windowOver.motion.history = h := hh.symm
    obtain ⟨hodo, hpushed, hstation, hsegs, hstock⟩ := sample_values s rfl
    obtain ⟨hentry, hposition⟩ := sampled_place s.odo s.decoderRuns s.station.config
    have hsense : s.windowOver.odo.sense = sampleSense s.odo.net s.windowOver.odo.speed := rfl
    refine ⟨_, exec_speedSample s, by rw [hodo]; exact hspeed, by rw [hodo]; rfl, by rw [hodo]; rfl, by rw [hodo]; rfl, ?_,
      by rw [hodo, hposition], by rw [hodo, hentry], hpushed.trans hhistory, hstation, hsegs, hstock,
      fun hfault hfresh herrors hwindows => by rw [hodo]; exact sampled_fault_clears _ _ hfault hfresh herrors hwindows,
      fun hfault hstays => by rw [hodo]; exact sampled_fault_stays _ _ hfault hstays, fun hidle hfault hrun hfast => ?_,
      fun hpermit hslow hceiling hcounter hthreshold => ?_, fun hstopping hceiling hslow => ?_,
      fun hstopping hgoes => ?_, fun hidle => ?_⟩
    · rw [hodo, ← hspeed]
      exact hsense
    · refine sample_overspeed hidle hfault ?_ hrun rfl
      rw [hspeed, hhistory]
      exact decide_eq_true hfast
    · exact sample_stuck hpermit (by rw [hspeed]; exact hslow) hceiling hcounter hthreshold rfl
    · obtain ⟨hzero, hstate⟩ := sample_stops hstopping hceiling (by rw [hspeed]; exact hslow) rfl
      refine ⟨hzero, hstate.trans ?_⟩
      cases s.motion.stopEnd <;> rfl
    · exact sample_goes_on hstopping (by rw [hspeed]; exact hgoes) rfl
    · rw [sample_idle hidle rfl, hhistory]
      rfl

end Sys2Proof.Machine

/-! ## Reports, flushes and finalised passes (R53 to R58, R160) -/

namespace Sys2Proof.Machine

/-! ### How many queue places a chain of operations takes (R22, R23, R58) -/

/-- The queued frames, with the one that a pending report is yet to become (R58). -/
def State.frames (s : State) : Nat := s.channel.queue.length + if s.segs.report.isSome then 1 else 0

theorem frames_le (s : State) : s.frames ≤ s.channel.queue.length + 1 := by
  unfold State.frames
  split <;> omega

/-- From `s` to `t`, with `k` places free, no frame is displaced: claims and callouts stay, and at most `k` frames come. -/
def Takes (k : Nat) (s t : State) : Prop :=
  s.frames + k ≤ 8 → t.claims = s.claims ∧ t.callout = s.callout ∧ t.frames ≤ s.frames + k

theorem Takes.trans {j k : Nat} {s t u : State} (h : Takes j s t) (h' : Takes k t u) : Takes (j + k) s u := by
  intro hroom
  obtain ⟨hclaims, hcallout, hframes⟩ := h (by omega)
  obtain ⟨hclaims', hcallout', hframes'⟩ := h' (by omega)
  exact ⟨hclaims'.trans hclaims, hcallout'.trans hcallout, by omega⟩

theorem Takes.mono {j k : Nat} {s t : State} (h : Takes j s t) (hjk : j ≤ k) : Takes k s t := by
  intro hroom
  obtain ⟨hclaims, hcallout, hframes⟩ := h (by omega)
  exact ⟨hclaims, hcallout, by omega⟩

theorem Takes.same {s t : State} (hchannel : t.channel = s.channel) (hreport : t.segs.report = s.segs.report)
    (hclaims : t.claims = s.claims) (hcallout : t.callout = s.callout) : Takes 0 s t := by
  intro _
  exact ⟨hclaims, hcallout, by rw [State.frames, State.frames, hchannel, hreport]; omega⟩

theorem Takes.refl (s : State) : Takes 0 s s := .same rfl rfl rfl rfl

theorem queueFrame_takes (b : Block) {p : Payload} (hplain : p.plain = true) (s : State) :
    Takes 1 s (queueFrame b p s) := by
  intro hroom
  have hplace : s.channel.queue.length < 8 := by
    unfold State.frames at hroom
    omega
  by_cases hon : s.station.state = .offline
  · rw [queueFrame_offline _ _ _ hon, unsent_plain _ _ hplain]
    exact ⟨rfl, rfl, Nat.le_succ _⟩
  · obtain ⟨hcallout, hclaims, hlength⟩ := queueFrame_roomy b p s ⟨hon, hplace⟩
    exact ⟨hclaims, hcallout, by simp only [State.frames, queueFrame_frame]; omega⟩

/-! ### The frame that a flush widens (R58) -/

theorem contiguous_iff (f l f' l' : Nat) : contiguous f l f' l' = true ↔ f ≤ l' + 1 ∧ f' ≤ l + 1 := by
  simp [contiguous]

theorem mergeTarget_skips {inFlight : Option Nat} {n : Nat} {o : Report} {l : List Queued}
    (h : ∀ q ∈ l, ∀ f a k d z, q.payload ≠ .progress n f a k d z) : mergeTarget inFlight n o l = none := by
  induction l with
  | nil => rfl
  | cons q l ih =>
    have hrest := ih fun x hx => h x (List.mem_cons_of_mem _ hx)
    rw [mergeTarget]
    split
    · next m f a w d z hp =>
      rw [if_neg, hrest]
      rintro ⟨rfl, -⟩
      exact h q List.mem_cons_self _ _ _ _ _ hp
    · exact hrest

/-- The frame is one that a flush of the report of segment `n` may widen (R58). -/
def Queued.widens (inFlight : Option Nat) (n : Nat) (o : Report) (q : Queued) : Prop :=
  inFlight ≠ some q.entry ∧
    ∃ f l d x, q.payload = .progress n f l (workCode o.work) d x ∧ f ≤ o.last + 1 ∧ o.first ≤ l + 1

theorem mergeTarget_widens {inFlight : Option Nat} {n : Nat} {o : Report} {q : Queued} {l : List Queued}
    (h : q.widens inFlight n o) : mergeTarget inFlight n o (q :: l) = match mergeTarget inFlight n o l with
      | some x => if x.entry < q.entry then some q else some x
      | none => some q := by
  obtain ⟨hflight, f, a, d, x, hp, hlow, hhigh⟩ := h
  rw [mergeTarget, hp]
  dsimp only
  exact if_pos ⟨rfl, rfl, (contiguous_iff ..).2 ⟨hlow, hhigh⟩, hflight⟩

theorem mergeTarget_passes {inFlight : Option Nat} {n : Nat} {o : Report} {q : Queued} {l : List Queued}
    (h : ¬ q.widens inFlight n o) : mergeTarget inFlight n o (q :: l) = mergeTarget inFlight n o l := by
  rw [mergeTarget]
  split
  · next m f a w d x hp =>
    refine if_neg ?_
    rintro ⟨rfl, rfl, hrange, hflight⟩
    obtain ⟨hlow, hhigh⟩ := (contiguous_iff ..).1 hrange
    exact h ⟨hflight, f, a, d, x, hp, hlow, hhigh⟩
  · rfl

theorem mergeTarget_mem {inFlight : Option Nat} {n : Nat} {o : Report} {x : Queued} {l : List Queued}
    (h : mergeTarget inFlight n o l = some x) : x ∈ l ∧ x.widens inFlight n o := by
  induction l with
  | nil => exact nomatch h
  | cons q l ih =>
    by_cases hq : q.widens inFlight n o
    · rw [mergeTarget_widens hq] at h
      split at h
      · next y hy =>
        split at h
        · obtain rfl := Option.some.inj h
          exact ⟨List.mem_cons_self, hq⟩
        · obtain rfl := Option.some.inj h
          obtain ⟨hmem, hx⟩ := ih hy
          exact ⟨List.mem_cons_of_mem _ hmem, hx⟩
      · obtain rfl := Option.some.inj h
        exact ⟨List.mem_cons_self, hq⟩
    · rw [mergeTarget_passes hq] at h
      obtain ⟨hmem, hx⟩ := ih h
      exact ⟨List.mem_cons_of_mem _ hmem, hx⟩

/-- The one that a flush widens is the youngest of those that it may widen (R58). -/
theorem mergeTarget_youngest {inFlight : Option Nat} {n : Nat} {o : Report} {q : Queued} {l : List Queued} (hmem : q ∈ l)
    (hq : q.widens inFlight n o) (hyoungest : ∀ y ∈ l, y.widens inFlight n o → y = q ∨ y.entry < q.entry) :
    mergeTarget inFlight n o l = some q := by
  induction l with
  | nil => exact nomatch hmem
  | cons x l ih =>
    have hrest := fun y hy => hyoungest y (List.mem_cons_of_mem _ hy)
    by_cases hx : x.widens inFlight n o
    · rw [mergeTarget_widens hx]
      by_cases heq : x = q
      · subst heq
        cases hlater : mergeTarget inFlight n o l with
        | none => rfl
        | some y =>
          obtain ⟨hy, hywidens⟩ := mergeTarget_mem hlater
          rcases hrest y hy hywidens with rfl | hlt
          · exact if_neg (lt_irrefl _)
          · exact if_pos hlt
      · have hmem : q ∈ l := (List.mem_cons.1 hmem).resolve_left (Ne.symm heq)
        rw [ih hmem hrest]
        have hlt := (hyoungest x List.mem_cons_self hx).resolve_left heq
        exact if_neg (by omega)
    · rw [mergeTarget_passes hx]
      rcases List.mem_cons.1 hmem with rfl | hmem
      · exact absurd hq hx
      · exact ih hmem hrest

/-! ### A flush (R58) -/

theorem flush_idle {n : Nat} {s : State} (h : s.segs.report = none) : flush n s = s := by
  rw [flush, h]

theorem flush_report (n : Nat) (s : State) : (flush n s).segs = { s.segs with report := none } := by
  unfold flush
  split
  · next h =>
    rw [← h]
  · dsimp only
    split
    · split
      · rw [changePayload_eq]
        rfl
      · rfl
    · simp

theorem flush_queues {n : Nat} {o : Report} {s : State} (h : s.segs.report = some o)
    (hnone : ∀ q ∈ s.channel.queue, ∀ f l k d z, q.payload ≠ .progress n f l k d z) :
    flush n s = queueFrame .segments (.progress n o.first o.last (workCode o.work) o.dose s.station.distance)
      (s.onSegs fun t => { t with report := none }) := by
  rw [flush, h]
  dsimp only
  rw [mergeTarget_skips hnone]

/-- A flush that queues its frame (R58). -/
theorem flush_reports {n : Nat} {o : Report} {s : State} (h : s.segs.report = some o) (hroom : s.hasRoom)
    (hnone : ∀ q ∈ s.channel.queue, ∀ f l k d z, q.payload ≠ .progress n f l k d z) : (flush n s).reports n o := by
  rw [flush_queues h hnone, queueFrame_room _ _ _ (show (s.onSegs _).hasRoom from hroom)]
  exact ⟨_, (insertFrame_perm _ _).mem_iff.2 List.mem_cons_self, rfl, rfl, rfl⟩

theorem mayWiden_iff (s : State) (n : Nat) (o : Report) (q : Queued) :
    s.mayWiden n o q ↔ q ∈ s.channel.queue ∧ q.widens s.channel.flightEntry n o := Iff.rfl

/-- A flush that widens a waiting frame (R58). -/
theorem flush_widens {n : Nat} {o : Report} {q : Queued} {s : State} (h : s.segs.report = some o)
    (hq : s.mayWiden n o q) (hyoungest : ∀ y, s.mayWiden n o y → y = q ∨ y.entry < q.entry) :
    flush n s = { s with segs := { s.segs with report := none }, channel := s.widened n o q } := by
  obtain ⟨hmem, hwidens⟩ := (mayWiden_iff ..).1 hq
  have htarget : mergeTarget s.channel.flightEntry n o s.channel.queue = some q :=
    mergeTarget_youngest hmem hwidens fun y hy hyw => hyoungest y ((mayWiden_iff ..).2 ⟨hy, hyw⟩)
  obtain ⟨-, f, l, d, x, hp, -, -⟩ := hwidens
  rw [flush, h]
  dsimp only
  rw [htarget]
  dsimp only
  rw [hp]
  dsimp only
  rw [changePayload_eq, State.widened, hp]
  rfl

theorem flush_takes (n : Nat) (s : State) : Takes 0 s (flush n s) := by
  cases h : s.segs.report with
  | none =>
    rw [flush_idle h]
    exact .refl s
  | some o =>
    intro hroom
    cases htarget : mergeTarget s.channel.flightEntry n o s.channel.queue with
    | none =>
      have hflush : flush n s = queueFrame .segments
          (.progress n o.first o.last (workCode o.work) o.dose s.station.distance)
          (s.onSegs fun t => { t with report := none }) := by
        rw [flush, h]
        dsimp only
        rw [htarget]
      have hfewer : (s.onSegs fun t => { t with report := none }).frames + 1 = s.frames := by
        simp [State.frames, h]
      have htaken := queueFrame_takes .segments
        (p := .progress n o.first o.last (workCode o.work) o.dose s.station.distance) rfl
        (s.onSegs fun t => { t with report := none })
      obtain ⟨hclaims, hcallout, hframes⟩ := htaken (by omega)
      rw [hflush]
      exact ⟨hclaims, hcallout, by omega⟩
    | some q =>
      obtain ⟨-, -, f, l, d, x, hp, -, -⟩ := mergeTarget_mem htarget
      have hflush : flush n s = changePayload q.entry
          (.progress n (min f o.first) (max l o.last) (workCode o.work) (min d o.dose) s.station.distance)
          (s.onSegs fun t => { t with report := none }) := by
        rw [flush, h]
        dsimp only
        rw [htarget]
        dsimp only
        rw [hp]
      rw [hflush, changePayload_eq]
      refine ⟨rfl, rfl, ?_⟩
      simp [State.frames, h]

/-! ### A worked cell joins the report (R57) -/

/-- The block with another pending report. -/
def State.reporting (s : State) (o : Report) : State := { s with segs := { s.segs with report := some o } }

theorem flushAtStride_reporting (n : Nat) (o : Report) (s : State) : flushAtStride n (s.reporting o) =
    if s.station.config.stride ≤ o.count then flush n (s.reporting o) else s.reporting o := rfl

/-- A worked cell that belongs to the pending report, or begins one (R57). -/
theorem addReport_joins {n cell : Nat} {work : Work} {dose : Nat} {s : State}
    (h : s.segs.report = none ∨ (reportWith cell work dose s.segs.report).count ≠ 1) :
    addReport n cell work dose s = flushAtStride n (s.reporting (reportWith cell work dose s.segs.report)) := by
  rw [addReport]
  cases hreport : s.segs.report with
  | none => rfl
  | some old =>
    rw [hreport] at h
    have hcount := h.resolve_left nofun
    rw [reportWith] at hcount ⊢
    by_cases hbelongs : old.work = work ∧ old.first ≤ cell + 1 ∧ cell ≤ old.last + 1
    · simp only [if_pos hbelongs]
      rfl
    · rw [if_neg hbelongs] at hcount
      exact absurd rfl hcount

/-- A worked cell that does not belong to the pending report: that one is flushed first (R57). -/
theorem addReport_begins {n cell : Nat} {work : Work} {dose : Nat} {s : State} {old : Report}
    (hreport : s.segs.report = some old) (h : ¬ (old.work = work ∧ old.first ≤ cell + 1 ∧ cell ≤ old.last + 1)) :
    addReport n cell work dose s =
      flushAtStride n ((flush n s).reporting (reportWith cell work dose s.segs.report)) := by
  rw [addReport, hreport]
  simp only [reportWith, if_neg h]
  rfl

theorem flushAtStride_takes (n : Nat) (s : State) : Takes 0 s (flushAtStride n s) := by
  unfold flushAtStride
  split
  · exact .refl s
  · split
    · exact flush_takes n s
    · exact .refl s

theorem reporting_takes (o : Report) (s : State) : Takes 1 s (s.reporting o) := by
  intro _
  refine ⟨rfl, rfl, ?_⟩
  simp only [State.frames, State.reporting, Option.isSome_some, if_true]
  omega

theorem addReport_takes (n cell : Nat) (work : Work) (dose : Nat) (s : State) : Takes 1 s (addReport n cell work dose s) := by
  cases hreport : s.segs.report with
  | none =>
    rw [addReport_joins (.inl hreport)]
    exact (reporting_takes _ s).trans (flushAtStride_takes _ _)
  | some old =>
    by_cases hbelongs : old.work = work ∧ old.first ≤ cell + 1 ∧ cell ≤ old.last + 1
    · have hadd : addReport n cell work dose s = flushAtStride n (s.reporting
          ⟨min old.first cell, max old.last cell, work, min old.dose dose, old.count + 1⟩) := by
        rw [addReport, hreport]
        simp only [if_pos hbelongs]
        rfl
      rw [hadd]
      exact (reporting_takes _ s).trans (flushAtStride_takes _ _)
    · rw [addReport_begins hreport hbelongs]
      exact ((flush_takes n s).trans (reporting_takes _ _)).trans (flushAtStride_takes _ _)

end Sys2Proof.Machine

/-! ## A finalised pass (R53 to R58, R160) -/

namespace Sys2Proof.Machine

/-! ### The cell (R54, R55, R160) -/

theorem updateCell_const (i : Nat) (c : Cell) (cells : List Cell) : updateCell i (fun _ => c) cells = cells.set i c := by
  refine List.ext_getElem (by simp [updateCell]) fun j h h' => ?_
  simp only [updateCell, List.getElem_mapIdx, List.getElem_set]
  by_cases hj : j = i
  · rw [if_pos hj, if_pos hj.symm]
  · rw [if_neg hj, if_neg (Ne.symm hj)]

theorem plowsCell_true {cfg : Configuration} {len : Nat} {x : Pass}
    (h : cellLength len x.cell * cfg.countsPerMetre / 10 * 8 ≤ x.blade * 10) : plowsCell cfg len x = true := decide_eq_true h

theorem plowsCell_false {cfg : Configuration} {len : Nat} {x : Pass}
    (h : x.blade * 10 < cellLength len x.cell * cfg.countsPerMetre / 10 * 8) : plowsCell cfg len x = false :=
  decide_eq_false (Nat.not_le.2 h)

/-- The work that the statements name is the one that the block finds (R54, R57). -/
theorem passWork_of {cfg : Configuration} {len : Nat} {x : Pass} : ∀ {w : Option Work},
    passWorkIs cfg (cellLength len x.cell) x w → passWork (plowsCell cfg len x) x.pulses = w
  | none, ⟨hblade, hpulses⟩ => by rw [plowsCell_false hblade, hpulses]; rfl
  | some .plowed, ⟨hblade, hpulses⟩ => by rw [plowsCell_true hblade, hpulses]; rfl
  | some .salted, ⟨hblade, hpulses⟩ => by rw [plowsCell_false hblade]; simp [passWork, hpulses]
  | some .both, ⟨hblade, hpulses⟩ => by rw [plowsCell_true hblade]; simp [passWork, hpulses]

theorem plowsCell_iff {cfg : Configuration} {len : Nat} {x : Pass} {w : Option Work}
    (h : passWorkIs cfg (cellLength len x.cell) x w) :
    plowsCell cfg len x = decide (w = some .plowed ∨ w = some .both) := by
  match w, h with
  | none, ⟨hblade, _⟩ => rw [plowsCell_false hblade]; rfl
  | some .plowed, ⟨hblade, _⟩ => rw [plowsCell_true hblade]; rfl
  | some .salted, ⟨hblade, _⟩ => rw [plowsCell_false hblade]; rfl
  | some .both, ⟨hblade, _⟩ => rw [plowsCell_true hblade]; rfl

/-- The cell that a finalised pass leaves, in the terms of the statements (R54, R55, R160). -/
theorem finalisedCell_eq {cfg : Configuration} {now len : Nat} {x : Pass} {w : Option Work} (c : Cell)
    (h : passWorkIs cfg (cellLength len x.cell) x w) :
    finalisedCell cfg now len x c = cellAfterPass cfg now (cellLength len x.cell) x w c := by
  have hplows := plowsCell_iff h
  by_cases hw : w = some .plowed ∨ w = some .both
  · have hplowed : plowsCell cfg len x = true := hplows.trans (decide_eq_true hw)
    by_cases hpulses : 0 < x.pulses
    · simp [finalisedCell, cellAfterPass, deliveredDose, hplowed, hpulses, hw]
      rfl
    · by_cases htarget : 0 < x.target <;>
        simp [finalisedCell, cellAfterPass, hplowed, hpulses, htarget, hw]
  · have hbare : plowsCell cfg len x = false := hplows.trans (decide_eq_false hw)
    by_cases hpulses : 0 < x.pulses
    · simp [finalisedCell, cellAfterPass, deliveredDose, hbare, hpulses, hw]
      rfl
    · by_cases htarget : 0 < x.target <;>
        simp [finalisedCell, cellAfterPass, hbare, hpulses, htarget, hw]

/-! ### The pass closed (R53) -/

/-- The cell of the segment of record `r` that the pass `x` leaves (R54, R55). -/
def State.passedCell (s : State) (r : Segment) (x : Pass) : Cell :=
  finalisedCell s.station.config s.station.clock r.length x (r.cells.getD x.cell freshCell)

/-- The block with the pass `x` closed and its result in its cell (R53 to R55). -/
def State.passClosed (s : State) (r : Segment) (x : Pass) : State := { s with
  segs := { s.segs with
    records := s.segs.records.map fun y =>
      if y.number = r.number then { y with cells := y.cells.set x.cell (s.passedCell r x) } else y
    pass := none } }

theorem finalise_eq {s : State} {r : Segment} {x : Pass} (hr : s.currentRecord = some r) (hx : s.segs.pass = some x) :
    finalise s = match passWork (plowsCell s.station.config r.length x) x.pulses with
      | none => s.passClosed r x
      | some w => addReport r.number x.cell w (if w = .plowed then 0 else (s.passedCell r x).dose) (s.passClosed r x) := by
  have hclosed : (updateSegment r.number (fun y => { y with cells := updateCell x.cell (fun _ => s.passedCell r x) y.cells })
      s).onSegs (fun t => { t with pass := none }) = s.passClosed r x := by
    simp only [updateCell_const]
    rw [updateSegment_eq]
    rfl
  rw [finalise, hx, hr]
  dsimp only
  rw [← hclosed]
  rfl

theorem finalise_idle {s : State} (h : s.segs.pass = none) : finalise s = s := by
  rw [finalise, h]

theorem finalise_unworked {s : State} {r : Segment} {x : Pass} (hr : s.currentRecord = some r) (hx : s.segs.pass = some x)
    (hwork : passWorkIs s.station.config (cellLength r.length x.cell) x none) : finalise s = s.passClosed r x := by
  rw [finalise_eq hr hx, passWork_of hwork]

theorem finalise_worked {s : State} {r : Segment} {x : Pass} {v : Work} (hr : s.currentRecord = some r)
    (hx : s.segs.pass = some x) (hwork : passWorkIs s.station.config (cellLength r.length x.cell) x (some v)) :
    finalise s = addReport r.number x.cell v (if v = .plowed then 0 else (s.passedCell r x).dose) (s.passClosed r x) := by
  rw [finalise_eq hr hx, passWork_of hwork]

theorem passedCell_eq {s : State} {r : Segment} {x : Pass} {w : Option Work} {c : Cell}
    (hwork : passWorkIs s.station.config (cellLength r.length x.cell) x w) (hc : r.cells[x.cell]? = some c) :
    s.passedCell r x = cellAfterPass s.station.config s.station.clock (cellLength r.length x.cell) x w c := by
  rw [State.passedCell, List.getD_eq_getElem?_getD, hc, Option.getD_some, finalisedCell_eq c hwork]

/-! ### Reports leave records and pass -/

/-- The segment table apart from the pending report is the same. -/
def SameRecords (s t : State) : Prop := t.segs.records = s.segs.records ∧ t.segs.pass = s.segs.pass

theorem SameRecords.trans {s t u : State} (h : SameRecords s t) (k : SameRecords t u) : SameRecords s u :=
  ⟨k.1.trans h.1, k.2.trans h.2⟩

theorem flush_sameRecords (n : Nat) (s : State) : SameRecords s (flush n s) := by
  rw [SameRecords, flush_report]
  exact ⟨rfl, rfl⟩

theorem flushAtStride_sameRecords (n : Nat) (s : State) : SameRecords s (flushAtStride n s) := by
  unfold flushAtStride
  split
  · exact ⟨rfl, rfl⟩
  · split
    · exact flush_sameRecords n s
    · exact ⟨rfl, rfl⟩

theorem addReport_sameRecords (n cell : Nat) (work : Work) (dose : Nat) (s : State) :
    SameRecords s (addReport n cell work dose s) := by
  have hreporting (u : State) (o : Report) : SameRecords u (u.reporting o) := ⟨rfl, rfl⟩
  cases hreport : s.segs.report with
  | none =>
    rw [addReport_joins (.inl hreport)]
    exact (hreporting s _).trans (flushAtStride_sameRecords _ _)
  | some old =>
    unfold addReport
    rw [hreport]
    dsimp only
    split
    · exact .trans ⟨rfl, rfl⟩ (flushAtStride_sameRecords n (s.reporting _))
    · exact ((flush_sameRecords n s).trans (hreporting _ _)).trans (flushAtStride_sameRecords n ((flush n s).reporting _))

theorem finalise_sameRecords {s : State} {r : Segment} {x : Pass} (hr : s.currentRecord = some r)
    (hx : s.segs.pass = some x) : SameRecords (s.passClosed r x) (finalise s) := by
  rw [finalise_eq hr hx]
  split
  · exact ⟨rfl, rfl⟩
  · exact addReport_sameRecords _ _ _ _ _

theorem finalise_recorded {s : State} {r : Segment} {x : Pass} (hr : s.currentRecord = some r) (hx : s.segs.pass = some x) :
    PassRecorded s (finalise s) r x := by
  rintro lc w c rfl hwork hc
  rw [← passedCell_eq hwork hc]
  exact (finalise_sameRecords hr hx).1

theorem finalise_takes (s : State) : Takes 1 s (finalise s) := by
  cases hx : s.segs.pass with
  | none =>
    rw [finalise_idle hx]
    exact (Takes.refl s).mono (by omega)
  | some x =>
    cases hr : s.currentRecord with
    | none =>
      have hsame : finalise s = s := by rw [finalise, hx, hr]
      rw [hsame]
      exact (Takes.refl s).mono (by omega)
    | some r =>
      have hclosed : Takes 0 s (s.passClosed r x) := .same rfl rfl rfl rfl
      rw [finalise_eq hr hx]
      split
      · exact hclosed.mono (by omega)
      · exact hclosed.trans (addReport_takes _ _ _ _ _)

theorem finaliseAndFlush_eq {s : State} {n : Nat} (h : s.currentSegment = some n) :
    finaliseAndFlush s = flush n (finalise s) := by
  rw [finaliseAndFlush, h]

theorem finaliseAndFlush_takes (s : State) : Takes 1 s (finaliseAndFlush s) := by
  unfold finaliseAndFlush
  split
  · exact (Takes.refl s).mono (by omega)
  · exact (finalise_takes s).trans (flush_takes _ _)

/-! ### A report after a worked cell (R57, R58) -/

/-- What a worked cell that joins the report `o` leaves: the report, or its flush at the stride. -/
theorem flushAtStride_report (n : Nat) (o : Report) (s : State) : (flushAtStride n (s.reporting o)).segs.report =
    if s.station.config.stride ≤ o.count then none else some o := by
  rw [flushAtStride_reporting]
  split
  · rw [flush_report]
  · rfl

theorem addReport_report (n cell : Nat) (work : Work) (dose : Nat) (s : State) :
    (addReport n cell work dose s).segs.report =
      if s.station.config.stride ≤ (reportWith cell work dose s.segs.report).count then none
      else some (reportWith cell work dose s.segs.report) := by
  by_cases hjoins : s.segs.report = none ∨ (reportWith cell work dose s.segs.report).count ≠ 1
  · rw [addReport_joins hjoins, flushAtStride_report]
  · obtain ⟨hsome, hcount⟩ := not_or.1 hjoins
    obtain ⟨old, hreport⟩ := Option.ne_none_iff_exists'.1 hsome
    by_cases hbelongs : old.work = work ∧ old.first ≤ cell + 1 ∧ cell ≤ old.last + 1
    · have hadd : addReport n cell work dose s =
          flushAtStride n (s.reporting (reportWith cell work dose s.segs.report)) := by
        rw [addReport, hreport]
        simp only [reportWith, if_pos hbelongs]
        rfl
      rw [hadd, flushAtStride_report]
    · rw [addReport_begins hreport hbelongs, flushAtStride_report, (flush_frame n s).2.1]

/-- The pass `x` finalised at a cell crossing (R53 to R58). -/
theorem finalise_finalised {s : State} {r : Segment} {x : Pass} (hr : s.currentRecord = some r) (hx : s.segs.pass = some x) :
    PassFinalised s (finalise s) r x := by
  refine ⟨finalise_recorded hr hx, ?_⟩
  rintro lc w c rfl hwork hc
  refine ⟨?_, ?_⟩
  · rintro rfl
    rw [finalise_unworked hr hx hwork]
    exact ⟨rfl, rfl⟩
  · rintro v o rfl ho
    have hcell := passedCell_eq hwork hc
    rw [← hcell] at ho
    have hfinalise := finalise_worked hr hx hwork
    have hbase : (s.passClosed r x).segs.report = s.segs.report := rfl
    obtain ⟨d, hd⟩ : ∃ d, d = if v = .plowed then 0 else (s.passedCell r x).dose := ⟨_, rfl⟩
    rw [← hd] at ho hfinalise
    have hjoins (h : s.segs.report = none ∨ o.count ≠ 1) (hstride : s.station.config.stride ≤ o.count) :
        finalise s = flush r.number ((s.passClosed r x).reporting o) := by
      rw [hfinalise, addReport_joins (by rw [hbase, ← ho]; exact h), hbase, ← ho, flushAtStride_reporting]
      exact if_pos hstride
    refine ⟨?_, fun hstride h hroom hnone => ?_, fun old hold hcount hpositive hshort hroom hnone => ?_,
      fun q hstride h hq hyoungest => ?_⟩
    · rw [hfinalise, addReport_report, hbase, ← ho]
      rfl
    · rw [hjoins h hstride]
      exact flush_reports (s := (s.passClosed r x).reporting o) rfl hroom hnone
    · have hnot : ¬ (old.work = v ∧ old.first ≤ x.cell + 1 ∧ x.cell ≤ old.last + 1) := by
        intro hbelongs
        rw [hold, reportWith, if_pos hbelongs] at ho
        subst ho
        have hcount : old.count + 1 = 1 := hcount
        omega
      rw [hfinalise, addReport_begins (s := s.passClosed r x) hold hnot, hbase, ← ho, flushAtStride_reporting,
        (flush_frame r.number (s.passClosed r x)).2.1, if_neg (show ¬ (s.passClosed r x).station.config.stride ≤ o.count from hshort.not_ge)]
      exact flush_reports (s := s.passClosed r x) hold hroom hnone
    · rw [hjoins h hstride, flush_widens (s := (s.passClosed r x).reporting o) rfl hq hyoungest]
      rfl

/-- The pass `x` finalised, and the report flushed, on leaving the segment or completing it (R53 to R58, R105). -/
theorem finalise_completed {s : State} {r : Segment} {x : Pass} (hr : s.currentRecord = some r) (hx : s.segs.pass = some x) :
    PassCompleted s (flush r.number (finalise s)) r x := by
  refine ⟨?_, ?_⟩
  · have hrecorded := finalise_recorded hr hx
    unfold PassRecorded at hrecorded ⊢
    rwa [(flush_sameRecords r.number (finalise s)).1]
  · rintro lc w c rfl hwork hc o ho
    have hflushed : ∃ u : State, u.station = s.station ∧ u.channel = s.channel ∧ u.segs.report = some o ∧
        flush r.number (finalise s) = flush r.number u := by
      rcases ho with ⟨rfl, hreport⟩ | ⟨v, rfl, hjoins, ho⟩
      · exact ⟨s.passClosed r x, rfl, rfl, hreport, by rw [finalise_unworked hr hx hwork]⟩
      · rw [← passedCell_eq hwork hc] at ho
        refine ⟨(s.passClosed r x).reporting o, rfl, rfl, rfl, ?_⟩
        have hadd := finalise_worked hr hx hwork
        obtain ⟨d, hd⟩ : ∃ d, d = if v = .plowed then 0 else (s.passedCell r x).dose := ⟨_, rfl⟩
        rw [← hd] at ho hadd
        rw [hadd, addReport_joins (by rw [show (s.passClosed r x).segs.report = s.segs.report from rfl, ← ho]; exact hjoins),
          show (s.passClosed r x).segs.report = s.segs.report from rfl, ← ho, flushAtStride_reporting]
        split
        · exact flush_idle (by rw [flush_report])
        · rfl
    obtain ⟨u, hstation, hchannel, hreport, heq⟩ := hflushed
    rw [heq]
    refine ⟨fun hroom hnone => ?_, fun q hq hyoungest => ?_⟩
    · refine flush_reports hreport ?_ ?_
      · rw [State.hasRoom, hstation, hchannel]
        exact hroom
      · rw [hchannel]
        exact hnone
    · rw [flush_widens hreport (by simpa only [State.mayWiden, hchannel] using hq)
        (by simpa only [State.mayWiden, hchannel] using hyoungest)]
      simp only [State.widened, hstation, hchannel]

end Sys2Proof.Machine

/-! ## Wheel counts (R52 to R58, R97 to R105, R119, R160; O50) -/

namespace Sys2Proof.Machine

/-! ### The pass that opens (R52, R153, R154) -/

/-- The pass that opens on a cell of the segment of record `r`, with the residual and the need of this moment (R153). -/
def State.passOpened (s : State) (r : Segment) (cell : Nat) : Pass :=
  ⟨cell, 0, 0, 0,
    if s.saltingConditions then
      cellNeed s.station.config s.station.clock r
        (residual s.station.config.residualWindow s.station.clock (r.cells.getD cell freshCell))
    else 0,
    residual s.station.config.residualWindow s.station.clock (r.cells.getD cell freshCell)⟩

theorem openPass_eq {s : State} {r : Segment} (cell : Nat) (hr : s.currentRecord = some r) : openPass cell s = { s with
    segs := { s.segs with pass := some (s.passOpened r cell) }
    dosing := { s.dosing with
      need := cellNeed s.station.config s.station.clock r (s.passOpened r cell).residual } } := by
  rw [openPass, hr]
  rfl

theorem openPass_idle {s : State} (cell : Nat) (hr : s.currentRecord = none) : openPass cell s = s := by
  rw [openPass, hr]

/-- Opening a pass changes neither the records nor the pending report. -/
theorem openPass_segs (cell : Nat) (s : State) :
    (openPass cell s).segs.records = s.segs.records ∧ (openPass cell s).segs.report = s.segs.report := by
  cases hr : s.currentRecord with
  | none => rw [openPass_idle cell hr]; exact ⟨rfl, rfl⟩
  | some r => rw [openPass_eq cell hr]; exact ⟨rfl, rfl⟩

theorem openPass_takes (cell : Nat) (s : State) : Takes 0 s (openPass cell s) :=
  .same (by simp) (openPass_segs cell s).2 (by simp) (by simp)

/-- A record keeps all but its cells as a pass over its segment, or over another, is finalised (R53). -/
theorem finalise_found {s : State} {n : Nat} {r : Segment} (hr : s.segs.records.find? (·.number == n) = some r) :
    ∃ cells, (finalise s).segs.records.find? (·.number == n) = some { r with cells := cells } := by
  cases hx : s.segs.pass with
  | none => rw [finalise_idle hx]; exact ⟨r.cells, hr⟩
  | some x =>
    cases hc : s.currentRecord with
    | none =>
      rw [show finalise s = s by rw [finalise, hx, hc]]
      exact ⟨r.cells, hr⟩
    | some c =>
      have hnumber (y : Segment) : (if y.number = c.number then
          { y with cells := y.cells.set x.cell (s.passedCell c x) } else y).number = y.number := by
        split <;> rfl
      have hkey : ((fun y : Segment => y.number == n) ∘ fun y : Segment => if y.number = c.number then
          { y with cells := y.cells.set x.cell (s.passedCell c x) } else y) = fun y => y.number == n :=
        funext fun y => congrArg (· == n) (hnumber y)
      rw [(finalise_sameRecords hc hx).1, State.passClosed]
      dsimp only
      rw [List.find?_map, hkey, hr, Option.map_some]
      split
      · exact ⟨_, rfl⟩
      · exact ⟨r.cells, rfl⟩

/-! ### What follows a finalised pass leaves its result -/

theorem PassFinalised.of_same {s t u : State} {r : Segment} {x : Pass} (h : PassFinalised s t r x)
    (hrecords : u.segs.records = t.segs.records) (hreport : u.segs.report = t.segs.report)
    (hchannel : u.channel = t.channel) (hstation : u.station = t.station) : PassFinalised s u r x := by
  unfold PassFinalised PassRecorded State.reports at h ⊢
  rw [hrecords, hreport, hchannel, hstation]
  exact h

theorem PassCompleted.of_same {s t u : State} {r : Segment} {x : Pass} (h : PassCompleted s t r x)
    (hrecords : u.segs.records = t.segs.records) (hchannel : u.channel = t.channel) (hstation : u.station = t.station) :
    PassCompleted s u r x := by
  unfold PassCompleted PassRecorded State.reports at h ⊢
  rw [hrecords, hchannel, hstation]
  exact h

/-! ### Charging a count (R52) -/

/-- A pass charged with one wheel count, and one blade count where BLADE is active (R52). -/
def Pass.charged (blade : Bool) (x : Pass) : Pass := { x with
  travel := min 4294967295 (x.travel + 1)
  blade := if blade then min 4294967295 (x.blade + 1) else x.blade }

theorem chargeCount_eq (blade : Bool) (s : State) :
    chargeCount blade s = { s with segs := { s.segs with pass := s.segs.pass.map (Pass.charged blade) } } := rfl

/-- A pass just opened has the one count in which its cell was entered (R52, R103). -/
theorem chargeCount_opened {s : State} {r : Segment} (blade : Bool) (cell : Nat) (hr : s.currentRecord = some r) :
    ∃ x, (chargeCount blade (openPass cell s)).segs.pass = some x ∧ x.cell = cell ∧ x.travel = 1 ∧
      x.blade = (if blade then 1 else 0) ∧ x.pulses = 0 := by
  refine ⟨(s.passOpened r cell).charged blade, ?_, rfl, rfl, ?_, rfl⟩
  · rw [openPass_eq cell hr]
    rfl
  · cases blade <;> rfl

/-! ### Another cell entered (R103) -/

/-- What crossing into another cell changes (R53, R103). -/
theorem crossCell_spec {s : State} {en : Entry} (cell : Nat) (hen : s.odo.entry = some en) :
    (crossCell en cell s).odo = { s.odo with entry := some { en with cell := cell } } ∧
    (crossCell en cell s).station = s.station ∧ (crossCell en cell s).motion = s.motion ∧
    (crossCell en cell s).group = s.group ∧ Takes 1 s (crossCell en cell s) ∧
    ∀ r blade, s.segs.records.find? (·.number == en.segment) = some r →
      (∃ x, (chargeCount blade (crossCell en cell s)).segs.pass = some x ∧ x.cell = cell ∧ x.travel = 1 ∧
        x.blade = (if blade then 1 else 0) ∧ x.pulses = 0) ∧
      (∃ r', (crossCell en cell s).segs.records.find? (·.number == en.segment) = some r') ∧
      ∀ x, s.segs.pass = some x → PassFinalised s (chargeCount blade (crossCell en cell s)) r x := by
  obtain ⟨u, hu⟩ : ∃ u, u = (finalise s).onOdo fun o => { o with entry := some { en with cell := cell } } := ⟨_, rfl⟩
  have hcross : crossCell en cell s = openPass cell u := by rw [hu]; rfl
  have hodo : u.odo = { s.odo with entry := some { en with cell := cell } } := by simp [hu]
  have htaken : Takes 1 s u := by
    rw [hu]
    exact (finalise_takes s).trans (.same rfl rfl rfl rfl)
  have hsegs : (openPass cell u).segs.records = (finalise s).segs.records ∧
      (openPass cell u).segs.report = (finalise s).segs.report := by
    rw [(openPass_segs cell u).1, (openPass_segs cell u).2, hu]
    exact ⟨rfl, rfl⟩
  rw [hcross]
  refine ⟨by simp [hodo], by simp [hu], by simp [hu], by simp [hu], htaken.trans (openPass_takes cell u),
    fun r blade hr => ?_⟩
  obtain ⟨cells, hfound⟩ := finalise_found hr
  have hcurrent : u.currentRecord = some { r with cells := cells } :=
    currentRecord_of_entry (n := en.segment) (by simp [hodo]) (by rw [hu]; exact hfound)
  refine ⟨chargeCount_opened blade cell hcurrent, ⟨_, by rw [hsegs.1]; exact hfound⟩, fun x hx => ?_⟩
  have hrecord : s.currentRecord = some r := currentRecord_of_entry (n := en.segment) (by simp [hen]) hr
  exact (finalise_finalised hrecord hx).of_same hsegs.1 hsegs.2 (by simp [chargeCount_eq, hu])
    (by simp [chargeCount_eq, hu])

/-! ### The segment completed (R105) -/

theorem enterStopping_from (e : StopEnd) (k : MotionCause) (s : State) (h : s.motion.state ≠ .stopping) :
    (enterStopping e k s).motion.stopFrom = if s.motion.state = .caution then .caution else .run := by
  obtain ⟨hmotion, -⟩ := moveTo_values .stopping k FaultSet.empty
    (s.onMotion fun m => { m with stopEnd := e, stopFrom := if m.state = .caution then .caution else .run }) h
  rw [enterStopping, move, hmotion]
  rfl

/-- What completing the segment changes (R53, R105, R119). -/
theorem completeSegment_spec (en : Entry) (cell : Nat) (s : State) :
    (completeSegment en cell s).odo = { s.odo with entry := some { en with cell := cell, done := true } } ∧
    (completeSegment en cell s).station = s.station ∧ (completeSegment en cell s).segs.report = none ∧
    Takes 1 s (completeSegment en cell s) ∧
    (∃ x ∈ (completeSegment en cell s).host.events, x.event = .segmentDone en.segment en.direction cell s.odo.position) ∧
    ((s.motion.state = .run ∨ s.motion.state = .caution) →
      (completeSegment en cell s).motion.state = .stopping ∧ (completeSegment en cell s).motion.stopEnd = .idle ∧
      (completeSegment en cell s).motion.ceiling = s.motion.ceiling ∧
      (completeSegment en cell s).motion.stopFrom = if s.motion.state = .caution then .caution else .run) ∧
    (s.motion.state ≠ .run → s.motion.state ≠ .caution → (completeSegment en cell s).motion = s.motion) ∧
    ∀ r blade, s.segs.records.find? (·.number == en.segment) = some r →
      (∃ x, (chargeCount blade (completeSegment en cell s)).segs.pass = some x ∧ x.cell = cell ∧ x.travel = 1 ∧
        x.blade = (if blade then 1 else 0) ∧ x.pulses = 0) ∧
      ∀ x, s.segs.pass = some x → PassCompleted s (chargeCount blade (completeSegment en cell s)) r x := by
  obtain ⟨v, hv⟩ : ∃ v, v = s.onOdo fun o => { o with entry := some { en with cell := cell, done := true } } := ⟨_, rfl⟩
  have hcurrent : v.currentSegment = some en.segment := by rw [hv]; rfl
  obtain ⟨u, hu⟩ : ∃ u, u = finaliseAndFlush v := ⟨_, rfl⟩
  have hflushed : u = flush en.segment (finalise v) := by rw [hu, finaliseAndFlush_eq hcurrent]
  have hodo : u.odo = { s.odo with entry := some { en with cell := cell, done := true } } := by simp [hu, hv]
  obtain ⟨w, hw⟩ : ∃ w, w = post (.segmentDone en.segment en.direction cell (openPass cell u).odo.position)
      (openPass cell u) := ⟨_, rfl⟩
  have hshown : w = { openPass cell u with host := { (openPass cell u).host with
      events := (openPass cell u).withEvents [.segmentDone en.segment en.direction cell s.odo.position] } } := by
    rw [hw, post_events]
    simp [hodo]
  have hcomplete : completeSegment en cell s =
      if w.motion.state = .run ∨ w.motion.state = .caution then enterStopping .idle .completion w else w := by
    rw [hw, hu, hv]
    rfl
  have hmotion : w.motion = s.motion := by simp [hshown, hu, hv]
  have halone : MovesAlone w (completeSegment en cell s) := by
    rw [hcomplete]
    split
    · exact enterStopping_movesAlone _ _ w
    · exact .refl w
  obtain ⟨m, retained, es, hes, hmoved⟩ := halone
  have hreport : u.segs.report = none := by rw [hflushed, flush_report]
  have hsegs := openPass_segs cell u
  have htaken : Takes 1 s u := by
    rw [hu]
    exact (Takes.trans (.same (by rw [hv]; rfl) (by rw [hv]; rfl) (by rw [hv]; rfl) (by rw [hv]; rfl))
      (finaliseAndFlush_takes v)).mono (by omega)
  have hsame : Takes 0 (openPass cell u) (completeSegment en cell s) := by
    rw [hmoved, hshown]
    exact .same rfl rfl rfl rfl
  refine ⟨by rw [hmoved, hshown]; simp [State.movedTo, hodo], by rw [hmoved, hshown]; simp [State.movedTo, hu, hv],
    by rw [hmoved, hshown]; exact hsegs.2.trans hreport, (htaken.trans (openPass_takes cell u)).trans hsame, ?_,
    fun hdrives => ?_, fun hrun hcaution => ?_, fun r blade hr => ?_⟩
  · have hevents : (completeSegment en cell s).host.events =
        (openPass cell u).withEvents ([.segmentDone en.segment en.direction cell s.odo.position] ++ es) := by
      rw [hmoved]
      exact withEvents_of_events (s := openPass cell u) (by rw [hshown]) (by rw [hshown]) es
    rw [hevents]
    exact mem_withEvents _ (by simp only [List.length_append, List.length_singleton]; omega)
      (List.mem_append_left _ (List.mem_singleton_self _))
  · have hstate : w.motion.state ≠ .stopping := by
      rw [hmotion]
      rcases hdrives with h | h <;> rw [h] <;> decide
    obtain ⟨hstopping, hend, hceiling⟩ := enterStopping_values .idle .completion w hstate
    have hfrom := enterStopping_from .idle .completion w hstate
    rw [hmotion] at hcomplete hceiling hfrom
    rw [hcomplete, if_pos hdrives]
    exact ⟨hstopping, hend, hceiling, hfrom⟩
  · rw [hcomplete, hmotion, if_neg (not_or.2 ⟨hrun, hcaution⟩), hmotion]
  · have hr' : v.segs.records.find? (·.number == en.segment) = some r := by rw [hv]; exact hr
    obtain ⟨cells, hfound⟩ := finalise_found hr'
    have hrecords : u.segs.records = (finalise v).segs.records := by
      rw [hflushed]
      exact (flush_sameRecords _ _).1
    have hopened : u.currentRecord = some { r with cells := cells } :=
      currentRecord_of_entry (n := en.segment) (by simp [hodo]) (by rw [hrecords]; exact hfound)
    have hpass : (chargeCount blade (completeSegment en cell s)).segs = (chargeCount blade (openPass cell u)).segs := by
      rw [hmoved, hshown]
      rfl
    refine ⟨by rw [hpass]; exact chargeCount_opened blade cell hopened, fun x hx => ?_⟩
    have hnumber : r.number = en.segment := by simpa using List.find?_some hr
    have hrecord : v.currentRecord = some r := currentRecord_of_entry (n := en.segment) (by rw [hv]; rfl) hr'
    have hdone := finalise_completed hrecord (show v.segs.pass = some x by rw [hv]; exact hx)
    rw [hnumber, ← hflushed] at hdone
    have hdone' : PassCompleted s u r x := by rw [hv] at hdone; exact hdone
    refine hdone'.of_same (by rw [hpass]; exact hsegs.1) ?_ ?_
    · rw [hmoved, hshown]
      simp [chargeCount_eq, State.movedTo]
    · rw [hmoved, hshown]
      simp [chargeCount_eq, State.movedTo]

/-! ### The edge (R97, R99) -/

/-- The odometry unit with the lines as an edge leaves them (R97). -/
theorem sensed_eq (e : Edge) (blade : Bool) (o : Odo) : Odo.sensed e blade o = { o with
    lineA := if e.line = .a then e.rises else e.otherHigh, lineB := if e.line = .b then e.rises else e.otherHigh,
    blade := blade } := by
  cases h : e.line <;> simp [Odo.sensed, h]

theorem exec_wheelCount (e : Edge) (blade : Bool) (s : State) : exec (.wheelCount e blade) s =
    if s.isRobot = true ∧ edgeCount s.station.config.decodeMode e ≠ 0 then
      match ((s.onOdo (Odo.sensed e blade)).onOdo (Odo.counted (edgeCount s.station.config.decodeMode e))).odo.entry with
      | none => .next ((s.onOdo (Odo.sensed e blade)).onOdo (Odo.counted (edgeCount s.station.config.decodeMode e)))
      | some en => .next (endOfStep (countOnSegment en blade
          ((s.onOdo (Odo.sensed e blade)).onOdo (Odo.counted (edgeCount s.station.config.decodeMode e)))))
    else .next (s.onOdo (Odo.sensed e blade)) := by
  show execWheelCount e blade s = _
  rfl

/-- The counter after a count, in the sense of the entry (R99). -/
theorem counted_eq (o : Odo) (n : Int) : Odo.counted n o = { o with
    net := o.net + n
    position := max (-2147483648) (min 2147483647 (o.position + countStep o.entry n)) } := rfl

theorem completes_iff (en : Entry) (p : Int) : completes en p = true ↔
    en.done = false ∧ ((en.direction = .forward ∧ (en.length : Int) ≤ p) ∨ (en.direction = .reverse ∧ p ≤ 0)) := by
  cases hd : en.direction <;> simp [completes, hd]

/-- What a count on a segment does short of completion, in the cell it was in and in another one (R52, R103). -/
theorem countOnSegment_short {s : State} {en : Entry} {cell : Nat} (blade : Bool)
    (hcell : cell = cellIndex s.station.config (accounting en.length s.odo.position))
    (hshort : completes en s.odo.position = false) : countOnSegment en blade s =
      chargeCount blade (if cell = en.cell then s else crossCell en cell s) := by
  rw [hcell, countOnSegment, hshort]
  rfl

/-- What the count that completes the segment does (R52, R103, R105). -/
theorem countOnSegment_last {s : State} {en : Entry} {cell : Nat} (blade : Bool)
    (hcell : cell = cellIndex s.station.config (accounting en.length s.odo.position))
    (hlast : completes en s.odo.position = true) : countOnSegment en blade s =
      chargeCount blade (completeSegment en cell (if cell = en.cell then s else crossCell en cell s)) := by
  rw [hcell, countOnSegment, hlast]
  rfl

/-- What is left of crossing, if there was any, as the segment is completed (R103, R105). -/
theorem crossed_spec {s : State} {en : Entry} (cell : Nat) (hen : s.odo.entry = some en) :
    ∃ x, (if cell = en.cell then s else crossCell en cell s).odo = { s.odo with entry := some x } ∧
    (if cell = en.cell then s else crossCell en cell s).station = s.station ∧
    (if cell = en.cell then s else crossCell en cell s).motion = s.motion ∧
    Takes 1 s (if cell = en.cell then s else crossCell en cell s) ∧
    ∀ r, s.segs.records.find? (·.number == en.segment) = some r →
      ∃ r', (if cell = en.cell then s else crossCell en cell s).segs.records.find? (·.number == en.segment) = some r' := by
  by_cases hsame : cell = en.cell
  · rw [if_pos hsame]
    exact ⟨en, by rw [← hen], rfl, rfl, (Takes.refl s).mono (by omega), fun r hr => ⟨r, hr⟩⟩
  · rw [if_neg hsame]
    obtain ⟨hodo, hstation, hmotion, -, htakes, hrecord⟩ := crossCell_spec cell hen
    exact ⟨_, hodo, hstation, hmotion, htakes, fun r hr => (hrecord r false hr).2.1⟩

/-- Settles O50. -/
theorem wheelCountsMoveTheRobot : Obligations.WheelCountsMoveTheRobot := by
  rintro e blade n o s rfl rfl
  have hsensed := sensed_eq e blade s.odo
  refine ⟨fun hstill => ?_, fun hrobot hcounts => ⟨fun hfree => ?_, fun en p cell hen hp hcell => ?_⟩⟩
  · rw [exec_wheelCount, if_neg (by rcases hstill with h | h <;> simp [h]), State.onOdo, hsensed]
  · rw [exec_wheelCount, if_pos ⟨hrobot, hcounts⟩]
    simp only [State.onOdo, hsensed, counted_eq, hfree, countStep]
  · have hstep : countStep s.odo.entry (edgeCount s.station.config.decodeMode e) =
        if en.direction = .forward then edgeCount s.station.config.decodeMode e
        else -edgeCount s.station.config.decodeMode e := by
      rw [hen]
      cases hd : en.direction <;> simp [countStep, hd]
    have hexec : exec (.wheelCount e blade) s = .next (endOfStep (countOnSegment en blade { s with odo := { s.odo with
        lineA := if e.line = .a then e.rises else e.otherHigh, lineB := if e.line = .b then e.rises else e.otherHigh
        blade := blade, net := s.odo.net + edgeCount s.station.config.decodeMode e, position := p } })) := by
      rw [exec_wheelCount, if_pos ⟨hrobot, hcounts⟩]
      simp only [State.onOdo, hsensed, counted_eq, hen]
      rw [hen] at hstep
      rw [hstep, ← hp]
    obtain ⟨u, hu⟩ : ∃ u : State, u = { s with odo := { s.odo with
        lineA := if e.line = .a then e.rises else e.otherHigh, lineB := if e.line = .b then e.rises else e.otherHigh
        blade := blade, net := s.odo.net + edgeCount s.station.config.decodeMode e, position := p } } := ⟨_, rfl⟩
    have huen : u.odo.entry = some en := by rw [hu]; exact hen
    have hucell : cell = cellIndex u.station.config (accounting en.length u.odo.position) := by rw [hu]; exact hcell
    have hposition : u.odo.position = p := by rw [hu]
    have hframes (hqueue : s.channel.queue.length < 4) : u.frames + 2 ≤ 8 := by
      have hle : u.frames ≤ s.channel.queue.length + 1 := by
        rw [hu]
        exact frames_le _
      omega
    rw [hexec, ← hu]
    refine ⟨fun hshort => ?_, fun hdone hlast => ?_⟩
    · have hnot : completes en u.odo.position = false := by
        rw [hposition, Bool.eq_false_iff, Ne, completes_iff]
        rintro ⟨hnotdone, hends⟩
        rcases hshort with hdone | ⟨hdir, hbefore⟩ | ⟨hdir, hbefore⟩
        · rw [hdone] at hnotdone
          cases hnotdone
        · rcases hends with ⟨-, hend⟩ | ⟨hrev, -⟩
          · omega
          · rw [hdir] at hrev
            cases hrev
        · rcases hends with ⟨hfwd, -⟩ | ⟨-, hend⟩
          · rw [hdir] at hfwd
            cases hfwd
          · omega
      rw [countOnSegment_short blade hucell hnot]
      refine ⟨fun hsame => ?_, fun hother r hr => ?_⟩
      · rw [if_pos hsame, hu]
        rfl
      · rw [if_neg hother]
        obtain ⟨hodo, hstation, hmotion, hgroup, htakes, hrecord⟩ := crossCell_spec cell huen
        obtain ⟨hopened, -, hfinalised⟩ := hrecord r blade (by rw [hu]; exact hr)
        refine ⟨_, rfl, hodo.trans (by rw [hu]), hstation.trans (by rw [hu]), hmotion.trans (by rw [hu]),
          hgroup.trans (by rw [hu]), fun hqueue => ?_, hopened, fun x hx => ?_⟩
        · have hroom := hframes hqueue
          obtain ⟨hclaims, hcallout, -⟩ := htakes (by omega)
          exact ⟨hclaims.trans (by rw [hu]), hcallout.trans (by rw [hu])⟩
        · have hpass := hfinalised x (by rw [hu]; exact hx)
          rw [hu] at hpass ⊢
          exact hpass
    · have hends : completes en u.odo.position = true := by
        rw [hposition, completes_iff]
        exact ⟨hdone, hlast⟩
      rw [countOnSegment_last blade hucell hends]
      obtain ⟨v, hv⟩ : ∃ v, v = if cell = en.cell then u else crossCell en cell u := ⟨_, rfl⟩
      obtain ⟨x, hvodo, hvstation, hvmotion, hvtakes, hvrecord⟩ := crossed_spec cell huen
      obtain ⟨hodo, hstation, hreport, htakes, hshown, hstops, hstays, hrecord⟩ := completeSegment_spec en cell v
      rw [← hv] at hvodo hvstation hvmotion hvtakes hvrecord ⊢
      have hmotion : v.motion = s.motion := hvmotion.trans (by rw [hu])
      rw [hmotion] at hstops hstays
      refine ⟨_, rfl, ?_, (hstation.trans hvstation).trans (by rw [hu]), hreport, fun r hr => ?_, fun hqueue => ?_, ?_,
        hstops, hstays⟩
      · refine hodo.trans ?_
        rw [hvodo, hu]
      · obtain ⟨r', hr'⟩ := hvrecord r (by rw [hu]; exact hr)
        refine ⟨(hrecord r' blade hr').1, fun y hsame hy => ?_⟩
        have hvu : v = u := hv.trans (if_pos hsame)
        have hpass := (hrecord r blade (by rw [hvu, hu]; exact hr)).2 y (by rw [hvu, hu]; exact hy)
        rw [hvu, hu] at hpass ⊢
        exact hpass
      · have hroom := hframes hqueue
        obtain ⟨hclaims, hcallout, -⟩ := (hvtakes.trans htakes) (by omega)
        exact ⟨hclaims.trans (by rw [hu]), hcallout.trans (by rw [hu])⟩
      · obtain ⟨y, hy, hevent⟩ := hshown
        exact ⟨y, hy, by rw [hevent, hvodo, hposition]⟩

end Sys2Proof.Machine

/-! ## Entering a segment (R51, R53 to R58, R100, R111 to R118, R127, R153, R154, R160; O49) -/

namespace Sys2Proof.Machine

/-! ### What displaced frames leave of the claims (R23, R78) -/

/-- From `s` to `t` the claim view stays, and an own record that is left has the intent and the rank it had. -/
structure KeepsClaims (s t : State) : Prop where
  view : t.claims.view = s.claims.view
  station : t.station = s.station
  own : ∀ n o, t.ownClaim? n = some o → ∃ x, s.ownClaim? n = some x ∧ o.intent = x.intent ∧ o.rank = x.rank

theorem KeepsClaims.same {s t : State} (hclaims : t.claims = s.claims) (hstation : t.station = s.station) :
    KeepsClaims s t :=
  ⟨by rw [hclaims], hstation, fun n o ho => ⟨o, by rw [State.ownClaim?, ← hclaims]; exact ho, rfl, rfl⟩⟩

theorem KeepsClaims.trans {s t u : State} (h : KeepsClaims s t) (k : KeepsClaims t u) : KeepsClaims s u := by
  refine ⟨k.view.trans h.view, k.station.trans h.station, fun n o ho => ?_⟩
  obtain ⟨x, hx, hintent, hrank⟩ := k.own n o ho
  obtain ⟨y, hy, hintent', hrank'⟩ := h.own n x hx
  exact ⟨y, hy, hintent.trans hintent', hrank.trans hrank'⟩

/-- A view entry that tells against a record that is left told against it before. -/
theorem KeepsClaims.clear {s t : State} (h : KeepsClaims s t) {n : Nat}
    (hclear : ∀ o v, s.ownClaim? n = some o → ¬ s.TellsAgainst n o.intent o.rank v) :
    ∀ o v, t.ownClaim? n = some o → ¬ t.TellsAgainst n o.intent o.rank v := by
  intro o v ho htells
  obtain ⟨x, hx, hintent, hrank⟩ := h.own n o ho
  unfold State.TellsAgainst at htells
  rw [h.view, h.station, hintent, hrank] at htells
  exact hclear x v hx htells

/-- The end of one record leaves the records of the other segments. -/
theorem endOwn_ownClaim_ne {m n : Nat} (h : m ≠ n) (change : ClaimChange) (stronger : Option (Nat × Nat)) (s : State) :
    (endOwn n change stronger s).ownClaim? m = s.ownClaim? m := by
  cases hr : s.ownClaim? n with
  | none => rw [endOwn_none hr]
  | some r =>
    rw [endOwn_eq hr]
    refine (List.find?_filter ..).trans (congrArg (fun p => List.find? p s.claims.own) (funext fun x => ?_))
    by_cases hx : x.segment = m
    · simp [hx, h]
    · simp [hx]

theorem endOwn_keepsClaims (n : Nat) (change : ClaimChange) (stronger : Option (Nat × Nat)) (s : State) :
    KeepsClaims s (endOwn n change stronger s) := by
  cases hr : s.ownClaim? n with
  | none => rw [endOwn_none hr]; exact .same rfl rfl
  | some r =>
    rw [endOwn_eq hr]
    refine ⟨rfl, rfl, fun m o ho => ⟨o, ?_, rfl, rfl⟩⟩
    have ho : (s.claims.own.filter fun x => !(x.segment == n)).find? (·.segment == m) = some o := ho
    have hsegment : o.segment ≠ n := by simpa using (List.mem_filter.1 (List.mem_of_find?_eq_some ho)).2
    have hm : o.segment = m := by simpa using List.find?_some ho
    rw [← endOwn_ownClaim_ne (hm ▸ hsegment) change stronger s, endOwn_eq hr]
    exact ho

theorem updateOwn_keepsClaims (n : Nat) (s : State) :
    KeepsClaims s (updateOwn n (fun r => { r with frame := .none }) s) := by
  refine ⟨rfl, rfl, fun m o ho => ?_⟩
  have hkey : ((fun x : OwnClaim => x.segment == m) ∘ fun x : OwnClaim =>
      if x.segment == n then { x with frame := .none } else x) = fun x => x.segment == m :=
    funext fun x => by
      simp only [Function.comp_apply]
      split <;> rfl
  have ho : (s.claims.own.map fun x => if x.segment == n then { x with frame := .none } else x).find?
    (·.segment == m) = some o := ho
  rw [List.find?_map, hkey, Option.map_eq_some_iff] at ho
  obtain ⟨x, hx, rfl⟩ := ho
  refine ⟨x, hx, ?_⟩
  split <;> exact ⟨rfl, rfl⟩

theorem unsent_keepsClaims (p : Payload) (s : State) : KeepsClaims s (unsent p s) := by
  have hnoted : KeepsClaims s (noteOutcome s) := .same rfl rfl
  unfold unsent
  split
  · split
    · exact hnoted.trans (endOwn_keepsClaims _ _ _ _)
    · exact hnoted.trans (updateOwn_keepsClaims _ _)
  · exact .same (by simp) (by simp)
  · exact hnoted

theorem queueFrame_keepsClaims (b : Block) (p : Payload) (s : State) : KeepsClaims s (queueFrame b p s) := by
  have hentered (u : State) : KeepsClaims u (enterQueue b p u) := .same rfl rfl
  have hwithdrawn (f : Queued → Bool) : KeepsClaims s (withdraw f s) := .same rfl rfl
  unfold queueFrame
  split
  · exact unsent_keepsClaims p s
  · split
    · exact hentered s
    · split
      · exact unsent_keepsClaims p s
      · split
        · exact ((hwithdrawn _).trans (hentered _)).trans (unsent_keepsClaims _ _)
        · exact unsent_keepsClaims p s

theorem flush_keepsClaims (n : Nat) (s : State) : KeepsClaims s (flush n s) := by
  unfold flush
  split
  · exact .same rfl rfl
  · dsimp only
    split
    · split
      · exact .same rfl rfl
      · exact .same rfl rfl
    · exact (KeepsClaims.same (s := s) (t := s.onSegs fun t => { t with report := none }) rfl rfl).trans
        (queueFrame_keepsClaims _ _ _)

theorem flushAtStride_keepsClaims (n : Nat) (s : State) : KeepsClaims s (flushAtStride n s) := by
  unfold flushAtStride
  split
  · exact .same rfl rfl
  · split
    · exact flush_keepsClaims n s
    · exact .same rfl rfl

theorem addReport_keepsClaims (n cell : Nat) (work : Work) (dose : Nat) (s : State) :
    KeepsClaims s (addReport n cell work dose s) := by
  have hreporting (u : State) (o : Report) : KeepsClaims u (u.reporting o) := .same rfl rfl
  cases hreport : s.segs.report with
  | none =>
    rw [addReport_joins (.inl hreport)]
    exact (hreporting s _).trans (flushAtStride_keepsClaims _ _)
  | some old =>
    by_cases hbelongs : old.work = work ∧ old.first ≤ cell + 1 ∧ cell ≤ old.last + 1
    · unfold addReport
      rw [hreport]
      dsimp only
      rw [if_pos hbelongs]
      exact (hreporting s _).trans (flushAtStride_keepsClaims n _)
    · rw [addReport_begins hreport hbelongs]
      exact ((flush_keepsClaims n s).trans (hreporting _ _)).trans (flushAtStride_keepsClaims _ _)

theorem finalise_keepsClaims (s : State) : KeepsClaims s (finalise s) := by
  cases hx : s.segs.pass with
  | none => rw [finalise_idle hx]; exact .same rfl rfl
  | some x =>
    cases hr : s.currentRecord with
    | none =>
      rw [show finalise s = s by rw [finalise, hx, hr]]
      exact .same rfl rfl
    | some r =>
      have hclosed : KeepsClaims s (s.passClosed r x) := .same rfl rfl
      rw [finalise_eq hr hx]
      split
      · exact hclosed
      · exact hclosed.trans (addReport_keepsClaims _ _ _ _ _)

theorem finaliseAndFlush_keepsClaims (s : State) : KeepsClaims s (finaliseAndFlush s) := by
  unfold finaliseAndFlush
  split
  · exact .same rfl rfl
  · exact (finalise_keepsClaims s).trans (flush_keepsClaims _ _)

/-! ### The claim on the segment left (R73, R91) -/

theorem endOccupancy_ownClaim_ne {m n : Nat} (h : m ≠ n) (s : State) :
    (endOccupancy n s).ownClaim? m = s.ownClaim? m := by
  unfold endOccupancy
  split
  · rfl
  · split
    · split
      · exact endOwn_ownClaim_ne h _ _ s
      · rfl
    · rfl

theorem endOccupancy_clear {n : Nat} {s : State}
    (hclear : ∀ o v, s.ownClaim? n = some o → ¬ s.TellsAgainst n o.intent o.rank v) : endOccupancy n s = s := by
  unfold endOccupancy
  split
  · rfl
  · next o ho =>
    rw [strongerView_none (hclear o · ho)]
    split <;> rfl

/-- The claim on the segment that becomes current is not looked at (R73). -/
theorem leaveSegment_ownClaim (old : Option Nat) (new : Nat) (s : State) :
    (leaveSegment old new s).ownClaim? new = s.ownClaim? new := by
  cases old with
  | none => rfl
  | some n =>
    unfold leaveSegment
    dsimp only
    split
    · rfl
    · next h => exact endOccupancy_ownClaim_ne (fun heq => h (.inl heq.symm)) s

theorem leaveSegment_clear {n : Nat} (new : Nat) {s : State}
    (hclear : ∀ o v, s.ownClaim? n = some o → ¬ s.TellsAgainst n o.intent o.rank v) :
    leaveSegment (some n) new s = s := by
  unfold leaveSegment
  dsimp only
  rw [endOccupancy_clear hclear, ite_self]

/-! ### Driving on (R117, R118, R127) -/

/-- The block after caution has been evaluated for an entry, STOPPING with end IDLE driving on (R118). -/
def State.drivenOn (s : State) : State :=
  if (evalCaution s).motion.state = .stopping ∧ (evalCaution s).motion.stopEnd = .idle then
    enterMoving .enter (evalCaution s) else evalCaution s

theorem drivenOn_standing {s : State} (h : s.motion.state = .idle ∨ s.motion.state = .retained ∨
    (s.motion.state = .stopping ∧ s.motion.stopEnd = .groupHold)) : s.drivenOn = s := by
  have heval : evalCaution s = s := evalCaution_standing s (by rcases h with h | h | h <;> simp [h])
    (by rcases h with h | h | h <;> simp [h])
  rw [State.drivenOn, heval, if_neg]
  rcases h with h | h | h <;> simp [h]

theorem drivenOn_driving {s : State} (h : s.motion.state = .run ∨ s.motion.state = .caution) :
    s.drivenOn = evalCaution s := by
  obtain ⟨hstate, -, -⟩ := evalCaution_driving s h rfl
  refine if_neg fun hstopping => ?_
  rw [hstate] at hstopping
  split at hstopping <;> exact absurd hstopping.1 (by decide)

theorem movingState_ne_stopping (s : State) : s.movingState ≠ .stopping := by
  unfold State.movingState
  repeat' split
  all_goals decide

theorem drivenOn_stopping {s : State} (hstate : s.motion.state = .stopping) (hend : s.motion.stopEnd = .idle) :
    s.drivenOn = moveTo s.movingState (s.movingCause .enter) FaultSet.empty s := by
  have heval : evalCaution s = s := evalCaution_standing s (by rw [hstate]; decide) (by rw [hstate]; decide)
  rw [State.drivenOn, heval, if_pos ⟨hstate, hend⟩, enterMoving_eq]
  rfl

/-- Driving on is at most one change of the motion state, to one other than IDLE. -/
theorem drivenOn_moves (s : State) : s.drivenOn = s ∨ ∃ new cause, new ≠ .idle ∧ s.motion.state ≠ new ∧
    s.drivenOn = moveTo new cause FaultSet.empty s := by
  by_cases hdrives : s.motion.state = .run ∨ s.motion.state = .caution
  · rw [drivenOn_driving hdrives]
    exact evalCaution_moves s
  · obtain ⟨hrun, hcaution⟩ := not_or.1 hdrives
    by_cases hends : s.motion.state = .stopping ∧ s.motion.stopEnd = .idle
    · exact .inr ⟨_, _, movingState_ne_idle s, by rw [hends.1]; exact (movingState_ne_stopping s).symm,
        drivenOn_stopping hends.1 hends.2⟩
    · have heval := evalCaution_standing s hrun hcaution
      exact .inl (by rw [State.drivenOn, heval, if_neg hends])

/-- What driving on leaves as it was. -/
theorem drivenOn_spec (s : State) : s.drivenOn = { s with
      motion := s.drivenOn.motion, group := s.drivenOn.group, host := { s.host with events := s.drivenOn.host.events } } ∧
    s.drivenOn.group.holds = s.group.holds ∧ s.drivenOn.cautionCause = s.cautionCause ∧
    s.drivenOn.motion.ceiling ≤ s.motion.ceiling := by
  obtain h | ⟨new, cause, hnew, hstate, h⟩ := drivenOn_moves s
  · rw [h]
    exact ⟨rfl, rfl, rfl, le_rfl⟩
  · rw [h, moveTo_eq _ _ _ hstate hnew]
    exact ⟨rfl, rfl, cautionCause_congr rfl rfl rfl rfl, clampCeiling_le _ _ _⟩

/-- The ceiling of a robot that drives on from STOPPING (R114). -/
theorem clampCeiling_movingState (s : State) (crawl c : Nat) : clampCeiling s.movingState crawl c =
    if s.motion.latch ∨ s.group.holds ≠ [] then 0 else if s.cautionCause then min c crawl else c := by
  unfold State.movingState
  by_cases hlatch : s.motion.latch = true
  · rw [if_pos hlatch, if_pos (.inl hlatch)]
    rfl
  · by_cases hholds : s.group.holds ≠ []
    · rw [if_neg hlatch, if_pos hholds, if_pos (.inr hholds)]
      rfl
    · rw [if_neg hlatch, if_neg hholds, if_neg (not_or.2 ⟨hlatch, hholds⟩)]
      split <;> rfl

/-! ### The entry (R100, R118) -/

/-- The block with the entry made and the claim on the segment left looked at, before its pass opens (R73, R100, R118). -/
def State.entryMade (s : State) (r : Segment) (d : Direction) : State :=
  leaveSegment s.currentSegment r.number ((finaliseAndFlush s).onOdo (Odo.entered s.cfg r d))

/-- The block with the pass open and the ceiling held to the new speed limit, before it drives on (R114, R118). -/
def State.entryClamped (s : State) (r : Segment) (cell : Nat) : State :=
  (openPass cell s).onMotion fun m => { m with ceiling := min m.ceiling r.speedLimit }

/-- The counter at the start or at the end of the segment, and the new entry (R100). -/
theorem entered_eq {cfg : Configuration} {r : Segment} {code len cell : Nat} {d : Direction}
    (hd : d = if code = 0 then .forward else .reverse) (hlen : len = r.length * cfg.countsPerMetre / 10)
    (hcell : cell = if code = 0 then 0 else (len - 1) / (5 * cfg.countsPerMetre)) (o : Odo) :
    Odo.entered cfg r d o = { o with
      position := if code = 0 then 0 else (len : Int), entry := some ⟨r.number, d, len, cell, false⟩ } := by
  subst hd hlen hcell
  by_cases hcode : code = 0
  · simp [hcode, Odo.entered, cellIndex, accounting, inCounts]
  · have hpositive : ¬ ((r.length * cfg.countsPerMetre / 10 : Nat) : Int) < 0 := by omega
    have haccounting : accounting (r.length * cfg.countsPerMetre / 10) (r.length * cfg.countsPerMetre / 10 : Nat) =
        r.length * cfg.countsPerMetre / 10 - 1 := by
      rw [accounting, if_neg hpositive]
      omega
    simp only [hcode, if_false, Odo.entered, inCounts, cellIndex, haccounting]

theorem enterSegment_eq {r : Segment} {code len cell : Nat} {d : Direction} {s : State}
    (hd : d = if code = 0 then .forward else .reverse) (hlen : len = r.length * s.station.config.countsPerMetre / 10)
    (hcell : cell = if code = 0 then 0 else (len - 1) / (5 * s.station.config.countsPerMetre)) :
    enterSegment r d s = ((s.entryMade r d).entryClamped r cell).drivenOn := by
  have hentry : (((finaliseAndFlush s).onOdo (Odo.entered s.cfg r d)).odo.entry.map (·.cell)).getD 0 = cell := by
    rw [State.onOdo, State.cfg, entered_eq hd hlen hcell]
    rfl
  rw [← hentry]
  rfl

/-- What an entry leaves before its pass opens (R100, R118). -/
theorem entryMade_spec (s : State) (r : Segment) (d : Direction) :
    (s.entryMade r d).station = s.station ∧ (s.entryMade r d).motion = s.motion ∧ (s.entryMade r d).group = s.group ∧
    (s.entryMade r d).dosing = s.dosing ∧ (s.entryMade r d).odo = Odo.entered s.station.config r d s.odo ∧
    (s.entryMade r d).segs = (finaliseAndFlush s).segs ∧
    (s.entryMade r d).ownClaim? r.number = (finaliseAndFlush s).ownClaim? r.number ∧
    ∀ n, s.currentSegment = some n →
      (∀ o v, s.ownClaim? n = some o → ¬ s.TellsAgainst n o.intent o.rank v) →
      (s.entryMade r d).channel = (finaliseAndFlush s).channel := by
  have hown := leaveSegment_ownClaim s.currentSegment r.number ((finaliseAndFlush s).onOdo (Odo.entered s.cfg r d))
  refine ⟨by simp [State.entryMade], by simp [State.entryMade], by simp [State.entryMade], by simp [State.entryMade],
    by simp [State.entryMade, State.cfg], by simp [State.entryMade], hown, fun n hn hclear => ?_⟩
  have hcleared : ∀ o v, ((finaliseAndFlush s).onOdo (Odo.entered s.cfg r d)).ownClaim? n = some o →
      ¬ ((finaliseAndFlush s).onOdo (Odo.entered s.cfg r d)).TellsAgainst n o.intent o.rank v :=
    (finaliseAndFlush_keepsClaims s).clear hclear
  rw [State.entryMade, hn, leaveSegment_clear r.number hcleared]
  rfl

/-- The pass that was open on the segment left (R53 to R58). -/
theorem entryMade_passed {s : State} {r ro : Segment} {d : Direction} {en : Entry} {x : Pass} {t : State}
    (hen : s.odo.entry = some en) (hro : s.segs.records.find? (·.number == en.segment) = some ro)
    (hx : s.segs.pass = some x) (hstation : t.station = s.station)
    (hrecords : t.segs.records = (s.entryMade r d).segs.records) (hchannel : t.channel = (s.entryMade r d).channel) :
    PassRecorded s t ro x ∧
      ((∀ o v, s.ownClaim? en.segment = some o → ¬ s.TellsAgainst en.segment o.intent o.rank v) →
        PassCompleted s t ro x) := by
  obtain ⟨-, -, -, -, -, hsegs, -, hclear⟩ := entryMade_spec s r d
  have hcurrent : s.currentSegment = some en.segment := by simp [State.currentSegment, hen]
  have hnumber : ro.number = en.segment := by simpa using List.find?_some hro
  have hrecord : s.currentRecord = some ro := currentRecord_of_entry (n := en.segment) (by simp [hen]) hro
  have hdone := finalise_completed hrecord hx
  rw [hnumber, ← finaliseAndFlush_eq hcurrent] at hdone
  rw [hsegs] at hrecords
  refine ⟨?_, fun hnone => hdone.of_same hrecords (hchannel.trans (hclear _ hcurrent hnone)) (by simp [hstation])⟩
  have hrecorded := hdone.1
  unfold PassRecorded at hrecorded ⊢
  rwa [hrecords]

end Sys2Proof.Machine

/-! ## ENTER_SEGMENT in all (R118, R150, R153, R154; O49) -/

namespace Sys2Proof.Machine

/-! ### The pass on the start cell (R150, R153, R154) -/

theorem finaliseAndFlush_found {s : State} {n : Nat} {r : Segment} (hr : s.segs.records.find? (·.number == n) = some r) :
    ∃ cells, (finaliseAndFlush s).segs.records.find? (·.number == n) = some { r with cells := cells } := by
  unfold finaliseAndFlush
  split
  · exact ⟨r.cells, hr⟩
  · rw [(flush_sameRecords _ _).1]
    exact finalise_found hr

/-- The salting conditions, with a HOLDING claim on the current segment (R150). -/
theorem saltingConditions_held_iff {s : State} {r : Segment} {o : OwnClaim} (hrobot : s.isRobot = true)
    (hr : s.currentRecord = some r) (ho : s.ownClaim? r.number = some o) (hholding : o.state = .holding) :
    s.saltingConditions = true ↔ r.saltPermitted = true ∧ s.motion.warning = false ∧
      s.station.config.feedCal ≤ s.dosing.stock ∧ o.intent ≠ .transit := by
  show _ ↔ r.saltPermitted = true ∧ s.motion.warning = false ∧ s.cfg.feedCal ≤ s.dosing.stock ∧ o.intent ≠ .transit
  simp only [State.saltingConditions, hrobot, hr, ho, hholding, Bool.and_eq_true, Bool.not_eq_true',
    decide_eq_true_eq, beq_self_eq_true, beq_eq_false_iff_ne, true_and, Ne]
  tauto

/-- The pass that an entry opens on the start cell, and the need of that moment (R153, R154). -/
theorem entryMade_opens {s : State} {n code len cell : Nat} {r : Segment} {d : Direction} (hrobot : s.isRobot = true)
    (hr : s.segs.records.find? (·.number == n) = some r) (hheld : s.holds n = true)
    (hd : d = if code = 0 then .forward else .reverse) (hlen : len = r.length * s.station.config.countsPerMetre / 10)
    (hcell : cell = if code = 0 then 0 else (len - 1) / (5 * s.station.config.countsPerMetre)) :
    ∃ r' p, (openPass cell (s.entryMade r d)).segs.records.find? (·.number == n) = some r' ∧
      (openPass cell (s.entryMade r d)).segs.pass = some p ∧ p.cell = cell ∧ p.travel = 0 ∧ p.blade = 0 ∧
      p.pulses = 0 ∧ p.residual = residual s.station.config.residualWindow s.station.clock
        (r'.cells.getD cell ⟨false, none, 0, none, false⟩) ∧
      (openPass cell (s.entryMade r d)).dosing.need = s.station.config.doses.getD
        (surfaceCode r.surface * 6 + tempBand (surfaceTemp s.station.clock r)) 0 - p.residual ∧
      (p.target = (openPass cell (s.entryMade r d)).dosing.need ∨ p.target = 0) ∧
      ∀ o, s.channel.queue.length < 7 → s.claims.own.find? (·.segment == n) = some o →
        p.target = if r.saltPermitted = true ∧ s.motion.warning = false ∧
            s.station.config.feedCal ≤ s.dosing.stock ∧ o.intent ≠ .transit
          then (openPass cell (s.entryMade r d)).dosing.need else 0 := by
  have hnumber : r.number = n := by simpa using List.find?_some hr
  obtain ⟨hstation, hmotion, -, hdosing, hodo, hsegs, hown, -⟩ := entryMade_spec s r d
  obtain ⟨cells, hfound⟩ := finaliseAndFlush_found hr
  rw [← hsegs] at hfound
  have hcurrent : (s.entryMade r d).currentRecord = some { r with cells := cells } := by
    refine currentRecord_of_entry (n := n) ?_ hfound
    rw [hodo, entered_eq hd hlen hcell]
    exact congrArg some hnumber
  obtain ⟨u, hu⟩ : ∃ u, u = s.entryMade r d := ⟨_, rfl⟩
  rw [← hu] at hstation hmotion hdosing hown hfound hcurrent ⊢
  have hopened := openPass_eq cell hcurrent
  have hneed : (u.passOpened { r with cells := cells } cell).target =
      if u.saltingConditions then (openPass cell u).dosing.need else 0 := by
    rw [hopened]
    rfl
  refine ⟨{ r with cells := cells }, u.passOpened { r with cells := cells } cell, by rw [hopened]; exact hfound,
    by rw [hopened], rfl, rfl, rfl, rfl, by rw [← hstation]; rfl, ?_, ?_, fun o hqueue ho => ?_⟩
  · rw [hopened, ← hstation]
    rfl
  · rw [hneed]
    split
    · exact .inl rfl
    · exact .inr rfl
  · have hroom : s.frames + 1 ≤ 8 := by
      have hle := frames_le s
      omega
    obtain ⟨hclaims, -, -⟩ := finaliseAndFlush_takes s hroom
    have huo : u.ownClaim? r.number = some o := by
      rw [hown, State.ownClaim?, hclaims, hnumber]
      exact ho
    have hholding : o.state = .holding := by
      obtain ⟨x, hx, hstate⟩ := (holds_iff s n).1 hheld
      rw [ho] at hx
      rwa [Option.some.inj hx]
    have hurobot : u.isRobot = true := by
      rw [← hrobot]
      simp only [State.isRobot, State.cfg, hstation]
    have hiff := saltingConditions_held_iff hurobot hcurrent huo hholding
    rw [hmotion, hdosing, hstation] at hiff
    rw [hneed]
    simp only [hiff]

/-! ### The requests refused, in their order (R118) -/

/-- ENTER_SEGMENT as it is taken of a ROBOT in ACTIVE without a pending Leave (R118). -/
theorem exec_enterSegment {s : State} (n code : Nat) (hdrive : s.mayDrive = true) (hsel : s.host.heldSel = false) :
    exec (.enterSegment n code) s = match within 1 4000 n, directionOf code with
      | true, some d =>
        match s.segment? n with
        | none => .next (s.answered [0x05])
        | some r =>
          if !s.holds n then .next (s.answered [0x06])
          else if !s.allowsEntry then .next (s.answered [0x01])
          else .next (endOfStep (ok [] (enterSegment r d s)))
      | _, _ => .next (s.answered [0x02]) := by
  show execEnterSegment n code s = _
  rw [execEnterSegment, whenTaken_taken _ _ hsel, if_neg (by simp [hdrive])]
  rfl

theorem directionOf_eq {code : Nat} (h : code ≤ 1) :
    directionOf code = some (if code = 0 then .forward else .reverse) := by
  rcases code with _ | _ | code
  · rfl
  · rfl
  · omega

theorem directionOf_none {code : Nat} (h : 1 < code) : directionOf code = none := by
  rcases code with _ | _ | code
  · omega
  · omega
  · rfl

theorem allowsEntry_iff (s : State) : s.allowsEntry = true ↔ s.motion.state = .idle ∨ s.motion.state = .retained ∨
    ((s.motion.state = .run ∨ s.motion.state = .caution ∨ s.motion.state = .stopping) ∧
      s.odo.entry.map (·.done) = some true) := by
  unfold State.allowsEntry
  cases s.motion.state <;> cases s.odo.entry <;> simp

theorem exec_enterSegment_outOfRange {s : State} {n code : Nat} (hdrive : s.mayDrive = true)
    (hsel : s.host.heldSel = false) (h : n = 0 ∨ 4000 < n ∨ 1 < code) :
    exec (.enterSegment n code) s = .next (s.answered [0x02]) := by
  rw [exec_enterSegment n code hdrive hsel]
  have hbad : within 1 4000 n = false ∨ directionOf code = none := by
    rcases h with h | h | h
    · exact .inl ((within_false_iff ..).2 (by omega))
    · exact .inl ((within_false_iff ..).2 (by omega))
    · exact .inr (directionOf_none h)
  rcases hbad with h | h <;> rw [h]
  cases within 1 4000 n <;> rfl

/-! ### The request accepted -/

/-- What ENTER_SEGMENT accepted does to the motion supervisor, the ceiling held to the new speed limit (R114, R117, R118,
R127). -/
theorem drivenOn_entered {s w : State} {n c : Nat} (hmotion : w.motion = { s.motion with ceiling := c })
    (hgroup : w.group = s.group) (hstation : w.station = s.station) (hn : w.currentSegment = some n) :
    w.drivenOn.motion.ceiling ≤ c ∧
    (s.motion.state = .idle ∨ s.motion.state = .retained ∨
        (s.motion.state = .stopping ∧ s.motion.stopEnd = .groupHold) →
      w.drivenOn.motion = { s.motion with ceiling := c }) ∧
    (s.motion.state = .run ∨ s.motion.state = .caution →
      w.drivenOn.motion.state = (if w.drivenOn.cautionCause then .caution else .run) ∧
      w.drivenOn.motion.ceiling =
        (if w.drivenOn.cautionCause ∧ s.motion.state = .run then min c s.station.config.crawl else c) ∧
      (w.drivenOn.motion.state ≠ s.motion.state → ∃ x ∈ w.drivenOn.host.events,
        x.event = .motion s.motion.state w.drivenOn.motion.state
          (if w.drivenOn.cautionCause then .cautionOn else .cautionOff) w.drivenOn.motion.ceiling (some n)
          FaultSet.empty)) ∧
    (s.motion.state = .stopping → s.motion.stopEnd = .idle →
      w.drivenOn.motion.state = (if s.motion.latch then .guestStop else if s.group.holds ≠ [] then .groupHold
        else if w.drivenOn.cautionCause then .caution else .run) ∧
      w.drivenOn.motion.ceiling = (if s.motion.latch ∨ s.group.holds ≠ [] then 0
        else if w.drivenOn.cautionCause then min c s.station.config.crawl else c) ∧
      ∃ x ∈ w.drivenOn.host.events, x.event = .motion .stopping w.drivenOn.motion.state
        (if s.motion.latch then .guest else if s.group.holds ≠ [] then .hold else .enter) w.drivenOn.motion.ceiling
        (some n) FaultSet.empty) := by
  obtain ⟨-, -, hcause, hceiling⟩ := drivenOn_spec w
  have hstate : w.motion.state = s.motion.state := by rw [hmotion]
  have hc : w.motion.ceiling = c := by rw [hmotion]
  rw [hc] at hceiling
  rw [hcause]
  refine ⟨hceiling, fun hstands => ?_, fun hdrives => ?_, fun hstopping hend => ?_⟩
  · rw [drivenOn_standing (by rw [hmotion]; exact hstands), hmotion]
  · obtain ⟨hnew, hlower, hevents⟩ := evalCaution_driving w (by rw [hstate]; exact hdrives) rfl
    rw [hstate, hc, hstation] at hlower
    rw [drivenOn_driving (by rw [hstate]; exact hdrives)]
    refine ⟨hnew, hlower, fun hchanged => ?_⟩
    rw [hstate, if_neg hchanged, hn] at hevents
    rw [hevents]
    exact mem_withEvents w (by simp) (List.mem_singleton_self _)
  · have hne : w.motion.state ≠ w.movingState := by
      rw [hstate, hstopping]
      exact (movingState_ne_stopping w).symm
    rw [drivenOn_stopping (by rw [hstate]; exact hstopping) (by rw [hmotion]; exact hend),
      moveTo_eq _ _ _ hne (movingState_ne_idle w)]
    have hmoving : w.movingState = (if s.motion.latch then .guestStop else if s.group.holds ≠ [] then .groupHold
        else if w.cautionCause then .caution else .run) := by
      rw [State.movingState, hmotion, hgroup]
    have hclamped : clampCeiling w.movingState w.station.config.crawl w.motion.ceiling =
        (if s.motion.latch ∨ s.group.holds ≠ [] then 0
          else if w.cautionCause then min c s.station.config.crawl else c) := by
      rw [clampCeiling_movingState, hmotion, hgroup, hstation]
    refine ⟨hmoving, hclamped, ?_⟩
    rw [hstate, hstopping, hn]
    refine mem_withEvents w (by simp) (List.mem_singleton.2 ?_)
    have hcause : w.movingCause .enter =
        (if s.motion.latch then .guest else if s.group.holds ≠ [] then .hold else .enter) := by
      rw [State.movingCause, hmotion, hgroup]
    rw [hcause]
    rfl

/-- Settles O49. -/
theorem enterSegmentOpensAnEntry : Obligations.EnterSegmentOpensAnEntry := by
  intro n code s hrobot hactive hleave hsel
  have hdrive := (mayDrive_iff s).2 ⟨hrobot, hactive, hleave⟩
  refine ⟨exec_enterSegment_outOfRange hdrive hsel, fun hlow hhigh hcode => ?_⟩
  have hexec := exec_enterSegment n code hdrive hsel
  rw [(within_iff ..).2 ⟨hlow, hhigh⟩, directionOf_eq hcode] at hexec
  refine ⟨fun hnone => ?_, fun r hr => ?_⟩
  · rw [hexec, show s.segment? n = none from hnone]
  · rw [show s.segment? n = some r from hr] at hexec
    dsimp only at hexec
    refine ⟨fun hnot => ?_, fun hheld => ⟨fun hstate => ?_, fun hstate => ?_⟩⟩
    · rw [hexec, hnot]
      rfl
    · have hdenied : s.allowsEntry = false := by
        rw [Bool.eq_false_iff, Ne, allowsEntry_iff]
        rintro (h | h | ⟨h, hdone⟩)
        · simp [h] at hstate
        · simp [h] at hstate
        · rcases hstate with h' | h' | h' | ⟨-, hnot⟩
          · simp [h'] at h
          · simp [h'] at h
          · simp [h'] at h
          · exact hnot hdone
      rw [hexec, hheld, hdenied]
      rfl
    · rw [hheld, (allowsEntry_iff s).2 hstate] at hexec
      obtain ⟨d, hd⟩ : ∃ d : Direction, d = if code = 0 then .forward else .reverse := ⟨_, rfl⟩
      obtain ⟨len, hlen⟩ : ∃ len, len = r.length * s.station.config.countsPerMetre / 10 := ⟨_, rfl⟩
      obtain ⟨cell, hcell⟩ : ∃ cell, cell = if code = 0 then 0 else (len - 1) / (5 * s.station.config.countsPerMetre) :=
        ⟨_, rfl⟩
      obtain ⟨w, hw⟩ : ∃ w, w = (s.entryMade r d).entryClamped r cell := ⟨_, rfl⟩
      rw [← hd, enterSegment_eq hd hlen hcell, ← hw] at hexec
      have hnumber : r.number = n := by simpa using List.find?_some hr
      obtain ⟨hstation, hmotion, hgroup, hdosing, hodo, hsegs, -, -⟩ := entryMade_spec s r d
      obtain ⟨hshape, hholds, -, -⟩ := drivenOn_spec w
      have hwsegs : w.segs = (openPass cell (s.entryMade r d)).segs := by rw [hw]; rfl
      have hwdosing : w.dosing = (openPass cell (s.entryMade r d)).dosing := by rw [hw]; rfl
      have hwodo : w.odo = (s.entryMade r d).odo := by rw [hw]; simp [State.entryClamped]
      have hwstation : w.station = s.station := by rw [hw, ← hstation]; simp [State.entryClamped]
      have hwchannel : w.channel = (s.entryMade r d).channel := by rw [hw]; simp [State.entryClamped]
      have hwgroup : w.group = s.group := by rw [hw, ← hgroup]; simp [State.entryClamped]
      have hwmotion : w.motion = { s.motion with ceiling := min s.motion.ceiling r.speedLimit } := by
        rw [hw, ← hmotion]
        simp [State.entryClamped]
      rw [entered_eq hd hlen hcell, hnumber] at hodo
      have hwn : w.currentSegment = some n := by rw [State.currentSegment, hwodo, hodo]; rfl
      have htsegs : w.drivenOn.segs = (openPass cell (s.entryMade r d)).segs := by rw [hshape]; exact hwsegs
      have htdosing : w.drivenOn.dosing = (openPass cell (s.entryMade r d)).dosing := by rw [hshape]; exact hwdosing
      have hpasses := openPass_segs cell (s.entryMade r d)
      refine ⟨ok [] w.drivenOn, hexec, rfl, ?_, ?_, ?_, fun hentry => ?_, fun en ro x hen hro hx => ?_,
        fun len' cell' hlen' hcell' => ?_, ?_⟩
      · show w.drivenOn.station = _
        rw [hshape]
        exact hwstation
      · show w.drivenOn.dosing.stock = _
        rw [htdosing, ← hdosing]
        cases hrecord : (s.entryMade r d).currentRecord with
        | none => rw [openPass_idle cell hrecord]
        | some y => rw [openPass_eq cell hrecord]
      · show w.drivenOn.group.holds = _
        rw [hholds, hwgroup]
      · show w.drivenOn.segs.report = _
        obtain ⟨en, hen⟩ := Option.ne_none_iff_exists'.1 hentry
        rw [htsegs, hpasses.2, hsegs, finaliseAndFlush_eq (n := en.segment) (by simp [State.currentSegment, hen]),
          flush_report]
      · have hpassed := entryMade_passed (d := d) (r := r) (t := ok [] w.drivenOn) hen hro hx
          (by show w.drivenOn.station = _; rw [hshape]; exact hwstation)
          (by show w.drivenOn.segs.records = _; rw [htsegs, hpasses.1])
          (by show w.drivenOn.channel = _; rw [hshape]; exact hwchannel)
        exact ⟨hpassed.1, fun hclear => hpassed.2 hclear⟩
      · subst hlen'
        rw [← hlen] at hcell' ⊢
        rw [← hcell] at hcell'
        subst hcell'
        obtain ⟨r', p, hfound, hpass, hpcell, htravel, hblade, hpulses, hresidual, hneed, htarget, hsalted⟩ :=
          entryMade_opens hrobot hr hheld hd hlen hcell
        rw [← htsegs] at hfound hpass
        rw [← htdosing] at hneed htarget hsalted
        refine ⟨?_, r', p, hfound, hpass, hpcell, htravel, hblade, hpulses, hresidual, hneed, htarget, hsalted⟩
        show w.drivenOn.odo = _
        rw [hshape, ← hd]
        exact hwodo.trans hodo
      · rintro c rfl
        exact drivenOn_entered hwmotion hwgroup hwstation hwn

end Sys2Proof.Machine

/-! ## What is offered and what is on the air at a scanner sample (R18, R126, R144; O54) -/

namespace Sys2Proof.Machine

/-! ### What is keyed and heard stays (R18, R19) -/

/-- What the station keys and where its receiver stands are the same, the frame in flight apart where it is withdrawn. -/
structure SameAir (s t : State) : Prop where
  seizeLeft : t.channel.seizeLeft = s.channel.seizeLeft
  response : t.channel.response = s.channel.response
  abandoned : t.channel.abandoned = s.channel.abandoned
  assembler : t.channel.assembler = s.channel.assembler
  symbol : t.channel.symbol = s.channel.symbol
  flight : ∀ f, t.channel.flight = some f → s.channel.flight = some f

theorem SameAir.of_channel {s t : State} (h : t.channel = s.channel) : SameAir s t := by
  refine ⟨?_, ?_, ?_, ?_, ?_, fun f hf => ?_⟩ <;> rw [h] at *
  exact hf

theorem SameAir.refl (s : State) : SameAir s s := .of_channel rfl

theorem SameAir.trans {s t u : State} (h : SameAir s t) (k : SameAir t u) : SameAir s u :=
  ⟨k.seizeLeft.trans h.seizeLeft, k.response.trans h.response, k.abandoned.trans h.abandoned,
    k.assembler.trans h.assembler, k.symbol.trans h.symbol, fun f hf => h.flight f (k.flight f hf)⟩

theorem withdraw_sameAir (p : Queued → Bool) (s : State) : SameAir s (withdraw p s) :=
  ⟨rfl, rfl, rfl, rfl, rfl, fun _ hf => (Option.filter_eq_some_iff.1 hf).1⟩

theorem noteOutcome_sameAir (s : State) : SameAir s (noteOutcome s) := ⟨rfl, rfl, rfl, rfl, rfl, fun _ hf => hf⟩

theorem endOwn_sameAir (n : Nat) (change : ClaimChange) (stronger : Option (Nat × Nat)) (s : State) :
    SameAir s (endOwn n change stronger s) := by
  cases hr : s.ownClaim? n with
  | none => rw [endOwn_none hr]; exact .refl s
  | some r => rw [endOwn_eq hr]; exact (withdraw_sameAir (isClaimFor n) s).trans (.of_channel rfl)

theorem ownAttempt_sameAir (seq : Nat) (s : State) : SameAir s (ownAttempt seq s) := by
  unfold ownAttempt
  split
  · exact .refl s
  · split
    · exact .of_channel rfl
    · rw [endCallout_eq]
      exact .of_channel rfl

theorem relayAttempt_sameAir (origin seq : Nat) (s : State) : SameAir s (relayAttempt origin seq s) := by
  unfold relayAttempt leaveRelay
  split
  · exact .refl s
  · split
    · exact .of_channel rfl
    · split
      · exact .of_channel rfl
      · exact .refl s

theorem unsent_sameAir (p : Payload) (s : State) : SameAir s (unsent p s) := by
  have hnoted := noteOutcome_sameAir s
  unfold unsent
  split
  · split
    · exact hnoted.trans (endOwn_sameAir _ _ _ _)
    · exact hnoted.trans (.of_channel rfl)
  · refine hnoted.trans ?_
    unfold calloutAttempt
    split
    · exact ownAttempt_sameAir _ _
    · exact relayAttempt_sameAir _ _ _
  · exact hnoted

theorem queueFrame_sameAir (b : Block) (p : Payload) (s : State) : SameAir s (queueFrame b p s) := by
  have hentered (u : State) : SameAir u (enterQueue b p u) := ⟨rfl, rfl, rfl, rfl, rfl, fun _ hf => hf⟩
  unfold queueFrame
  split
  · exact unsent_sameAir p s
  · split
    · exact hentered s
    · split
      · exact unsent_sameAir p s
      · split
        · exact ((withdraw_sameAir _ s).trans (hentered _)).trans (unsent_sameAir _ _)
        · exact unsent_sameAir p s

theorem offerFrame_sameAir (b : Block) (same : Payload → Bool) (p : Payload) (s : State) :
    SameAir s (offerFrame b same p s) := by
  unfold offerFrame
  split
  · exact ⟨rfl, rfl, rfl, rfl, rfl, fun _ hf => hf⟩
  · exact queueFrame_sameAir b p s

theorem zoneChanged_sameAir (old : Zone) (s : State) : SameAir s (zoneChanged old s) := by
  by_cases h : s.zone = old
  · rw [zoneChanged, if_pos h]
    exact .refl s
  · rw [zoneChanged_eq h, offerNotice_eq]
    exact (SameAir.of_channel (s := s) (t := s.zoned old) rfl).trans (offerFrame_sameAir _ _ _ _)

theorem evalCaution_sameAir (s : State) : SameAir s (evalCaution s) :=
  .of_channel (by rw [evalCaution_shape])

theorem offerHold_sameAir (s : State) : SameAir s (offerHold s) := by
  unfold offerHold
  split
  · exact .refl s
  · split
    · exact (SameAir.of_channel (s := s) (t := s.onGroup fun g => { g with repeatMs := 0 }) rfl).trans
        (offerFrame_sameAir _ _ _ _)
    · exact .refl s

theorem raiseHere_sameAir (code detail : Nat) (s : State) : SameAir s (raiseHere code detail s) := by
  have htaken (c : OwnCallout) :
      SameAir s ((takeSeq s.nextSeq s).onCallout fun u => { u with own := u.own ++ [c] }) := .of_channel rfl
  unfold raiseHere raise
  split
  · exact .of_channel (by simp [takeSeq])
  · split
    · exact (htaken _).trans (queueFrame_sameAir _ _ _)
    · exact .of_channel (by simp)

/-! ### The frame offered stands in the queue (R38, R126, R144) -/

theorem mem_queueFrame {b : Block} {p : Payload} {s : State} (hroom : s.hasRoom) {q : Queued} (hq : q ∈ s.channel.queue) :
    q ∈ (queueFrame b p s).channel.queue := by
  obtain ⟨⟨before, behind, hqueue, hjoined, -, -⟩, -⟩ := queueFrame_queues b p s hroom
  rw [hqueue] at hq
  rw [hjoined]
  rcases List.mem_append.1 hq with hq | hq
  · exact List.mem_append_left _ hq
  · exact List.mem_append_right _ (List.mem_cons_of_mem _ hq)

/-- A frame offered with room in the queue stands in it, and is not the one in flight (R25, R38). -/
theorem offerFrame_offers (b : Block) (same : Payload → Bool) (p : Payload) {s : State} (hroom : s.hasRoom) :
    ∃ q ∈ (offerFrame b same p s).channel.queue, q.payload = p ∧
      (s.QueueInOrder → (offerFrame b same p s).channel.flight.map (·.entry) ≠ some q.entry) := by
  unfold offerFrame
  split
  · next q hwaits =>
    have hflight : s.channel.flight.map (·.entry) ≠ some q.entry := by
      have h := List.find?_some hwaits
      simp only [Bool.and_eq_true, Bool.not_eq_true', beq_eq_false_iff_ne] at h
      exact h.2
    rw [changePayload_eq]
    refine ⟨{ q with payload := p }, List.mem_map.2 ⟨q, List.mem_of_find?_eq_some hwaits, if_pos rfl⟩, rfl, fun _ => hflight⟩
  · rw [queueFrame_room _ _ _ hroom]
    refine ⟨⟨p, p.priority, b, 0, s.channel.nextEntry⟩, (insertFrame_perm _ _).mem_iff.2 List.mem_cons_self, rfl,
      fun ⟨_, _, hgiven, hflight⟩ hsame => ?_⟩
    obtain ⟨f, hf, hentry⟩ := Option.map_eq_some_iff.1 hsame
    obtain ⟨x, hx, hxf⟩ := hflight f hf
    have hlt := hgiven x hx
    rw [hxf, hentry] at hlt
    exact lt_irrefl _ hlt

/-- A frame of another kind stays as it is as one is offered with room in the queue (R25, R38). -/
theorem offerFrame_leaves {b : Block} {same : Payload → Bool} {p : Payload} {s : State} (hroom : s.hasRoom)
    (horder : s.QueueInOrder) {q : Queued} (hq : q ∈ s.channel.queue) (hother : same q.payload = false) :
    q ∈ (offerFrame b same p s).channel.queue := by
  unfold offerFrame
  split
  · next x hwaits =>
    have hx := List.mem_of_find?_eq_some hwaits
    have hsame : same x.payload = true := by
      have h := List.find?_some hwaits
      rw [Bool.and_eq_true] at h
      exact h.1
    have hne : q.entry ≠ x.entry := by
      intro h
      rw [List.inj_on_of_nodup_map horder.2.1 hq hx h, hsame] at hother
      cases hother
    rw [changePayload_eq]
    exact List.mem_map.2 ⟨q, hq, if_neg hne⟩
  · exact mem_queueFrame hroom hq

theorem offerHold_leaves {s : State} (hroom : s.hasRoom) (horder : s.QueueInOrder) {q : Queued}
    (hq : q ∈ s.channel.queue) (hother : q.payload.isHold = false) : q ∈ (offerHold s).channel.queue := by
  unfold offerHold
  split
  · exact hq
  · split
    · exact offerFrame_leaves (s := s.onGroup fun g => { g with repeatMs := 0 }) hroom horder hq hother
    · exact hq

/-- A frame queued stays as a callout is raised with room in the queue (R22). -/
theorem raiseHere_leaves {code detail : Nat} {s : State} (hroom : s.hasRoom) {q : Queued} (hq : q ∈ s.channel.queue) :
    q ∈ (raiseHere code detail s).channel.queue := by
  unfold raiseHere raise
  split
  · simpa [takeSeq] using hq
  · split
    · have hspace (c : OwnCallout) :
          ((takeSeq s.nextSeq s).onCallout fun u => { u with own := u.own ++ [c] }).hasRoom := hroom
      exact mem_queueFrame (hspace _) hq
    · simpa using hq

end Sys2Proof.Machine

/-! ## Scanner samples (R18, R111, R121 to R127, R143, R144, R168; O54) -/

namespace Sys2Proof.Machine

/-! ### The WARN_FIELD sample (R121, R126, R127) -/

/-- The block with the lines at their levels, the warning counter at `n` and the warning `w` (R121). -/
def State.warnSampled (s : State) (warn prot : Bool) (n : Nat) (w : Bool) : State := { s with
  motion := { s.motion with
    warnLine := warn, protLine := prot, warnCounter := n, warning := w
    restartMs := if warn then 0 else s.motion.restartMs } }

/-- The block after the WARN_FIELD sample (R121, R126, R127). -/
def State.warned (s : State) (warn prot : Bool) (n : Nat) (w : Bool) : State :=
  if w = s.motion.warning then s.warnSampled warn prot n w
  else evalCaution (zoneChanged s.zone (s.warnSampled warn prot n w))

theorem sampleWarn_eq {warn prot : Bool} {s : State} {n : Nat} {w : Bool}
    (hn : n = if warn then min s.station.config.warnThreshold (s.motion.warnCounter + 1) else
      match s.station.config.warnDecrement with
      | .reset => 0
      | .by1 => s.motion.warnCounter - 1
      | .by2 => s.motion.warnCounter - 2
      | .by4 => s.motion.warnCounter - 4)
    (hw : w = if s.station.config.warnThreshold ≤ n then true else if n = 0 then false else s.motion.warning) :
    sampleWarn warn (s.onMotion fun m => { m with warnLine := warn, protLine := prot }) = s.warned warn prot n w := by
  have hcount : warnCount s.cfg warn s.motion.warnCounter = n := hn.symm
  have hafter : warningAfter s.cfg.warnThreshold n s.motion.warning = w := hw.symm
  show (let n' := warnCount s.cfg warn s.motion.warnCounter
    let w' := warningAfter s.cfg.warnThreshold n' s.motion.warning
    if w' = s.motion.warning then s.warnSampled warn prot n' w'
    else evalCaution (zoneChanged s.zone (s.warnSampled warn prot n' w'))) = _
  dsimp only
  rw [hcount, hafter]
  rfl

theorem exec_scannerSample (warn prot : Bool) {s : State} (hrobot : s.isRobot = true) :
    exec (.scannerSample warn prot) s = .next (endOfStep (sampleProt prot
      (sampleWarn warn (s.onMotion fun m => { m with warnLine := warn, protLine := prot })))) := by
  show execScannerSample warn prot s = _
  exact if_pos hrobot

/-- A change of the warning changes the zone, where the latch is clear (R126). -/
theorem warnSampled_zone (s : State) (warn prot : Bool) (n : Nat) (w : Bool) :
    (s.warnSampled warn prot n w).zone = if s.motion.latch then .protective else if w then .warning else .clear := rfl

/-- What the zone's change leaves of the motion supervisor after a change of the warning (R126). -/
theorem warned_zoned {s : State} (warn prot : Bool) (n : Nat) {w : Bool} (hw : w ≠ s.motion.warning) :
    ∃ notice, (zoneChanged s.zone (s.warnSampled warn prot n w)).motion =
        { (s.warnSampled warn prot n w).motion with noticeMs := notice } ∧
      (zoneChanged s.zone (s.warnSampled warn prot n w)).group = s.group ∧
      Roomy s (zoneChanged s.zone (s.warnSampled warn prot n w)) ∧
      (∃ es, es.length ≤ 2 ∧ Brings s es (zoneChanged s.zone (s.warnSampled warn prot n w)) ∧
        (s.motion.latch = false → notice = 0 ∧ .guestZone (if w then .warning else .clear)
          (if w then .clear else .warning) (s.odo.entry.map fun e => (e.segment, e.cell)) ∈ es)) ∧
      (s.motion.latch = true →
        zoneChanged s.zone (s.warnSampled warn prot n w) = s.warnSampled warn prot n w) := by
  cases hlatch : s.motion.latch with
  | true =>
    have hsame : zoneChanged s.zone (s.warnSampled warn prot n w) = s.warnSampled warn prot n w := by
      refine if_pos ?_
      rw [warnSampled_zone, State.zone, hlatch]
      rfl
    rw [hsame]
    exact ⟨s.motion.noticeMs, rfl, rfl, fun _ => ⟨rfl, rfl, Nat.le_succ _⟩,
      ⟨[], by simp, .same rfl rfl fun _ hq => hq, nofun⟩, fun _ => rfl⟩
  | false =>
    have hold : s.zone = if w then .clear else .warning := by
      cases w <;> cases h : s.motion.warning <;> simp_all [State.zone]
    have hnew : (s.warnSampled warn prot n w).zone = if w then .warning else .clear := by
      rw [warnSampled_zone, hlatch]
      rfl
    have hne : (s.warnSampled warn prot n w).zone ≠ s.zone := by
      rw [hold, hnew]
      cases w <;> decide
    obtain ⟨hmotion, hgroup, ⟨es, hes, hshown, hbrings⟩, hroomy⟩ := zoneChanged_spec hne
    refine ⟨0, hmotion, hgroup, hroomy, ⟨es, hes, ⟨hbrings.station, hbrings.events, hbrings.frames⟩, fun _ => ⟨rfl, ?_⟩⟩,
      nofun⟩
    rw [hnew, hold] at hshown
    exact hshown

theorem warned_same {s : State} (warn prot : Bool) (n : Nat) {w : Bool} (hw : w = s.motion.warning) :
    s.warned warn prot n w = s.warnSampled warn prot n w := if_pos hw

theorem warned_changed {s : State} (warn prot : Bool) (n : Nat) {w : Bool} (hw : w ≠ s.motion.warning) :
    s.warned warn prot n w = evalCaution (zoneChanged s.zone (s.warnSampled warn prot n w)) := if_neg hw

/-- What the evaluation of caution leaves of the motion supervisor's samples. -/
theorem evalCaution_samples (s : State) : (evalCaution s).motion.warning = s.motion.warning ∧
    (evalCaution s).motion.warnCounter = s.motion.warnCounter ∧ (evalCaution s).motion.latch = s.motion.latch ∧
    (evalCaution s).motion.lastProt = s.motion.lastProt ∧ (evalCaution s).motion.restartMs = s.motion.restartMs ∧
    (evalCaution s).motion.holdSent = s.motion.holdSent ∧ (evalCaution s).motion.noticeMs = s.motion.noticeMs ∧
    (evalCaution s).group = { s.group with retained := (evalCaution s).group.retained } := by
  obtain h | ⟨new, cause, hnew, hstate, h⟩ := evalCaution_moves s
  · rw [h]
    exact ⟨rfl, rfl, rfl, rfl, rfl, rfl, rfl, rfl⟩
  · rw [h, moveTo_eq _ _ _ hstate hnew]
    exact ⟨rfl, rfl, rfl, rfl, rfl, rfl, rfl, rfl⟩

theorem evalCaution_brings (s : State) : BringsAtMost s 2 (evalCaution s) := by
  obtain h | ⟨new, cause, hnew, hstate, h⟩ := evalCaution_moves s
  · rw [h]
    exact .same 2 rfl rfl fun _ hq => hq
  · rw [h]
    exact moveTo_brings _ _ _ s

theorem warned_frame (s : State) (warn prot : Bool) (n : Nat) (w : Bool) :
    (s.warned warn prot n w).station = s.station ∧ (s.warned warn prot n w).segs = s.segs ∧
    (s.warned warn prot n w).odo = s.odo ∧ (s.warned warn prot n w).dosing = s.dosing := by
  unfold State.warned
  split
  · exact ⟨rfl, rfl, rfl, rfl⟩
  · simp [State.warnSampled]

/-- The samples of the scanner after the WARN_FIELD sample; of group control only the retained flag may go (R121, R138). -/
theorem warned_samples (s : State) (warn prot : Bool) (n : Nat) (w : Bool) :
    (s.warned warn prot n w).motion.warning = w ∧ (s.warned warn prot n w).motion.warnCounter = n ∧
    (s.warned warn prot n w).motion.latch = s.motion.latch ∧
    (s.warned warn prot n w).motion.lastProt = s.motion.lastProt ∧
    (s.warned warn prot n w).motion.restartMs = (if warn then 0 else s.motion.restartMs) ∧
    (s.warned warn prot n w).motion.holdSent = s.motion.holdSent ∧
    (s.warned warn prot n w).group = { s.group with retained := (s.warned warn prot n w).group.retained } := by
  by_cases hw : w = s.motion.warning
  · rw [warned_same warn prot n hw]
    exact ⟨rfl, rfl, rfl, rfl, rfl, rfl, rfl⟩
  · rw [warned_changed warn prot n hw]
    obtain ⟨notice, hmotion, hgroup, -⟩ := warned_zoned warn prot n hw
    obtain ⟨h1, h2, h3, h4, h5, h6, -, h8⟩ := evalCaution_samples (zoneChanged s.zone (s.warnSampled warn prot n w))
    rw [hmotion] at h1 h2 h3 h4 h5 h6
    rw [hgroup] at h8
    exact ⟨h1, h2, h3, h4, h5, h6, h8⟩

/-- A robot that does not drive keeps its motion state through the WARN_FIELD sample (R127). -/
theorem warned_standing {s : State} (warn prot : Bool) (n : Nat) (w : Bool) (hrun : s.motion.state ≠ .run)
    (hcaution : s.motion.state ≠ .caution) :
    (s.warned warn prot n w).motion = { (s.warnSampled warn prot n w).motion with
      noticeMs := (s.warned warn prot n w).motion.noticeMs } ∧
    (s.warned warn prot n w).group = s.group ∧
    (w = s.motion.warning → (s.warned warn prot n w).motion.noticeMs = s.motion.noticeMs) := by
  by_cases hw : w = s.motion.warning
  · rw [warned_same warn prot n hw]
    exact ⟨rfl, rfl, fun _ => rfl⟩
  · obtain ⟨notice, hmotion, hgroup, -⟩ := warned_zoned warn prot n hw
    rw [warned_changed warn prot n hw, evalCaution_standing _ (by rw [hmotion]; exact hrun) (by rw [hmotion]; exact hcaution)]
    rw [hmotion]
    exact ⟨rfl, hgroup, fun h => absurd h hw⟩

/-- A robot that drives is in RUN or CAUTION after the WARN_FIELD sample, by the causes that there are (R127). -/
theorem warned_driving {s : State} (warn prot : Bool) (n : Nat) {w : Bool} (hw : w ≠ s.motion.warning)
    (hdrives : s.motion.state = .run ∨ s.motion.state = .caution) :
    (s.warned warn prot n w).motion.state =
      (if w ∨ s.causePeer = true ∨ s.causeSeize = true then .caution else .run) ∧
    ((s.warned warn prot n w).motion.state = .caution → s.motion.state = .run →
      (s.warned warn prot n w).motion.ceiling = min s.motion.ceiling s.station.config.crawl) := by
  obtain ⟨notice, hmotion, -, -⟩ := warned_zoned warn prot n hw
  obtain ⟨u, hu⟩ : ∃ u, u = zoneChanged s.zone (s.warnSampled warn prot n w) := ⟨_, rfl⟩
  have hcause : u.cautionCause = true ↔ w = true ∨ s.causePeer = true ∨ s.causeSeize = true := by
    have hsame : u.cautionCause = (s.warnSampled warn prot n w).cautionCause :=
      cautionCause_congr (by rw [hu, hmotion]) (by rw [hu, hmotion]) (by simp [hu]) (by simp [hu])
    rw [hsame, State.cautionCause, Bool.or_eq_true, Bool.or_eq_true, or_assoc]
    exact Iff.rfl
  rw [← hu] at hmotion
  obtain ⟨hstate, hceiling, -⟩ := evalCaution_driving u (by rw [hmotion]; exact hdrives) rfl
  rw [warned_changed warn prot n hw, ← hu]
  have hstate' : (evalCaution u).motion.state =
      (if w ∨ s.causePeer = true ∨ s.causeSeize = true then .caution else .run) := by
    rw [hstate]
    simp only [hcause]
  refine ⟨hstate', fun hcaution hrun => ?_⟩
  have hon : u.cautionCause = true := by
    rw [hstate] at hcaution
    split at hcaution
    · next h => exact h
    · cases hcaution
  have hceil : u.motion.ceiling = s.motion.ceiling := by rw [hmotion]; rfl
  have hstation : u.station = s.station := by rw [hu]; simp [State.warnSampled]
  rw [hceiling, if_pos ⟨hon, by rw [hmotion]; exact hrun⟩, hceil, hstation]

/-- Events, frames and air at the WARN_FIELD sample (R126). -/
theorem warned_brings (s : State) (warn prot : Bool) (n : Nat) (w : Bool) :
    (∃ es, es.length ≤ 4 ∧ Brings s es (s.warned warn prot n w) ∧
      (w ≠ s.motion.warning → s.motion.latch = false → (s.warned warn prot n w).motion.noticeMs = 0 ∧
        .guestZone (if w then .warning else .clear) (if w then .clear else .warning)
          (s.odo.entry.map fun e => (e.segment, e.cell)) ∈ es)) ∧
    Roomy s (s.warned warn prot n w) ∧ SameAir s (s.warned warn prot n w) ∧
    (s.QueueInOrder → (s.warned warn prot n w).QueueInOrder) ∧
    (s.motion.latch = true → (s.warned warn prot n w).channel = s.channel ∧
      (s.warned warn prot n w).callout = s.callout) := by
  by_cases hw : w = s.motion.warning
  · rw [warned_same warn prot n hw]
    exact ⟨⟨[], by simp, .same rfl rfl fun _ hq => hq, fun h => absurd hw h⟩, fun _ => ⟨rfl, rfl, Nat.le_succ _⟩,
      .of_channel rfl, fun h => h, fun _ => ⟨rfl, rfl⟩⟩
  · obtain ⟨notice, hmotion, -, hroomy, ⟨es, hes, hbrings, hshown⟩, hlatched⟩ := warned_zoned warn prot n hw
    rw [warned_changed warn prot n hw]
    have hair : SameAir s (zoneChanged s.zone (s.warnSampled warn prot n w)) :=
      (SameAir.of_channel (s := s) (t := s.warnSampled warn prot n w) rfl).trans (zoneChanged_sameAir _ _)
    have horder : s.QueueInOrder → (zoneChanged s.zone (s.warnSampled warn prot n w)).QueueInOrder :=
      fun h => (zoneChanged_keeps s.zone (s.warnSampled warn prot n w)).lawful.inOrder h
    obtain ⟨u, hu⟩ : ∃ u, u = zoneChanged s.zone (s.warnSampled warn prot n w) := ⟨_, rfl⟩
    rw [← hu] at hmotion hroomy hbrings hlatched hair horder ⊢
    obtain ⟨es', hes', hevaluated⟩ := evalCaution_brings u
    have hshape := evalCaution_shape u
    have hnotice := (evalCaution_samples u).2.2.2.2.2.2.1
    refine ⟨⟨es ++ es', by rw [List.length_append]; omega, hbrings.trans hevaluated, fun _ hclear => ?_⟩, fun hroom => ?_,
      hair.trans (evalCaution_sameAir u), fun h => (evalCaution_keeps u).lawful.inOrder (horder h), fun hlatch => ?_⟩
    · obtain ⟨hzero, hmem⟩ := hshown hclear
      exact ⟨by rw [hnotice, hmotion, hzero], List.mem_append_left _ hmem⟩
    · rw [hshape]
      exact hroomy hroom
    · rw [hshape, hlatched hlatch]
      exact ⟨rfl, rfl⟩

end Sys2Proof.Machine

/-! ## The PROT_FIELD sample (R18, R111, R122 to R125, R143, R144, R168; O54) -/

namespace Sys2Proof.Machine

/-! ### GUEST_BLOCKED that is due (R125) -/

/-- The block with the PROT_FIELD sample taken (R121, R124). -/
def State.protSampled (s : State) (prot : Bool) : State := { s with
  motion := { s.motion with lastProt := prot, restartMs := if prot then 0 else s.motion.restartMs } }

/-- The block once a GUEST_BLOCKED that is due has been raised (R125). -/
def State.blockedShown (s : State) : State := if s.guestBlockedDue then raiseGuestBlocked s else s

theorem guestBlockedDue_iff (s : State) : s.guestBlockedDue = true ↔
    s.motion.state = .guestStop ∧ s.motion.guestBlockedRaised = false ∧ 120000 ≤ s.motion.guestBlockedMs := by
  simp only [State.guestBlockedDue, Bool.and_eq_true, beq_iff_eq, Bool.not_eq_true', decide_eq_true_eq, and_assoc]
  exact Iff.rfl

theorem blockedShown_idle {s : State} (h : s.guestBlockedDue = false) : s.blockedShown = s := if_neg (by simp [h])

/-- The block with the PROT_FIELD sample taken: a rising one asks for a seize, and sets a clear latch (R122). -/
def State.protTaken (s : State) (prot : Bool) : State :=
  if prot ∧ !s.motion.lastProt then
    if (requestSeize (s.protSampled prot)).motion.latch then requestSeize (s.protSampled prot)
    else setLatch (requestSeize (s.protSampled prot))
  else s.protSampled prot

theorem sampleProt_eq (prot : Bool) (s : State) :
    sampleProt prot s = if prot ∧ (s.protTaken prot).guestBlockedDue then raiseGuestBlocked (s.protTaken prot)
      else s.protTaken prot := rfl

theorem sampleProt_clear (s : State) : sampleProt false s = s.protSampled false := by
  rw [sampleProt_eq, if_neg fun h => Bool.false_ne_true h.1, State.protTaken, if_neg fun h => Bool.false_ne_true h.1]

theorem sampleProt_active (s : State) : sampleProt true s = (s.protTaken true).blockedShown := by
  rw [sampleProt_eq]
  simp only [true_and]
  rfl

theorem protTaken_still {s : State} (h : s.motion.lastProt = true) : s.protTaken true = s.protSampled true :=
  if_neg fun ⟨_, hrises⟩ => by simp [h] at hrises

theorem protTaken_rising {s : State} (h : s.motion.lastProt = false) : s.protTaken true =
    if s.motion.latch then requestSeize (s.protSampled true) else setLatch (requestSeize (s.protSampled true)) := by
  have hlatch : (requestSeize (s.protSampled true)).motion.latch = s.motion.latch := by simp [State.protSampled]
  rw [State.protTaken, if_pos ⟨rfl, by rw [h]; rfl⟩, hlatch]

/-- What raising a GUEST_BLOCKED that is due changes (R125, R168). -/
theorem blockedShown_spec (s : State) :
    s.blockedShown.motion = { s.motion with guestBlockedRaised := s.blockedShown.motion.guestBlockedRaised } ∧
    s.blockedShown.station = s.station ∧ s.blockedShown.segs = s.segs ∧ s.blockedShown.odo = s.odo ∧
    s.blockedShown.dosing = s.dosing ∧ s.blockedShown.group = s.group ∧ BringsAtMost s 2 s.blockedShown ∧
    SameAir s s.blockedShown ∧ (∀ q ∈ s.channel.queue, s.hasRoom → q ∈ s.blockedShown.channel.queue) ∧
    (s.guestBlockedDue = true → s.blockedShown.motion.guestBlockedRaised = true ∧
      (s.raisesNow → s.Raises 1 (guestSeconds s.motion.guestBlockedMs) s.blockedShown)) := by
  cases hdue : s.guestBlockedDue with
  | false =>
    rw [blockedShown_idle hdue]
    exact ⟨rfl, rfl, rfl, rfl, rfl, rfl, .same 2 rfl rfl fun _ hq => hq, .refl s, fun q hq _ => hq, nofun⟩
  | true =>
    obtain ⟨u, hu⟩ : ∃ u, u = s.onMotion fun m => { m with guestBlockedRaised := true } := ⟨_, rfl⟩
    have hshown : s.blockedShown = raiseHere 1 (guestSeconds s.motion.guestBlockedMs) u := by
      rw [hu]
      exact if_pos hdue
    have hbrings : BringsAtMost s 0 u := by
      rw [hu]
      exact .same 0 rfl rfl fun _ hq => hq
    have hair : SameAir s u := by
      rw [hu]
      exact .of_channel rfl
    rw [hshown]
    refine ⟨by simp [hu], by simp [hu], by simp [hu], by simp [hu], by simp [hu], by simp [hu],
      hbrings.trans (raiseHere_brings _ _ u), hair.trans (raiseHere_sameAir _ _ u), fun q hq hroom => ?_,
      fun _ => ⟨by simp [hu], fun ⟨hrobot, hstate, hown, hqueue⟩ => ?_⟩⟩
    · exact raiseHere_leaves (by rw [hu]; exact hroom) (by rw [hu]; exact hq)
    · have hraises := raiseHere_raises (s := u) 1 (guestSeconds s.motion.guestBlockedMs) (by rw [hu]; exact hrobot)
        (by rw [hu]; exact hstate) (by rw [hu]; exact hown) (by rw [hu]; exact hqueue)
      rw [hu] at hraises ⊢
      exact hraises

/-- With room for two frames a callout still finds its place after one frame has been queued (R23, R168). -/
theorem raisesNow_of_mayRaise {s u : State} (hmay : s.mayRaise) (hstation : u.station = s.station)
    (hroomy : Roomy s u) : u.raisesNow ∧ u.callout = s.callout := by
  obtain ⟨hrobot, hstate, hown, hqueue⟩ := hmay
  obtain ⟨hcallout, -, hlength⟩ := hroomy ⟨by rcases hstate with h | h <;> rw [h] <;> decide, by omega⟩
  refine ⟨⟨?_, by rw [hstation]; exact hstate, by rw [hcallout]; exact hown, by omega⟩, hcallout⟩
  rw [← hrobot]
  simp only [State.isDepot, State.cfg, hstation]

theorem State.Raises.of_same {s u t : State} {code detail : Nat} (h : u.Raises code detail t)
    (hcallout : u.callout = s.callout) (hodo : u.odo = s.odo) : s.Raises code detail t := by
  unfold State.Raises State.herePair at h ⊢
  rwa [hcallout, hodo] at h

/-! ### The seize (R18, R19) -/

theorem fieldOver_iff (c : Channel) : c.fieldOver = true ↔ c.assembler = .response ∧ 36 ≤ c.symbol := by
  simp only [Channel.fieldOver, Bool.and_eq_true, beq_iff_eq, decide_eq_true_eq]
  exact Iff.rfl

/-- What asking for a seize does to what is keyed (R18; log 26). -/
theorem requestSeize_spec (s : State) :
    (s.station.state = .active → (requestSeize s).channel.seizeLeft = 48 ∧
      (s.channel.assembler = .response → s.channel.symbol < 36 → (requestSeize s).channel.response = none ∧
        (∀ v, s.channel.response = some v →
          (requestSeize s).channel.abandoned = some ⟨v, s.channel.symbol⟩) ∧
        (s.channel.response = none → (requestSeize s).channel.abandoned = s.channel.abandoned)) ∧
      (s.channel.assembler = .response → 36 ≤ s.channel.symbol →
        (requestSeize s).channel.response = s.channel.response ∧
          (requestSeize s).channel.abandoned = s.channel.abandoned) ∧
      (s.channel.assembler ≠ .response →
        (requestSeize s).channel.response = none ∧ (requestSeize s).channel.abandoned = s.channel.abandoned)) ∧
    (s.station.state ≠ .active → (requestSeize s).channel.seizeLeft = s.channel.seizeLeft) ∧
    (∃ left response abandoned, (requestSeize s).channel = { s.channel with
      seizeLeft := left, response := response, abandoned := abandoned }) := by
  by_cases hactive : s.station.state = .active
  · have hseize : requestSeize s = s.onChannel fun c => { c with
        seizeLeft := 48
        response := if c.fieldOver then c.response else none
        abandoned := c.abandonedNow.or c.abandoned } := if_pos hactive
    rw [hseize]
    refine ⟨fun _ => ⟨rfl, fun hfield hgoing => ?_, fun hfield hover => ?_, fun hfield => ?_⟩,
      fun h => absurd hactive h, _, _, _, rfl⟩
    · have hnot : s.channel.fieldOver = false := by
        rw [Bool.eq_false_iff, Ne, fieldOver_iff]
        rintro ⟨-, hover⟩
        omega
      have hnow : s.channel.abandonedNow = s.channel.response.map fun v => ⟨v, s.channel.symbol⟩ :=
        if_pos ⟨hfield, by rw [hnot]; rfl⟩
      refine ⟨by simp [hnot], fun v hv => by simp [hnow, hv], fun hnone => by simp [hnow, hnone]⟩
    · have hyes : s.channel.fieldOver = true := (fieldOver_iff _).2 ⟨hfield, hover⟩
      have hnow : s.channel.abandonedNow = none := if_neg (by simp [hyes])
      exact ⟨by simp [hyes], by simp [hnow]⟩
    · have hnot : s.channel.fieldOver = false := by
        rw [Bool.eq_false_iff, Ne, fieldOver_iff]
        exact fun h => hfield h.1
      have hnow : s.channel.abandonedNow = none := if_neg fun h => hfield h.1
      exact ⟨by simp [hnot], by simp [hnow]⟩
  · have hsame : requestSeize s = s := if_neg hactive
    rw [hsame]
    exact ⟨fun h => absurd h hactive, fun _ => rfl, _, _, _, rfl⟩

/-! ### The own hold raised for the guest (R143, R144) -/

theorem createHold_brings (o : Nat) (ty : HoldType) (re : HoldReason) (expiry : Option Nat) (s : State) :
    BringsAtMost s 2 (createHold o ty re expiry s) ∧
      (createHold o ty re expiry s).group.guestMark = s.group.guestMark := by
  have hdropped (k : Nat) : (dropHold k .replaced s).group.guestMark = s.group.guestMark := by
    unfold dropHold
    split
    · rfl
    · simp
  have hroom : BringsAtMost s 1 (makeHoldRoom s) ∧ (makeHoldRoom s).group.guestMark = s.group.guestMark := by
    unfold makeHoldRoom
    split
    · exact ⟨.same 1 rfl rfl fun _ hq => hq, rfl⟩
    · split
      · exact ⟨.same 1 rfl rfl fun _ hq => hq, rfl⟩
      · exact ⟨(dropHold_brings _ _ s).2, hdropped _⟩
  have hadded (u : State) (f : Group → Group) (e : Event) : BringsAtMost u 1 (post e (u.onGroup f)) := by
    rw [post_events]
    exact .one e rfl rfl fun _ hq => hq
  unfold createHold
  dsimp only
  split
  · exact ⟨hroom.1.trans (hadded _ _ _), by simpa using hroom.2⟩
  · exact ⟨hroom.1.mono (by omega), hroom.2⟩

/-- With the guest mark set, the own hold's entry is made or changed, and its HOLD frame offered (R143, R144). -/
theorem raiseOwnHold_guest {s : State} (hguest : s.motion.state = .guestStop) (hmark : s.group.guestMark = true) :
    raiseOwnHold s = match s.ownHold? with
      | none => offerHold ((createHold s.station.config.station .immediate .guest none s).onGroup
          fun g => { g with repeatMs := 0 })
      | some h =>
        if h.holdType ≠ .immediate ∨ h.reason ≠ .guest then offerHold (s.reheld h .immediate .guest none) else s := by
  have hvalues : s.group.ownValues = some (.immediate, .guest) := if_pos hmark
  rw [raiseOwnHold, hvalues]
  cases hown : s.ownHold? with
  | none =>
    refine applyHold_standing _ ?_
    simpa using hguest
  | some h =>
    dsimp only
    rw [changeHold_standing h _ _ _ s hguest]

theorem offerHold_restarted {s : State} (h : s.group.repeatMs = 0) : (offerHold s).group.repeatMs = 0 := by
  unfold offerHold
  split
  · exact h
  · split
    · simp
    · exact h

/-- The HOLD frame offered for an own hold stands in the queue (R144). -/
theorem offerHold_offers {s : State} {h : HoldEntry} (hown : s.ownHold? = some h) (hworking : s.working = true)
    (hroom : s.hasRoom) : ∃ q ∈ (offerHold s).channel.queue,
      q.payload = .hold s.station.config.group (holdTypeCode h.holdType) (holdReasonCode h.reason) := by
  obtain ⟨q, hq, hpayload, -⟩ := offerFrame_offers .group Payload.isHold
    (.hold s.cfg.group (holdTypeCode h.holdType) (holdReasonCode h.reason))
    (s := s.onGroup fun g => { g with repeatMs := 0 }) hroom
  rw [offerHold, hown]
  dsimp only
  rw [if_pos hworking]
  exact ⟨q, hq, hpayload⟩

/-- What raising the own hold for the guest does to everything but the hold set (R143). -/
theorem raiseOwnHold_quiet {s : State} (hguest : s.motion.state = .guestStop) (hmark : s.group.guestMark = true) :
    (raiseOwnHold s).motion = s.motion ∧ (raiseOwnHold s).group.guestMark = true ∧ BringsAtMost s 3 (raiseOwnHold s) ∧
    SameAir s (raiseOwnHold s) ∧
    ∀ q ∈ s.channel.queue, s.hasRoom → s.QueueInOrder → q.payload.isHold = false → q ∈ (raiseOwnHold s).channel.queue := by
  have hoffers (u : State) (hmotion : u.motion = s.motion) (hchannel : u.channel = s.channel)
      (hmarked : u.group.guestMark = true) (hbrings : BringsAtMost s 2 u) :
      (offerHold u).motion = s.motion ∧ (offerHold u).group.guestMark = true ∧ BringsAtMost s 3 (offerHold u) ∧
      SameAir s (offerHold u) ∧
      ∀ q ∈ s.channel.queue, s.hasRoom → s.QueueInOrder → q.payload.isHold = false →
        q ∈ (offerHold u).channel.queue := by
    have hstation : u.station = s.station := by
      obtain ⟨_, _, h⟩ := hbrings
      exact h.station
    refine ⟨by simpa using hmotion, by rw [offerHold_repeats]; exact hmarked, hbrings.trans (offerHold_brings u).1,
      (SameAir.of_channel hchannel).trans (offerHold_sameAir u), fun q hq hroom horder hother => ?_⟩
    refine offerHold_leaves ?_ ?_ (by rw [hchannel]; exact hq) hother
    · rw [State.hasRoom, hchannel, hstation]
      exact hroom
    · rw [State.QueueInOrder, hchannel]
      exact horder
  rw [raiseOwnHold_guest hguest hmark]
  cases hown : s.ownHold? with
  | none =>
    obtain ⟨hbrings, hmarked⟩ := createHold_brings s.station.config.station .immediate .guest none s
    have hrestarted (u : State) : BringsAtMost u 0 (u.onGroup fun g => { g with repeatMs := 0 }) :=
      .same 0 rfl rfl fun _ hq => hq
    exact hoffers _ (by simp) (by simp) (hmarked.trans hmark) (hbrings.trans (hrestarted _))
  | some h =>
    dsimp only
    split
    · exact hoffers _ rfl rfl hmark ((reheld_brings h _ _ _ s).mono (by omega))
    · exact ⟨rfl, hmark, .same 3 rfl rfl fun _ hq => hq, .refl s, fun q hq _ _ _ => hq⟩

/-- The own hold raised for the guest where there was none (R143, R144). -/
theorem raiseOwnHold_new {s : State} (hguest : s.motion.state = .guestStop) (hmark : s.group.guestMark = true)
    (hown : s.ownHold? = none) (hplace : s.group.holds.length < 8) :
    (raiseOwnHold s).group.holds = s.group.holds ++
        [⟨s.station.config.station, .immediate, .guest, none, s.group.nextStamp⟩] ∧
      (raiseOwnHold s).group.repeatMs = 0 ∧
      (∃ es, es.length ≤ 2 ∧ .holdAdded s.station.config.station .immediate .guest (s.group.holds.length + 1) ∈ es ∧
        Brings s es (raiseOwnHold s)) ∧
      (s.working = true → s.hasRoom → ∃ q ∈ (raiseOwnHold s).channel.queue,
        q.payload = .hold s.station.config.group 0 0) := by
  obtain ⟨u, hu⟩ : ∃ u, u = (createHold s.station.config.station .immediate .guest none s).onGroup
      fun g => { g with repeatMs := 0 } := ⟨_, rfl⟩
  have hraised : raiseOwnHold s = offerHold u := by
    rw [raiseOwnHold_guest hguest hmark, hown, hu]
  have hrepeat : u.group.repeatMs = 0 := by rw [hu]; rfl
  rw [createHold_room hplace] at hu
  have hholds : u.group.holds = s.group.holds ++
      [⟨s.station.config.station, .immediate, .guest, none, s.group.nextStamp⟩] := by rw [hu]; rfl
  have hadded : Brings s [.holdAdded s.station.config.station .immediate .guest (s.group.holds.length + 1)] u := by
    rw [hu]
    exact ⟨rfl, rfl, fun n hn => hn⟩
  have hnew : u.ownHold? = some ⟨s.station.config.station, .immediate, .guest, none, s.group.nextStamp⟩ := by
    have hfind : s.group.holds.find? (·.originator == s.station.config.station) = none := hown
    simp [State.ownHold?, hholds, State.cfg, hadded.station, hfind]
  rw [hraised]
  obtain ⟨⟨es, hes, hoffered⟩, -⟩ := offerHold_brings u
  refine ⟨by rw [offerHold_repeats]; exact hholds, offerHold_restarted hrepeat,
    ⟨_, ?_, List.mem_append_left _ (List.mem_singleton_self _), hadded.trans hoffered⟩, fun hworking hroom => ?_⟩
  · rw [List.length_append, List.length_singleton]
    omega
  · have hoffers := offerHold_offers hnew (by rw [hu]; exact hworking) (by rw [hu]; exact hroom)
    rw [hadded.station] at hoffers
    exact hoffers

/-- The own hold that stood is IMMEDIATE for the guest from then on (R143). -/
theorem raiseOwnHold_standing {s : State} (hguest : s.motion.state = .guestStop) (hmark : s.group.guestMark = true)
    (hown : s.ownHold? ≠ none) : ∃ h ∈ (raiseOwnHold s).group.holds,
      h.originator = s.station.config.station ∧ h.holdType = .immediate ∧ h.reason = .guest := by
  obtain ⟨h, hh⟩ := Option.ne_none_iff_exists'.1 hown
  have hmem : h ∈ s.group.holds := List.mem_of_find?_eq_some hh
  have hkey : h.originator = s.station.config.station := by simpa [State.cfg] using List.find?_some hh
  rw [raiseOwnHold_guest hguest hmark, hh]
  dsimp only
  split
  · rw [offerHold_repeats]
    exact ⟨_, List.mem_map.2 ⟨h, hmem, if_pos rfl⟩, hkey, rfl, rfl⟩
  · next hsame =>
    obtain ⟨htype, hreason⟩ := not_or.1 hsame
    exact ⟨h, hmem, hkey, not_not.1 htype, not_not.1 hreason⟩

end Sys2Proof.Machine

/-! ## The protective latch and the guest stop (R111, R122, R123, R126, R143; O54) -/

namespace Sys2Proof.Machine

/-- The block with the latch set and the zone shown PROTECTIVE, before a robot stops for the guest (R122, R126). -/
def State.latched (s : State) : State := zoneChanged s.zone (s.onMotion fun m => { m with latch := true })

theorem setLatch_moving {s : State} (h : s.motion.state = .run ∨ s.motion.state = .caution ∨
    s.motion.state = .stopping ∨ s.motion.state = .groupHold) : setLatch s = guestStopped s.latched := by
  unfold setLatch
  rcases h with h | h | h | h <;> rw [h] <;> rfl

theorem setLatch_standing {s : State} (h : s.motion.state = .idle ∨ s.motion.state = .retained ∨
    s.motion.state = .faultStop ∨ s.motion.state = .guestStop) : setLatch s = s.latched := by
  unfold setLatch
  rcases h with h | h | h | h <;> rw [h] <;> rfl

/-- What setting a clear latch shows (R122, R126). -/
theorem latched_spec {s : State} (hlatch : s.motion.latch = false) :
    s.latched.motion = { s.motion with latch := true, noticeMs := 0 } ∧ s.latched.group = s.group ∧
    (∃ es, es.length ≤ 2 ∧ .guestZone .protective (if s.motion.warning then .warning else .clear)
        (s.odo.entry.map fun e => (e.segment, e.cell)) ∈ es ∧ Brings s es s.latched) ∧
    Roomy s s.latched ∧ SameAir s s.latched ∧ (s.QueueInOrder → s.latched.QueueInOrder) ∧
    (s.hasRoom → s.QueueInOrder → ∃ q ∈ s.latched.channel.queue, q.payload = .guest s.herePair.1 s.herePair.2 2 ∧
      s.latched.channel.flight.map (·.entry) ≠ some q.entry) := by
  obtain ⟨u, hu⟩ : ∃ u, u = s.onMotion fun m => { m with latch := true } := ⟨_, rfl⟩
  have hlatched : s.latched = zoneChanged s.zone u := by rw [hu]; rfl
  have hold : s.zone = if s.motion.warning then .warning else .clear := by rw [State.zone, hlatch]; rfl
  have hnew : u.zone = .protective := by rw [hu]; rfl
  have hne : u.zone ≠ s.zone := by
    rw [hold, hnew]
    split <;> decide
  obtain ⟨hmotion, hgroup, ⟨es, hes, hshown, hbrings⟩, hroomy⟩ := zoneChanged_spec hne
  have hair : SameAir u (zoneChanged s.zone u) := zoneChanged_sameAir s.zone u
  have horder := (zoneChanged_keeps s.zone u).lawful.inOrder
  have hoffers (hroom : u.hasRoom) (hin : u.QueueInOrder) :
      ∃ q ∈ (zoneChanged s.zone u).channel.queue, q.payload = .guest u.herePair.1 u.herePair.2 2 ∧
        (zoneChanged s.zone u).channel.flight.map (·.entry) ≠ some q.entry := by
    rw [zoneChanged_eq hne, offerNotice_eq]
    obtain ⟨q, hq, hpayload, hflight⟩ := offerFrame_offers .motion Payload.isGuest
      (.guest (u.zoned s.zone).herePair.1 (u.zoned s.zone).herePair.2 (zoneCode (u.zoned s.zone).zone))
      (s := u.zoned s.zone) hroom
    refine ⟨q, hq, hpayload.trans ?_, hflight hin⟩
    rw [show (u.zoned s.zone).zone = u.zone from rfl, hnew]
    rfl
  rw [hnew, hold] at hshown
  rw [← hlatched] at hmotion hgroup hbrings hroomy hair horder hoffers
  rw [hu] at hmotion hgroup hbrings hroomy hair horder hoffers hshown
  exact ⟨hmotion, hgroup, ⟨es, hes, hshown, hbrings.station, hbrings.events, hbrings.frames⟩, hroomy,
    ⟨hair.seizeLeft, hair.response, hair.abandoned, hair.assembler, hair.symbol, hair.flight⟩, horder, hoffers⟩

/-! ### The guest stop (R111, R123) -/

/-- The block in GUEST_STOP, before its own hold (R111, R123). -/
def State.stoppedForGuest (s : State) : State := { s with
  motion := s.motion.moved .guestStop FaultSet.empty s.station.config.crawl
  group := { s.group with retained := s.group.retained && keepsRetained .guestStop }
  host := { s.host with
    events := s.withEvents [.motion s.motion.state .guestStop .guest 0 s.currentSegment FaultSet.empty] } }

/-- With the guest mark and the hold-sent flag set, before the entry of the own hold (R123, R143). -/
def State.markedForGuest (s : State) : State := { s.stoppedForGuest with
  motion := { s.stoppedForGuest.motion with holdSent := true }
  group := { s.stoppedForGuest.group with guestMark := true } }

theorem guestStopped_eq {s : State} (h : s.motion.state ≠ .guestStop) : guestStopped s =
    if s.station.config.sendHold = true ∧ s.station.config.group ≠ 0 then raiseOwnHold s.markedForGuest
    else s.stoppedForGuest := by
  have hmove : move .guestStop .guest s = s.stoppedForGuest := moveTo_eq _ _ s h (by decide)
  rw [guestStopped, hmove]
  rfl

/-- What the guest stop changes, the hold set apart (R111, R123, R125). -/
theorem guestStopped_spec {s : State} (h : s.motion.state ≠ .guestStop) :
    ((guestStopped s).motion.state = .guestStop ∧ (guestStopped s).motion.ceiling = 0 ∧
      (guestStopped s).motion.guestBlockedMs = 0 ∧ (guestStopped s).motion.guestBlockedRaised = false ∧
      (guestStopped s).motion.latch = s.motion.latch ∧ (guestStopped s).motion.lastProt = s.motion.lastProt ∧
      (guestStopped s).motion.restartMs = s.motion.restartMs ∧ (guestStopped s).motion.noticeMs = s.motion.noticeMs) ∧
    (∃ es, es.length ≤ 4 ∧ .motion s.motion.state .guestStop .guest 0 s.currentSegment FaultSet.empty ∈ es ∧
      Brings s es (guestStopped s)) ∧
    SameAir s (guestStopped s) ∧
    ((guestStopped s).segs = s.segs ∧ (guestStopped s).odo = s.odo ∧ (guestStopped s).dosing = s.dosing) ∧
    ∀ q ∈ s.channel.queue, s.hasRoom → s.QueueInOrder → q.payload.isHold = false →
      q ∈ (guestStopped s).channel.queue := by
  have hstopped : Brings s [.motion s.motion.state .guestStop .guest 0 s.currentSegment FaultSet.empty]
      s.stoppedForGuest := ⟨rfl, rfl, fun n hn => hn⟩
  rw [guestStopped_eq h]
  split
  · have hmarked : Brings s.stoppedForGuest [] s.markedForGuest := .same rfl rfl fun _ hq => hq
    obtain ⟨hmotion, -, ⟨es, hes, hbrings⟩, hair, hframes⟩ :=
      raiseOwnHold_quiet (s := s.markedForGuest) rfl rfl
    refine ⟨by rw [hmotion]; exact ⟨rfl, rfl, rfl, rfl, rfl, rfl, rfl, rfl⟩, ⟨_, ?_,
      List.mem_append_left _ (List.mem_append_left _ (List.mem_singleton_self _)),
      (hstopped.trans hmarked).trans hbrings⟩, (SameAir.of_channel (s := s) (t := s.markedForGuest) rfl).trans hair,
      by simp [State.markedForGuest, State.stoppedForGuest], hframes⟩
    simp only [List.length_append, List.length_singleton, List.length_nil]
    omega
  · exact ⟨⟨rfl, rfl, rfl, rfl, rfl, rfl, rfl, rfl⟩, ⟨_, by simp, List.mem_singleton_self _, hstopped⟩,
      .of_channel rfl, ⟨rfl, rfl, rfl⟩, fun q hq _ _ _ => hq⟩

/-- The own hold that the configuration asks for at a guest stop (R123, R143, R144). -/
theorem guestStopped_holds {s : State} (h : s.motion.state ≠ .guestStop) :
    (s.station.config.sendHold = true → s.station.config.group ≠ 0 →
      (guestStopped s).motion.holdSent = true ∧ (guestStopped s).group.guestMark = true ∧
      (s.ownHold? = none → s.group.holds.length < 8 →
        (guestStopped s).group.holds = s.group.holds ++
          [⟨s.station.config.station, .immediate, .guest, none, s.group.nextStamp⟩] ∧
        (guestStopped s).group.repeatMs = 0 ∧
        (∃ es, es.length ≤ 4 ∧ .holdAdded s.station.config.station .immediate .guest (s.group.holds.length + 1) ∈ es ∧
          Brings s es (guestStopped s)) ∧
        (s.working = true → s.hasRoom → ∃ q ∈ (guestStopped s).channel.queue,
          q.payload = .hold s.station.config.group 0 0)) ∧
      (s.ownHold? ≠ none → ∃ x ∈ (guestStopped s).group.holds,
        x.originator = s.station.config.station ∧ x.holdType = .immediate ∧ x.reason = .guest)) ∧
    ((s.station.config.sendHold = false ∨ s.station.config.group = 0) →
      (guestStopped s).motion.holdSent = s.motion.holdSent ∧ (guestStopped s).group.guestMark = s.group.guestMark ∧
      (guestStopped s).group.holds = s.group.holds) := by
  refine ⟨fun hsend hgroup => ?_, fun hnot => ?_⟩
  · rw [guestStopped_eq h, if_pos ⟨hsend, hgroup⟩]
    obtain ⟨hmotion, hmark, -⟩ := raiseOwnHold_quiet (s := s.markedForGuest) rfl rfl
    refine ⟨by rw [hmotion]; rfl, hmark, fun hown hplace => ?_, fun hown => ?_⟩
    · obtain ⟨hholds, hrepeat, ⟨es, hes, hadded, hbrings⟩, hoffers⟩ :=
        raiseOwnHold_new (s := s.markedForGuest) rfl rfl hown hplace
      have hmarked : Brings s [.motion s.motion.state .guestStop .guest 0 s.currentSegment FaultSet.empty]
          s.markedForGuest := ⟨rfl, rfl, fun n hn => hn⟩
      refine ⟨hholds, hrepeat, ⟨_, ?_, List.mem_append_right _ hadded, hmarked.trans hbrings⟩, hoffers⟩
      rw [List.length_append, List.length_singleton]
      omega
    · exact raiseOwnHold_standing (s := s.markedForGuest) rfl rfl hown
  · rw [guestStopped_eq h, if_neg]
    · exact ⟨rfl, rfl, rfl⟩
    · rintro ⟨hsend, hgroup⟩
      rcases hnot with hnot | hnot
      · rw [hsend] at hnot
        cases hnot
      · exact hgroup hnot

end Sys2Proof.Machine

/-! ## SCANNER_SAMPLE in all (R18, R111, R121 to R127, R143, R144, R168; O54) -/

namespace Sys2Proof.Machine

/-! ### No rising PROT_FIELD (R121, R124, R125) -/

/-- Whether a GUEST_BLOCKED is due after both samples, the latch not being set by them (R125). -/
theorem warned_due (s : State) (warn prot : Bool) (n : Nat) (w : Bool) :
    ((s.warned warn prot n w).protSampled prot).guestBlockedDue = true ↔
      s.motion.state = .guestStop ∧ s.motion.guestBlockedRaised = false ∧ 120000 ≤ s.motion.guestBlockedMs := by
  rw [guestBlockedDue_iff]
  by_cases hdrives : s.motion.state = .run ∨ s.motion.state = .caution
  · have hstate : (s.warned warn prot n w).motion.state = .run ∨ (s.warned warn prot n w).motion.state = .caution := by
      by_cases hw : w = s.motion.warning
      · rw [warned_same warn prot n hw]
        exact hdrives
      · rw [(warned_driving warn prot n hw hdrives).1]
        split
        · exact .inr rfl
        · exact .inl rfl
    refine ⟨fun ⟨h, _⟩ => ?_, fun ⟨h, _⟩ => ?_⟩
    · have h : (s.warned warn prot n w).motion.state = .guestStop := h
      rw [h] at hstate
      rcases hstate with h | h <;> cases h
    · rw [h] at hdrives
      rcases hdrives with h | h <;> cases h
  · obtain ⟨hrun, hcaution⟩ := not_or.1 hdrives
    obtain ⟨hmotion, -⟩ := warned_standing warn prot n w hrun hcaution
    rw [State.protSampled, hmotion]
    exact Iff.rfl

/-- Both samples with no rising PROT_FIELD and no GUEST_BLOCKED due (R121, R124). -/
theorem sampled_still {s : State} {warn prot : Bool} {n : Nat} {w : Bool} (hstill : prot = false ∨ s.motion.lastProt = true)
    (hdue : prot = true → s.motion.state = .guestStop →
      s.motion.guestBlockedRaised = true ∨ s.motion.guestBlockedMs < 120000) :
    sampleProt prot (s.warned warn prot n w) = (s.warned warn prot n w).protSampled prot := by
  cases prot with
  | false => exact sampleProt_clear _
  | true =>
    have hlast : (s.warned warn true n w).motion.lastProt = true :=
      (warned_samples s warn true n w).2.2.2.1.trans (hstill.resolve_left (by decide))
    rw [sampleProt_active, protTaken_still hlast, blockedShown_idle]
    rw [Bool.eq_false_iff, Ne, warned_due]
    rintro ⟨hguest, hraised, hms⟩
    rcases hdue rfl hguest with h | h
    · rw [hraised] at h
      cases h
    · omega

/-- A change of the warning alone (R121, R126, R127). -/
theorem sampled_warns {s : State} {warn prot : Bool} {n : Nat} {w : Bool} (hw : w ≠ s.motion.warning) {t : State}
    (ht : t = (s.warned warn prot n w).protSampled prot) :
    t.station = s.station ∧ t.segs = s.segs ∧ t.odo = s.odo ∧ t.dosing = s.dosing ∧
    t.motion.warning = w ∧ t.motion.warnCounter = n ∧ t.motion.latch = s.motion.latch ∧
    t.motion.lastProt = prot ∧ t.motion.restartMs = (if warn || prot then 0 else s.motion.restartMs) ∧
    (s.motion.latch = false → t.motion.noticeMs = 0 ∧ ∃ x ∈ t.host.events, x.event =
      .guestZone (if w then .warning else .clear) (if w then .clear else .warning)
        (s.odo.entry.map fun e => (e.segment, e.cell))) ∧
    (s.motion.latch = true → t.channel = s.channel) ∧
    (s.motion.state = .run ∨ s.motion.state = .caution →
      t.motion.state = (if w ∨ s.causePeer = true ∨ s.causeSeize = true then .caution else .run) ∧
      (t.motion.state = .caution → s.motion.state = .run →
        t.motion.ceiling = min s.motion.ceiling s.station.config.crawl)) ∧
    (s.motion.state ≠ .run → s.motion.state ≠ .caution → t.motion.state = s.motion.state) := by
  subst ht
  obtain ⟨hstation, hsegs, hodo, hdosing⟩ := warned_frame s warn prot n w
  obtain ⟨hwarning, hcounter, hlatch, -, hrestart, -, -⟩ := warned_samples s warn prot n w
  obtain ⟨⟨es, hes, hbrings, hshown⟩, -, -, -, hlatched⟩ := warned_brings s warn prot n w
  refine ⟨hstation, hsegs, hodo, hdosing, hwarning, hcounter, hlatch, rfl, ?_, fun hclear => ?_,
    fun hset => (hlatched hset).1, fun hdrives => warned_driving warn prot n hw hdrives, fun hrun hcaution => ?_⟩
  · show (if prot then 0 else (s.warned warn prot n w).motion.restartMs) = _
    rw [hrestart]
    cases warn <;> cases prot <;> rfl
  · obtain ⟨hzero, hmem⟩ := hshown hw hclear
    refine ⟨hzero, ?_⟩
    show ∃ x ∈ (s.warned warn prot n w).host.events, _
    rw [hbrings.events]
    exact mem_withEvents s (by omega) hmem
  · show (s.warned warn prot n w).motion.state = _
    rw [(warned_standing warn prot n w hrun hcaution).1]
    rfl

/-- A GUEST_BLOCKED that is due at an active PROT_FIELD that does not rise (R125, R168). -/
theorem sampled_blocked {s : State} {warn : Bool} {n : Nat} {w : Bool} (hlast : s.motion.lastProt = true)
    (hguest : s.motion.state = .guestStop) (hraised : s.motion.guestBlockedRaised = false)
    (hms : 120000 ≤ s.motion.guestBlockedMs) {t : State} (ht : t = sampleProt true (s.warned warn true n w)) :
    t.station = s.station ∧ t.segs = s.segs ∧ t.odo = s.odo ∧ t.dosing = s.dosing ∧ t.group = s.group ∧
    t.motion = { s.motion with
      warnLine := warn, protLine := true, warnCounter := n, warning := w, restartMs := 0,
      guestBlockedRaised := true, noticeMs := t.motion.noticeMs } ∧
    (w = s.motion.warning → t.motion.noticeMs = s.motion.noticeMs) ∧
    (s.mayRaise → s.Raises 1 (guestSeconds s.motion.guestBlockedMs) t) := by
  obtain ⟨hstation, hsegs, hodo, hdosing⟩ := warned_frame s warn true n w
  obtain ⟨hmotion, hgroup, hnotice⟩ := warned_standing warn true n w (s := s) (by rw [hguest]; decide)
    (by rw [hguest]; decide)
  have hprot : (s.warned warn true n w).motion.lastProt = true := by rw [hmotion]; exact hlast
  obtain ⟨-, hroomy, -⟩ := warned_brings s warn true n w
  obtain ⟨u, hu⟩ : ∃ u, u = (s.warned warn true n w).protSampled true := ⟨_, rfl⟩
  have hdue : u.guestBlockedDue = true := by
    rw [hu, warned_due]
    exact ⟨hguest, hraised, hms⟩
  rw [sampleProt_active, protTaken_still hprot, ← hu] at ht
  obtain ⟨htmotion, htstation, htsegs, htodo, htdosing, htgroup, -, -, -, hshown⟩ := blockedShown_spec u
  obtain ⟨hset, hraises⟩ := hshown hdue
  rw [hset] at htmotion
  rw [← ht] at htmotion htstation htsegs htodo htdosing htgroup hraises
  have humotion : u.motion = { s.motion with
      warnLine := warn, protLine := true, warnCounter := n, warning := w, lastProt := true, restartMs := 0
      noticeMs := (s.warned warn true n w).motion.noticeMs } := by
    rw [hu, State.protSampled, hmotion]
    rfl
  refine ⟨by rw [htstation, hu]; exact hstation, by rw [htsegs, hu]; exact hsegs, by rw [htodo, hu]; exact hodo,
    by rw [htdosing, hu]; exact hdosing, by rw [htgroup, hu]; exact hgroup, ?_, fun hw => ?_,
    fun hmay => ?_⟩
  · rw [htmotion, humotion]
    simp only [hlast]
  · rw [htmotion, humotion]
    exact hnotice hw
  · obtain ⟨hnow, hcallout⟩ := raisesNow_of_mayRaise (u := u) hmay (by rw [hu]; exact hstation) (by rw [hu]; exact hroomy)
    have hraised := (hraises hnow).of_same hcallout (by rw [hu]; exact hodo)
    rwa [humotion] at hraised

/-! ### A rising PROT_FIELD (R18, R122) -/

/-- The block with a rising PROT_FIELD sampled and the seize asked for (R18, R122). -/
def State.seizing (s : State) : State := requestSeize (s.protSampled true)

/-- What asking for the seize leaves as it was (R18). -/
theorem seizing_spec (s : State) :
    s.seizing.motion = { s.motion with lastProt := true, restartMs := 0 } ∧ s.seizing.group = s.group ∧
    s.seizing.segs = s.segs ∧ s.seizing.odo = s.odo ∧ s.seizing.dosing = s.dosing ∧ s.seizing.callout = s.callout ∧
    s.seizing.claims = s.claims ∧ s.seizing.channel.queue = s.channel.queue ∧ Brings s [] s.seizing ∧
    (s.QueueInOrder → s.seizing.QueueInOrder) := by
  obtain ⟨-, -, left, response, abandoned, hchannel⟩ := requestSeize_spec (s.protSampled true)
  have hqueue : s.seizing.channel.queue = s.channel.queue := by
    rw [State.seizing, hchannel]
    rfl
  refine ⟨by simp [State.seizing, State.protSampled], by simp [State.seizing, State.protSampled],
    by simp [State.seizing, State.protSampled], by simp [State.seizing, State.protSampled],
    by simp [State.seizing, State.protSampled], by simp [State.seizing, State.protSampled],
    by simp [State.seizing, State.protSampled], hqueue,
    .same (by simp [State.seizing, State.protSampled]) (by simp [State.seizing, State.protSampled]) ?_,
    fun h => (requestSeize_keeps (s.protSampled true)).lawful.inOrder h⟩
  rw [hqueue]
  exact fun q hq => hq

/-- What is keyed from a rising PROT_FIELD on, through operations that leave it (R18, R19; log 26). -/
theorem seizing_air {s v t : State} (hstation : v.station = s.station) (hbefore : SameAir s v)
    (hafter : SameAir v.seizing t) :
    (s.station.state = .active → t.channel.seizeLeft = 48 ∧
      (s.channel.assembler = .response → s.channel.symbol < 36 → t.channel.response = none ∧
        (∀ x, s.channel.response = some x → t.channel.abandoned = some ⟨x, s.channel.symbol⟩) ∧
        (s.channel.response = none → t.channel.abandoned = s.channel.abandoned)) ∧
      (s.channel.assembler = .response → 36 ≤ s.channel.symbol →
        t.channel.response = s.channel.response ∧ t.channel.abandoned = s.channel.abandoned) ∧
      (s.channel.assembler ≠ .response → t.channel.response = none ∧ t.channel.abandoned = s.channel.abandoned)) ∧
    (s.station.state ≠ .active → t.channel.seizeLeft = s.channel.seizeLeft) := by
  obtain ⟨hactive, helse, -⟩ := requestSeize_spec (v.protSampled true)
  change v.station.state = .active → v.seizing.channel.seizeLeft = 48 ∧
    (v.channel.assembler = .response → v.channel.symbol < 36 → v.seizing.channel.response = none ∧
      (∀ x, v.channel.response = some x → v.seizing.channel.abandoned = some ⟨x, v.channel.symbol⟩) ∧
      (v.channel.response = none → v.seizing.channel.abandoned = v.channel.abandoned)) ∧
    (v.channel.assembler = .response → 36 ≤ v.channel.symbol →
      v.seizing.channel.response = v.channel.response ∧ v.seizing.channel.abandoned = v.channel.abandoned) ∧
    (v.channel.assembler ≠ .response →
      v.seizing.channel.response = none ∧ v.seizing.channel.abandoned = v.channel.abandoned) at hactive
  change v.station.state ≠ .active → v.seizing.channel.seizeLeft = v.channel.seizeLeft at helse
  rw [hstation, hbefore.assembler, hbefore.symbol, hbefore.response, hbefore.abandoned, ← hafter.seizeLeft,
    ← hafter.response, ← hafter.abandoned] at hactive
  rw [hstation, hbefore.seizeLeft, ← hafter.seizeLeft] at helse
  exact ⟨hactive, helse⟩

end Sys2Proof.Machine

/-! ## A rising PROT_FIELD, and SCANNER_SAMPLE in all (R111, R122, R123, R126; O54) -/

namespace Sys2Proof.Machine

/-! ### The chain of a rising PROT_FIELD -/

/-- Both samples with a rising PROT_FIELD, before a GUEST_BLOCKED that is due is raised (R122). -/
theorem rises_eq {s : State} (warn : Bool) (n : Nat) (w : Bool) (hlast : s.motion.lastProt = false) :
    (s.warned warn true n w).protTaken true = if s.motion.latch then (s.warned warn true n w).seizing
      else setLatch (s.warned warn true n w).seizing := by
  obtain ⟨-, -, hlatch, hprot, -⟩ := warned_samples s warn true n w
  rw [protTaken_rising (hprot.trans hlast), hlatch]
  rfl

/-- A robot that moves or is held is so still after the WARN_FIELD sample, as it was without a change of the warning. -/
theorem warned_moving {s : State} (warn prot : Bool) (n : Nat) (w : Bool) (hmoving : s.motion.state = .run ∨
      s.motion.state = .caution ∨ s.motion.state = .stopping ∨ s.motion.state = .groupHold) :
    ((s.warned warn prot n w).motion.state = .run ∨ (s.warned warn prot n w).motion.state = .caution ∨
      (s.warned warn prot n w).motion.state = .stopping ∨ (s.warned warn prot n w).motion.state = .groupHold) ∧
    (w = s.motion.warning → (s.warned warn prot n w).motion.state = s.motion.state) := by
  by_cases hw : w = s.motion.warning
  · rw [warned_same warn prot n hw]
    exact ⟨hmoving, fun _ => rfl⟩
  · refine ⟨?_, fun h => absurd h hw⟩
    by_cases hdrives : s.motion.state = .run ∨ s.motion.state = .caution
    · rw [(warned_driving warn prot n hw hdrives).1]
      split
      · exact .inr (.inl rfl)
      · exact .inl rfl
    · obtain ⟨hrun, hcaution⟩ := not_or.1 hdrives
      rw [(warned_standing warn prot n w hrun hcaution).1]
      exact hmoving

/-- From the samples to the zone shown PROTECTIVE: what setting a clear latch does before a robot stops (R122, R126). -/
theorem rises_latched {s : State} (warn : Bool) (n : Nat) (w : Bool) (hlatch : s.motion.latch = false) {z : State}
    (hz : z = (s.warned warn true n w).seizing.latched) :
    z.motion = { (s.warned warn true n w).motion with lastProt := true, restartMs := 0, latch := true, noticeMs := 0 } ∧
    z.group = (s.warned warn true n w).group ∧ z.segs = s.segs ∧ z.odo = s.odo ∧ z.dosing = s.dosing ∧
    (∃ es, es.length ≤ 6 ∧ .guestZone .protective (if w then .warning else .clear)
        (s.odo.entry.map fun e => (e.segment, e.cell)) ∈ es ∧ Brings s es z) ∧
    SameAir (s.warned warn true n w).seizing z ∧
    (s.station.state ≠ .offline → s.channel.queue.length < 6 → z.hasRoom ∧
      (s.QueueInOrder → z.QueueInOrder ∧ ∃ q ∈ z.channel.queue, q.payload = .guest s.herePair.1 s.herePair.2 2 ∧
        z.channel.flight.map (·.entry) ≠ some q.entry)) := by
  subst hz
  obtain ⟨hstation, hsegs, hodo, hdosing⟩ := warned_frame s warn true n w
  obtain ⟨hwarning, -, hvlatch, -, -, -, -⟩ := warned_samples s warn true n w
  obtain ⟨⟨es, hes, hwarned, -⟩, hvroomy, -, hvorder, -⟩ := warned_brings s warn true n w
  obtain ⟨v, hv⟩ : ∃ v, v = s.warned warn true n w := ⟨_, rfl⟩
  rw [← hv] at hstation hsegs hodo hdosing hwarning hvlatch hwarned hvroomy hvorder ⊢
  obtain ⟨hmotion, hgroup, hesegs, heodo, hedosing, -, -, hqueue, hseized, heorder⟩ := seizing_spec v
  have helatch : v.seizing.motion.latch = false := by rw [hmotion]; exact hvlatch.trans hlatch
  obtain ⟨hzmotion, hzgroup, ⟨es', hes', hshown, hlatched⟩, hzroomy, hzair, hzorder, hnotice⟩ := latched_spec helatch
  have hzframe : v.seizing.latched.segs = v.seizing.segs ∧ v.seizing.latched.odo = v.seizing.odo ∧
      v.seizing.latched.dosing = v.seizing.dosing := by simp [State.latched]
  rw [hmotion] at hzmotion hshown
  rw [hwarning, heodo, hodo] at hshown
  have hall := (hwarned.trans hseized).trans hlatched
  refine ⟨hzmotion, hzgroup.trans hgroup, hzframe.1.trans (hesegs.trans hsegs), hzframe.2.1.trans (heodo.trans hodo),
    hzframe.2.2.trans (hedosing.trans hdosing), ⟨_, ?_, List.mem_append_right _ hshown, hall⟩, hzair,
    fun hon hroom => ?_⟩
  · simp only [List.length_append, List.length_nil]
    omega
  · obtain ⟨-, -, hvlength⟩ := hvroomy ⟨hon, by omega⟩
    have heroom : v.seizing.hasRoom := ⟨by rw [hseized.station, hstation]; exact hon, by rw [hqueue]; omega⟩
    obtain ⟨-, -, hzlength⟩ := hzroomy heroom
    rw [hqueue] at hzlength
    refine ⟨⟨by rw [hall.station]; exact hon, by omega⟩, fun horder => ⟨hzorder (heorder (hvorder horder)), ?_⟩⟩
    have hherePair : v.seizing.herePair = s.herePair := by rw [State.herePair, heodo, hodo]; rfl
    rw [← hherePair]
    exact hnotice heroom (heorder (hvorder horder))

/-! ### The guest stop of a robot that moves (R111, R122, R123, R143) -/

/-- A rising PROT_FIELD with a clear latch at a robot that moves or is held. -/
theorem rises_moving {s : State} (warn : Bool) (n : Nat) (w : Bool) (hlast : s.motion.lastProt = false)
    (hlatch : s.motion.latch = false) (hmoving : s.motion.state = .run ∨ s.motion.state = .caution ∨
      s.motion.state = .stopping ∨ s.motion.state = .groupHold) {t : State}
    (ht : t = sampleProt true (s.warned warn true n w)) :
    ∃ z, z = (s.warned warn true n w).seizing.latched ∧ z.motion.state ≠ .guestStop ∧ t = guestStopped z ∧
      (w = s.motion.warning → z.motion.state = s.motion.state) := by
  obtain ⟨z, hz⟩ : ∃ z, z = (s.warned warn true n w).seizing.latched := ⟨_, rfl⟩
  obtain ⟨hvmoving, hsame⟩ := warned_moving warn true n w hmoving
  obtain ⟨hmotion, -⟩ := seizing_spec (s.warned warn true n w)
  obtain ⟨hzmotion, -⟩ := rises_latched warn n w hlatch hz
  have hzstate : z.motion.state = (s.warned warn true n w).motion.state := by rw [hzmotion]
  have hne : z.motion.state ≠ .guestStop := by
    rw [hzstate]
    rcases hvmoving with h | h | h | h <;> rw [h] <;> decide
  refine ⟨z, hz, hne, ?_, fun hw => hzstate.trans (hsame hw)⟩
  rw [sampleProt_active, rises_eq warn n w hlast, hlatch, if_neg Bool.false_ne_true,
    setLatch_moving (by rw [hmotion]; exact hvmoving), ← hz, blockedShown_idle] at ht
  · exact ht
  · obtain ⟨⟨-, -, hms, -⟩, -⟩ := guestStopped_spec hne
    rw [Bool.eq_false_iff, Ne, guestBlockedDue_iff, hms]
    rintro ⟨-, -, h⟩
    omega

/-- A rising PROT_FIELD with a clear latch at a robot that stands (R122). -/
theorem rises_standing {s : State} (warn : Bool) (n : Nat) (w : Bool) (hlast : s.motion.lastProt = false)
    (hlatch : s.motion.latch = false) (hstands : s.motion.state = .idle ∨ s.motion.state = .retained ∨
      s.motion.state = .faultStop ∨ s.motion.state = .guestStop) {t : State}
    (ht : t = sampleProt true (s.warned warn true n w)) :
    t = (s.warned warn true n w).seizing.latched.blockedShown := by
  obtain ⟨hmotion, -⟩ := warned_standing warn true n w (s := s) (by rcases hstands with h | h | h | h <;> rw [h] <;> decide)
    (by rcases hstands with h | h | h | h <;> rw [h] <;> decide)
  obtain ⟨hseizing, -⟩ := seizing_spec (s.warned warn true n w)
  rw [sampleProt_active, rises_eq warn n w hlast, hlatch, if_neg Bool.false_ne_true,
    setLatch_standing (by rw [hseizing, hmotion]; exact hstands)] at ht
  exact ht

end Sys2Proof.Machine

/-! ## SCANNER_SAMPLE in all (R18, R111, R121 to R127, R143, R144, R168; O54) -/

namespace Sys2Proof.Machine

/-- What every rising PROT_FIELD leaves, whatever the latch and the motion state were (R18, R122). -/
theorem rises_always {s : State} (warn : Bool) (n : Nat) (w : Bool) (hlast : s.motion.lastProt = false) {t : State}
    (ht : t = sampleProt true (s.warned warn true n w)) :
    (t.station = s.station ∧ t.segs = s.segs ∧ t.odo = s.odo ∧ t.dosing = s.dosing) ∧
    (t.motion.latch = true ∧ t.motion.lastProt = true ∧ t.motion.restartMs = 0) ∧
    SameAir (s.warned warn true n w).seizing t := by
  obtain ⟨hstation, hsegs, hodo, hdosing⟩ := warned_frame s warn true n w
  obtain ⟨-, -, hvlatch, -, -, -, -⟩ := warned_samples s warn true n w
  obtain ⟨hmotion, -, hesegs, heodo, hedosing, -, -, -, hseized, -⟩ := seizing_spec (s.warned warn true n w)
  cases hlatch : s.motion.latch with
  | true =>
    rw [sampleProt_active, rises_eq warn n w hlast, hlatch, if_pos rfl] at ht
    obtain ⟨htmotion, htstation, htsegs, htodo, htdosing, -, -, htair, -⟩ :=
      blockedShown_spec (s.warned warn true n w).seizing
    rw [← ht] at htmotion htstation htsegs htodo htdosing htair
    refine ⟨⟨htstation.trans (hseized.station.trans hstation), htsegs.trans (hesegs.trans hsegs),
      htodo.trans (heodo.trans hodo), htdosing.trans (hedosing.trans hdosing)⟩, ?_, htair⟩
    rw [htmotion, hmotion]
    exact ⟨hvlatch.trans hlatch, rfl, rfl⟩
  | false =>
    obtain ⟨z, hz⟩ : ∃ z, z = (s.warned warn true n w).seizing.latched := ⟨_, rfl⟩
    obtain ⟨hzmotion, -, hzsegs, hzodo, hzdosing, ⟨es, -, -, hzbrings⟩, hzair, -⟩ := rises_latched warn n w hlatch hz
    by_cases hmoving : s.motion.state = .run ∨ s.motion.state = .caution ∨ s.motion.state = .stopping ∨
        s.motion.state = .groupHold
    · obtain ⟨z', hz', hne, htz, -⟩ := rises_moving warn n w hlast hlatch hmoving ht
      rw [← hz] at hz'
      subst hz'
      obtain ⟨⟨-, -, -, -, htlatch, htprot, htrestart, -⟩, ⟨es', -, -, htbrings⟩, htair, ⟨htsegs, htodo, htdosing⟩, -⟩ :=
        guestStopped_spec hne
      rw [← htz] at htlatch htprot htrestart htbrings htair htsegs htodo htdosing
      rw [hzmotion] at htlatch htprot htrestart
      exact ⟨⟨htbrings.station.trans hzbrings.station, htsegs.trans hzsegs, htodo.trans hzodo, htdosing.trans hzdosing⟩,
        ⟨htlatch, htprot, htrestart⟩, hzair.trans htair⟩
    · have hstands : s.motion.state = .idle ∨ s.motion.state = .retained ∨ s.motion.state = .faultStop ∨
          s.motion.state = .guestStop := by
        cases h : s.motion.state <;> simp_all
      have htz := rises_standing warn n w hlast hlatch hstands ht
      rw [← hz] at htz
      obtain ⟨htmotion, htstation, htsegs, htodo, htdosing, -, -, htair, -⟩ := blockedShown_spec z
      rw [← htz] at htmotion htstation htsegs htodo htdosing htair
      refine ⟨⟨htstation.trans hzbrings.station, htsegs.trans hzsegs, htodo.trans hzodo, htdosing.trans hzdosing⟩, ?_,
        hzair.trans htair⟩
      rw [htmotion, hzmotion]
      exact ⟨rfl, rfl, rfl⟩

/-- A GUEST_BLOCKED that is due as PROT_FIELD rises again in a guest stop (R125, R168). -/
theorem rises_blocked {s : State} (warn : Bool) (n : Nat) (w : Bool) (hlast : s.motion.lastProt = false)
    (hguest : s.motion.state = .guestStop) (hlatch : s.motion.latch = true)
    (hraised : s.motion.guestBlockedRaised = false) (hms : 120000 ≤ s.motion.guestBlockedMs) {t : State}
    (ht : t = sampleProt true (s.warned warn true n w)) :
    t.motion.guestBlockedRaised = true ∧ (s.mayRaise → s.Raises 1 (guestSeconds s.motion.guestBlockedMs) t) := by
  obtain ⟨hstation, -, hodo, -⟩ := warned_frame s warn true n w
  obtain ⟨hvmotion, -⟩ := warned_standing warn true n w (s := s) (by rw [hguest]; decide) (by rw [hguest]; decide)
  obtain ⟨-, hroomy, -⟩ := warned_brings s warn true n w
  obtain ⟨e, he⟩ : ∃ e, e = (s.warned warn true n w).seizing := ⟨_, rfl⟩
  obtain ⟨hmotion, -, -, heodo, -, hcallout, hclaims, hqueue, hseized, -⟩ := seizing_spec (s.warned warn true n w)
  rw [← he] at hmotion heodo hcallout hclaims hqueue hseized
  rw [hvmotion] at hmotion
  rw [sampleProt_active, rises_eq warn n w hlast, hlatch, if_pos rfl, ← he] at ht
  have hdue : e.guestBlockedDue = true := by
    rw [guestBlockedDue_iff, hmotion]
    exact ⟨hguest, hraised, hms⟩
  obtain ⟨hset, hraises⟩ := (blockedShown_spec e).2.2.2.2.2.2.2.2.2 hdue
  rw [← ht] at hset hraises
  refine ⟨hset, fun hmay => ?_⟩
  have heroomy : Roomy s e := by
    intro hroom
    rw [hcallout, hclaims, hqueue]
    exact hroomy hroom
  obtain ⟨hnow, hecallout⟩ := raisesNow_of_mayRaise hmay (hseized.station.trans hstation) heroomy
  have hraised := (hraises hnow).of_same hecallout (heodo.trans hodo)
  rwa [hmotion] at hraised

/-- What the zone shown PROTECTIVE leaves after the guest stop, or where the robot stood (R122, R126). -/
theorem rises_shown {s : State} (warn : Bool) (n : Nat) (w : Bool) (hlast : s.motion.lastProt = false)
    (hlatch : s.motion.latch = false) {t : State} (ht : t = sampleProt true (s.warned warn true n w)) :
    t.motion.noticeMs = 0 ∧
    (∃ x ∈ t.host.events, x.event = .guestZone .protective (if w then .warning else .clear)
      (s.odo.entry.map fun e => (e.segment, e.cell))) ∧
    (s.station.state ≠ .offline → s.channel.queue.length < 6 → s.QueueInOrder → ∃ q ∈ t.channel.queue,
      q.payload = .guest s.herePair.1 s.herePair.2 2 ∧ t.channel.flight.map (·.entry) ≠ some q.entry) := by
  obtain ⟨z, hz⟩ : ∃ z, z = (s.warned warn true n w).seizing.latched := ⟨_, rfl⟩
  obtain ⟨hzmotion, -, -, -, -, ⟨es, hes, hshown, hzbrings⟩, -, hframe⟩ := rises_latched warn n w hlatch hz
  have hflying (u : State) (hair : SameAir z u) {k : Nat} (hk : z.channel.flight.map (·.entry) ≠ some k) :
      u.channel.flight.map (·.entry) ≠ some k := by
    intro h
    obtain ⟨f, hf, hentry⟩ := Option.map_eq_some_iff.1 h
    exact hk (Option.map_eq_some_iff.2 ⟨f, hair.flight f hf, hentry⟩)
  by_cases hmoving : s.motion.state = .run ∨ s.motion.state = .caution ∨ s.motion.state = .stopping ∨
      s.motion.state = .groupHold
  · obtain ⟨z', hz', hne, htz, -⟩ := rises_moving warn n w hlast hlatch hmoving ht
    rw [← hz] at hz'
    subst hz'
    obtain ⟨⟨-, -, -, -, -, -, -, hnotice⟩, ⟨es', hes', -, htbrings⟩, htair, -, hleaves⟩ := guestStopped_spec hne
    rw [← htz] at hnotice htbrings htair hleaves
    refine ⟨by rw [hnotice, hzmotion], ?_, fun hon hroom horder => ?_⟩
    · rw [(hzbrings.trans htbrings).events]
      exact mem_withEvents s (by rw [List.length_append]; omega) (List.mem_append_left _ hshown)
    · obtain ⟨hzroom, hnoticed⟩ := hframe hon hroom
      obtain ⟨hzorder, q, hq, hpayload, hflight⟩ := hnoticed horder
      exact ⟨q, hleaves q hq hzroom hzorder (by rw [hpayload]; rfl), hpayload, hflying t htair hflight⟩
  · have hstands : s.motion.state = .idle ∨ s.motion.state = .retained ∨ s.motion.state = .faultStop ∨
        s.motion.state = .guestStop := by
      cases h : s.motion.state <;> simp_all
    have htz := rises_standing warn n w hlast hlatch hstands ht
    rw [← hz] at htz
    obtain ⟨htmotion, -, -, -, -, -, ⟨es', hes', htbrings⟩, htair, hleaves, -⟩ := blockedShown_spec z
    rw [← htz] at htmotion htbrings htair hleaves
    refine ⟨by rw [htmotion, hzmotion], ?_, fun hon hroom horder => ?_⟩
    · rw [(hzbrings.trans htbrings).events]
      exact mem_withEvents s (by rw [List.length_append]; omega) (List.mem_append_left _ hshown)
    · obtain ⟨hzroom, hnoticed⟩ := hframe hon hroom
      obtain ⟨hzorder, q, hq, hpayload, hflight⟩ := hnoticed horder
      exact ⟨q, hleaves q hq hzroom, hpayload, hflying t htair hflight⟩

/-- The guest stop of a robot that moves or is held, and its own hold (R111, R122, R123, R143, R144). -/
theorem rises_stops {s : State} (warn : Bool) (n : Nat) (w : Bool) (hlast : s.motion.lastProt = false)
    (hlatch : s.motion.latch = false) (hmoving : s.motion.state = .run ∨ s.motion.state = .caution ∨
      s.motion.state = .stopping ∨ s.motion.state = .groupHold) {t : State}
    (ht : t = sampleProt true (s.warned warn true n w)) :
    t.motion.state = .guestStop ∧ t.motion.ceiling = 0 ∧ t.permit = false ∧ t.motion.guestBlockedMs = 0 ∧
    t.motion.guestBlockedRaised = false ∧
    (w = s.motion.warning → ∃ x ∈ t.host.events,
      x.event = .motion s.motion.state .guestStop .guest 0 s.currentSegment FaultSet.empty) ∧
    (s.station.config.sendHold = true → s.station.config.group ≠ 0 →
      t.motion.holdSent = true ∧ t.group.guestMark = true ∧
      (s.ownHold? = none → s.group.holds.length < 8 →
        t.group.holds = s.group.holds ++
          [⟨s.station.config.station, .immediate, .guest, none, s.group.nextStamp⟩] ∧
        t.group.repeatMs = 0 ∧
        (∃ x ∈ t.host.events, x.event =
          .holdAdded s.station.config.station .immediate .guest (s.group.holds.length + 1)) ∧
        (s.station.state = .active → s.station.leavePending = false → s.channel.queue.length < 6 →
          ∃ q ∈ t.channel.queue, q.payload = .hold s.station.config.group 0 0)) ∧
      (s.ownHold? ≠ none → ∃ h ∈ t.group.holds,
        h.originator = s.station.config.station ∧ h.holdType = .immediate ∧ h.reason = .guest)) ∧
    ((s.station.config.sendHold = false ∨ s.station.config.group = 0) →
      t.motion.holdSent = s.motion.holdSent ∧ t.group.guestMark = s.group.guestMark ∧
      t.group.holds = s.group.holds) := by
  obtain ⟨z, hz, hne, htz, hsame⟩ := rises_moving warn n w hlast hlatch hmoving ht
  obtain ⟨-, -, -, -, -, hvsent, hvgroup⟩ := warned_samples s warn true n w
  obtain ⟨hzmotion, hzgroup, -, hzodo, -, ⟨es, hes, -, hzbrings⟩, -, hframe⟩ := rises_latched warn n w hlatch hz
  obtain ⟨⟨hstate, hceiling, hms, hraised, -⟩, ⟨es', hes', hmoved, htbrings⟩, -⟩ := guestStopped_spec hne
  obtain ⟨hholds, hnone⟩ := guestStopped_holds hne
  rw [hvgroup] at hzgroup
  have hown : z.ownHold? = s.ownHold? := by simp only [State.ownHold?, State.cfg, hzgroup, hzbrings.station]
  have hworking : z.working = s.working := by simp only [State.working, hzbrings.station]
  rw [← htz] at hstate hceiling hms hraised htbrings hholds hnone
  rw [hzbrings.station, hown, hworking, hzgroup] at hholds
  rw [hzbrings.station, hzgroup, show z.motion.holdSent = s.motion.holdSent by rw [hzmotion]; exact hvsent] at hnone
  refine ⟨hstate, hceiling, permit_standing (by rw [hstate]; decide) (by rw [hstate]; decide) (by rw [hstate]; decide),
    hms, hraised, fun hw => ?_, fun hsend hgroup => ?_, hnone⟩
  · rw [(hzbrings.trans htbrings).events]
    refine mem_withEvents s (by rw [List.length_append]; omega) (List.mem_append_right _ ?_)
    have hcurrent : z.currentSegment = s.currentSegment := by simp only [State.currentSegment, hzodo]
    rw [← hsame hw, ← hcurrent]
    exact hmoved
  · obtain ⟨hsent, hmark, hnew, hstood⟩ := hholds hsend hgroup
    refine ⟨hsent, hmark, fun hfree hplace => ?_, hstood⟩
    obtain ⟨hentry, hrepeat, ⟨es'', hes'', hadded, hbrings⟩, hoffers⟩ := hnew hfree hplace
    refine ⟨hentry, hrepeat, ?_, fun hactive hleave hroom => ?_⟩
    · rw [(hzbrings.trans hbrings).events]
      exact mem_withEvents s (by rw [List.length_append]; omega) (List.mem_append_right _ hadded)
    · exact hoffers ((working_iff s).2 ⟨hactive, hleave⟩) (hframe (by rw [hactive]; decide) hroom).1

/-- Settles O54. -/
theorem scannerSamples : Obligations.ScannerSamples := by
  intro warn prot s
  refine ⟨fun hrobot => ?_, fun hrobot n w hn hw => ?_⟩
  · show execScannerSample warn prot s = _
    exact if_neg (by simp [hrobot])
  · have hexec := exec_scannerSample warn prot hrobot
    rw [sampleWarn_eq hn hw] at hexec
    refine ⟨fun hsame hstill hdue => ?_, fun hchange hstill hdue => ?_, fun hprot hlast hguest hraised hms => ?_,
      fun hprot hlast => ?_⟩
    · rw [hexec, sampled_still hstill hdue, warned_same warn prot n hsame, State.protSampled, State.warnSampled, hsame]
      cases warn <;> cases prot <;> rfl
    · rw [sampled_still hstill hdue] at hexec
      exact ⟨_, hexec, sampled_warns hchange rfl⟩
    · subst hprot
      obtain ⟨h1, h2, h3, h4, h5, h6, h7, h8⟩ := sampled_blocked (warn := warn) (n := n) (w := w) hlast hguest hraised hms rfl
      exact ⟨_, guestSeconds s.motion.guestBlockedMs, hexec, h1, h2, h3, h4, h5, h6, h7, guestSeconds_eq, h8⟩
    · subst hprot
      obtain ⟨t, ht⟩ : ∃ t, t = sampleProt true (s.warned warn true n w) := ⟨_, rfl⟩
      rw [← ht] at hexec
      obtain ⟨⟨hstation, hsegs, hodo, hdosing⟩, ⟨htlatch, htprot, htrestart⟩, hair⟩ := rises_always warn n w hlast ht
      obtain ⟨hactive, helse⟩ := seizing_air (warned_frame s warn true n w).1 (warned_brings s warn true n w).2.2.1 hair
      refine ⟨t, hexec, hstation, hsegs, hodo, hdosing, htlatch, if_pos htlatch, htprot, htrestart, hactive, helse,
        fun hguest hlatch hraised hms => ?_, fun hlatch => ?_⟩
      · obtain ⟨hset, hraises⟩ := rises_blocked warn n w hlast hguest hlatch hraised hms ht
        exact ⟨hset, _, guestSeconds_eq, hraises⟩
      · obtain ⟨hnotice, hzone, hframe⟩ := rises_shown warn n w hlast hlatch ht
        refine ⟨hnotice, hzone, hframe, fun hmoving => rises_stops warn n w hlast hlatch hmoving ht, fun hstands => ?_⟩
        have hstands' : s.motion.state = .idle ∨ s.motion.state = .retained ∨ s.motion.state = .faultStop ∨
            s.motion.state = .guestStop := by tauto
        have htz := rises_standing warn n w hlast hlatch hstands' ht
        obtain ⟨hzmotion, hzgroup, -⟩ := rises_latched warn n w hlatch (s := s) rfl
        obtain ⟨htmotion, -, -, -, -, htgroup, -⟩ := blockedShown_spec (s.warned warn true n w).seizing.latched
        obtain ⟨hvmotion, hvgroup, -⟩ := warned_standing warn true n w (s := s)
          (by rcases hstands with h | h | h <;> rw [h] <;> decide) (by rcases hstands with h | h | h <;> rw [h] <;> decide)
        rw [← htz] at htmotion htgroup
        rw [htmotion, hzmotion, hvmotion]
        exact ⟨rfl, rfl, htgroup.trans (hzgroup.trans hvgroup)⟩

end Sys2Proof.Machine

/-! ## LEAVE in ACTIVE: the route and the own hold end (R31, R91, R143, R149; O23) -/

namespace Sys2Proof.Machine

/-! ### The own hold where the robot stands and offers no HOLD (R143, R144) -/

/-- The motion state is one in which the hold set changes nothing (R147, R148). -/
def State.unheld (s : State) : Prop := s.motion.state = .idle ∨ s.motion.state = .guestStop

theorem offerHold_silent {s : State} (h : s.working = false) : offerHold s = s := by
  unfold offerHold
  split
  · rfl
  · rw [if_neg (by simp [h])]

theorem changeHold_unheld {s : State} (hstate : s.unheld) (h : HoldEntry) (t : HoldType) (r : HoldReason)
    (expiry : Option Nat) : changeHold h t r expiry s = s.reheld h t r expiry := by
  have hsame : applyHold (s.reheld h t r expiry) = s.reheld h t r expiry :=
    applyHold_unmoved (hstate.elim .inl fun h => .inr (.inl h))
  rw [changeHold_eq, hsame, ite_self]

theorem holdsEmptied_unheld {s : State} (hstate : s.unheld) : holdsEmptied s = s := by
  rcases hstate with h | h <;> simp only [holdsEmptied, h]

theorem dropHold_marks (o : Nat) (cause : HoldRemoval) (s : State) :
    (dropHold o cause s).group.hostMark = s.group.hostMark := by
  cases hh : s.group.holds.find? (·.originator == o) with
  | none => rw [dropHold, hh]
  | some h => rw [dropHold_eq hh]

theorem removeHold_unheld {s : State} (hstate : s.unheld) (o : Nat) (cause : HoldRemoval) :
    removeHold o cause s = { s with
      group := (removeHold o cause s).group, host := { s.host with events := (removeHold o cause s).host.events } } ∧
    (removeHold o cause s).group.hostMark = s.group.hostMark := by
  obtain ⟨hshape, -⟩ := dropHold_brings o cause s
  have hunheld : (dropHold o cause s).unheld := by rw [State.unheld, hshape]; exact hstate
  unfold removeHold
  split
  · dsimp only
    rw [holdsEmptied_unheld hunheld, ite_self]
    exact ⟨hshape, dropHold_marks o cause s⟩
  · exact ⟨rfl, rfl⟩

/-- A mark of the own hold cleared where no HOLD is offered: a RESUME at most is queued, with no mark left (R143, R146). -/
theorem lowerOwnHold_unheld {s : State} (send : Bool) (hstate : s.unheld) (hsilent : s.working = false) :
    (lowerOwnHold send s).motion = s.motion ∧ (lowerOwnHold send s).group.hostMark = s.group.hostMark ∧
      Takes (if s.group.ownValues = none then 1 else 0) s (lowerOwnHold send s) ∧ Roomy s (lowerOwnHold send s) := by
  have hstays (u : State) (hchannel : u.channel = s.channel) (hclaims : u.claims = s.claims)
      (hcallout : u.callout = s.callout) : Roomy s u := fun _ => ⟨hcallout, hclaims, by rw [hchannel]; omega⟩
  cases hvalues : s.group.ownValues with
  | some x =>
    obtain ⟨t, r⟩ := x
    have hchanged (h : HoldEntry) : offerHold (changeHold h t r none s) = s.reheld h t r none := by
      rw [changeHold_unheld hstate]
      exact offerHold_silent hsilent
    have hreheld (h : HoldEntry) : Takes 0 s (s.reheld h t r none) := .same rfl rfl rfl rfl
    rw [lowerOwnHold, hvalues]
    dsimp only
    split
    · exact ⟨rfl, rfl, (Takes.refl s).mono (Nat.zero_le _), hstays s rfl rfl rfl⟩
    · split
      · rw [hchanged]
        exact ⟨rfl, rfl, (hreheld _).mono (Nat.zero_le _), hstays _ rfl rfl rfl⟩
      · exact ⟨rfl, rfl, (Takes.refl s).mono (Nat.zero_le _), hstays s rfl rfl rfl⟩
  | none =>
    obtain ⟨u, hu⟩ : ∃ u, u = (removeHold s.cfg.station .ownCleared s).onGroup fun g => { g with repeatMs := 0 } := ⟨_, rfl⟩
    obtain ⟨hshape, hmark⟩ := removeHold_unheld hstate s.cfg.station .ownCleared
    have humark : u.group.hostMark = s.group.hostMark := by rw [hu]; exact hmark
    rw [hshape] at hu
    have htakes : Takes 0 s u := by
      rw [hu]
      exact .same rfl rfl rfl rfl
    have hmotion : u.motion = s.motion := by rw [hu]; rfl
    have hlowered : lowerOwnHold send s = if send then queueResume u else u := by
      rw [lowerOwnHold, hvalues, hu, ← hshape]
    rw [hlowered, if_pos rfl]
    split
    · refine ⟨by simpa using hmotion, by simpa using humark,
        htakes.trans (queueFrame_takes .group (p := .resume _) rfl u), ?_⟩
      have hroomy := queueFrame_roomy .group (.resume u.cfg.group) u
      rw [hu] at hroomy ⊢
      exact hroomy
    · exact ⟨hmotion, humark, htakes.mono (by omega), hstays u (by rw [hu]; rfl) (by rw [hu]; rfl) (by rw [hu]; rfl)⟩

/-- Leaving GUEST_STOP with a Leave pending: a RESUME at most is queued, with no host mark (R123, R143). -/
theorem releaseGuestHold_unheld {s : State} (hstate : s.motion.state = .guestStop) (hsilent : s.working = false) :
    (releaseGuestHold true s).motion.state = .guestStop ∧
      (releaseGuestHold true s).group.hostMark = s.group.hostMark ∧
      Takes (if s.group.hostMark = none then 1 else 0) s (releaseGuestHold true s) := by
  obtain ⟨u, hu⟩ : ∃ u, u = (s.onMotion fun m => { m with holdSent := false }).onGroup
      fun g => { g with guestMark := false } := ⟨_, rfl⟩
  have hcleared : Takes 0 s u := by
    rw [hu]
    exact .same rfl rfl rfl rfl
  have hguest : u.motion.state = .guestStop := by rw [hu]; exact hstate
  obtain ⟨hmotion, hmark, htakes, -⟩ := lowerOwnHold_unheld true (s := u) (.inr hguest) (by rw [hu]; exact hsilent)
  have hmarks : u.group.hostMark = s.group.hostMark := by rw [hu]; rfl
  have hvalues : u.group.ownValues = s.group.hostMark := by rw [hu]; rfl
  rw [hvalues] at htakes
  unfold releaseGuestHold
  rw [← hu]
  split
  · exact ⟨by rw [hmotion, hguest], hmark.trans hmarks, (hcleared.trans htakes).mono (by omega)⟩
  · exact ⟨hstate, rfl, (Takes.refl s).mono (by omega)⟩

/-- The host mark cleared with a Leave pending: a RESUME at most is queued, where there was a mark (R149). -/
theorem clearHostMark_unheld {s : State} (hstate : s.motion.state = .idle) (hsilent : s.working = false) :
    (clearHostMark true s).motion = s.motion ∧ (clearHostMark true s).station = s.station ∧
      (clearHostMark true s).odo = s.odo ∧ (clearHostMark true s).host.reply = s.host.reply ∧
      Takes (if s.group.hostMark = none then 0 else 1) s (clearHostMark true s) ∧ Roomy s (clearHostMark true s) := by
  cases hmark : s.group.hostMark with
  | none =>
    have hsame : clearHostMark true s = s := by
      rw [clearHostMark, hmark]
      rfl
    rw [hsame]
    exact ⟨rfl, rfl, rfl, rfl, .refl s, fun _ => ⟨rfl, rfl, Nat.le_succ _⟩⟩
  | some x =>
    obtain ⟨u, hu⟩ : ∃ u, u = s.onGroup fun g => { g with hostMark := none } := ⟨_, rfl⟩
    have hlowered : clearHostMark true s = lowerOwnHold true u := by
      rw [clearHostMark, hmark, hu]
      rfl
    have hcleared : Takes 0 s u := by
      rw [hu]
      exact .same rfl rfl rfl rfl
    obtain ⟨hmotion, -, htakes, hroomy⟩ := lowerOwnHold_unheld true (s := u) (.inl (by rw [hu]; exact hstate))
      (by rw [hu]; exact hsilent)
    rw [hlowered]
    refine ⟨hmotion.trans (by rw [hu]; rfl), by simp [hu], by simp [hu], by simp [hu],
      (hcleared.trans htakes).mono ?_, ?_⟩
    · rw [if_neg (Option.some_ne_none x)]
      split <;> omega
    · rw [hu] at hroomy ⊢
      exact hroomy

/-! ### The claim on the segment left (R73, R91) -/

/-- What the end of an occupancy does to frames and claims: nothing comes, and only a record told against goes (R91). -/
theorem endOccupancy_claims (n : Nat) (s : State) :
    (endOccupancy n s).frames ≤ s.frames ∧ (endOccupancy n s).claims.own.length ≤ s.claims.own.length ∧
    ((s.claims.own.map (·.segment)).Nodup → ∀ r ∈ s.claims.own,
      (r.segment = n → ∀ v, ¬ s.TellsAgainst r.segment r.intent r.rank v) → r ∈ (endOccupancy n s).claims.own) := by
  have hended (change : ClaimChange) (w : Option (Nat × Nat)) (o : OwnClaim) (ho : s.ownClaim? n = some o) :
      (endOwn n change w s).frames ≤ s.frames ∧ (endOwn n change w s).claims.own.length ≤ s.claims.own.length ∧
      ∀ r ∈ s.claims.own, r.segment ≠ n → r ∈ (endOwn n change w s).claims.own := by
    rw [endOwn_eq ho]
    refine ⟨?_, List.length_filter_le _ _, fun r hr hne => List.mem_filter.2 ⟨hr, by simpa using hne⟩⟩
    have hle : (withdraw (isClaimFor n) s).channel.queue.length ≤ s.channel.queue.length := List.length_filter_le _ _
    simp only [State.frames]
    omega
  by_cases hclear : ∀ o v, s.ownClaim? n = some o → ¬ s.TellsAgainst n o.intent o.rank v
  · rw [endOccupancy_clear hclear]
    exact ⟨le_rfl, le_rfl, fun _ r hr _ => hr⟩
  · push Not at hclear
    obtain ⟨o, v, ho, htells⟩ := hclear
    have hfound : o ∈ s.claims.own := List.mem_of_find?_eq_some ho
    have hsegment : o.segment = n := by simpa using List.find?_some ho
    obtain ⟨hframes, hlength, hothers⟩ : (endOccupancy n s).frames ≤ s.frames ∧
        (endOccupancy n s).claims.own.length ≤ s.claims.own.length ∧
        ∀ r ∈ s.claims.own, r.segment ≠ n → r ∈ (endOccupancy n s).claims.own := by
      unfold endOccupancy
      rw [ho]
      dsimp only
      split
      · split
        · exact hended _ _ o ho
        · exact ⟨le_rfl, le_rfl, fun r hr _ => hr⟩
      · exact ⟨le_rfl, le_rfl, fun r hr _ => hr⟩
    refine ⟨hframes, hlength, fun hnodup r hr hnone => hothers r hr fun hrn => ?_⟩
    have hsame : r = o := List.inj_on_of_nodup_map hnodup hr hfound (hrn.trans hsegment.symm)
    refine hnone hrn v ?_
    rw [hsame, hsegment]
    exact htells

end Sys2Proof.Machine

/-! ## LEAVE in ACTIVE: the claims, and the request in all (R31, R91, R95; O23) -/

namespace Sys2Proof.Machine

/-! ### The route ends (R31) -/

/-- What the end of an entry does to frames and claims (R91, R106). -/
theorem endEntry_claims {s : State} (hroom : s.frames + 1 ≤ 8) :
    (endEntry s).frames ≤ s.frames + 1 ∧ (endEntry s).claims.own.length ≤ s.claims.own.length ∧
    ((s.claims.own.map (·.segment)).Nodup → ∀ r ∈ s.claims.own,
      (s.currentSegment = some r.segment → ∀ v, ¬ s.TellsAgainst r.segment r.intent r.rank v) →
      r ∈ (endEntry s).claims.own) := by
  cases hn : s.currentSegment with
  | none =>
    rw [endEntry, hn]
    exact ⟨Nat.le_succ _, le_rfl, fun _ r hr _ => hr⟩
  | some n =>
    obtain ⟨u, hu⟩ : ∃ u, u = ((finaliseAndFlush s).onOdo fun o => { o with entry := none }).onDosing
        fun d => { d with need := 0, pulsesNow := 0 } := ⟨_, rfl⟩
    have hended : endEntry s = if u.motion.state = .idle then u else endOccupancy n u := by
      rw [endEntry, hn, hu]
    have htakes : Takes 1 s u := by
      rw [hu]
      exact (finaliseAndFlush_takes s).trans (.same rfl rfl rfl rfl)
    obtain ⟨hclaims, -, hframes⟩ := htakes hroom
    have htells (m : Nat) (i : Intent) (k : Nat) (v : ViewEntry) : u.TellsAgainst m i k v ↔ s.TellsAgainst m i k v := by
      have hstation : u.station = s.station := by simp [hu]
      simp only [State.TellsAgainst, hclaims, hstation]
    rw [hended]
    split
    · rw [hclaims]
      exact ⟨hframes, le_rfl, fun _ r hr _ => hr⟩
    · obtain ⟨hfewer, hlength, hkept⟩ := endOccupancy_claims n u
      rw [hclaims] at hlength hkept
      refine ⟨hfewer.trans hframes, hlength, fun hnodup r hr hclear => hkept hnodup r hr fun hrn v => ?_⟩
      rw [htells]
      exact hclear (by rw [hrn]) v

/-- A change to IDLE with no current segment looks at no claim (R91). -/
theorem moveTo_idle_takes {k : MotionCause} {s : State} (hfree : s.odo.entry = none) : Takes 0 s (move .idle k s) := by
  have hcurrent : s.currentSegment = none := by simp [State.currentSegment, hfree]
  have hposted (u : State) (e : Event) : Takes 0 u (post e u) := by
    rw [post_events]
    exact .same rfl rfl rfl rfl
  have hmoved (f : Motion → Motion) (g : Group → Group) : Takes 0 s ((s.onMotion f).onGroup g) := .same rfl rfl rfl rfl
  unfold move moveTo
  split
  · exact .refl s
  · rw [hcurrent]
    exact (hmoved _ _).trans (hposted _ _)

/-- The block after route and host mark have ended in a station that has taken a LEAVE in ACTIVE (R31, R143, R149). -/
theorem route_ends {s : State} (hrobot : s.isRobot = true) (hroute : s.odo.entry ≠ none ∨ s.motion.state ≠ .idle)
    (hsilent : s.working = false) {t : State} (ht : t = clearHostMark true (endRoute true s)) :
    (t.odo = { s.odo with entry := none } ∧ t.motion.state = .idle ∧ t.motion.ceiling = 0 ∧ t.station = s.station) ∧
    (s.frames + 2 ≤ 8 → t.frames ≤ s.frames + 2 ∧ t.claims.own.length ≤ s.claims.own.length ∧
      ((s.claims.own.map (·.segment)).Nodup → ∀ r ∈ s.claims.own,
        (s.currentSegment = some r.segment → ∀ v, ¬ s.TellsAgainst r.segment r.intent r.rank v) →
        r ∈ t.claims.own)) := by
  obtain ⟨a, ha⟩ : ∃ a, a = if s.motion.state = .guestStop then releaseGuestHold true s else s := ⟨_, rfl⟩
  obtain ⟨haodo, hastation, hamark, hatakes⟩ : a.odo = s.odo ∧ a.station = s.station ∧
      a.group.hostMark = s.group.hostMark ∧ Takes (if s.group.hostMark = none then 1 else 0) s a := by
    rw [ha]
    split
    · next hguest =>
      obtain ⟨-, hmark, htakes⟩ := releaseGuestHold_unheld hguest hsilent
      exact ⟨by simp, by simp, hmark, htakes⟩
    · exact ⟨rfl, rfl, rfl, (Takes.refl s).mono (Nat.zero_le _)⟩
  obtain ⟨b, hb⟩ : ∃ b, b = (endEntry a).onMotion fun m => { m with ceiling := 0 } := ⟨_, rfl⟩
  obtain ⟨d, hd⟩ : ∃ d, d = move .idle .leave b := ⟨_, rfl⟩
  have hroutes : endRoute true s = d := by
    have hguard : s.isRobot = true ∧ (s.odo.entry.isSome = true ∨ s.motion.state ≠ .idle) :=
      ⟨hrobot, hroute.imp_left Option.isSome_iff_ne_none.2⟩
    rw [endRoute, if_pos hguard, hd, hb, ha]
  have hbodo : b.odo = { s.odo with entry := none } := by
    rw [hb, ← haodo]
    exact endEntry_odo a
  have hbfree : b.odo.entry = none := by rw [hbodo]
  have hdvalues : d.motion.state = .idle ∧ d.motion.ceiling = 0 := by
    have hceiling : b.motion.ceiling = 0 := by rw [hb]; rfl
    by_cases hstate : b.motion.state = .idle
    · rw [hd, move, moveTo_self _ _ _ _ hstate]
      exact ⟨hstate, hceiling⟩
    · rw [hd, move, (moveTo_values _ _ _ b hstate).1]
      exact ⟨rfl, rfl⟩
  have hdstation : d.station = s.station := by rw [← hastation]; simp [hd, hb]
  have hdmark : d.group.hostMark = s.group.hostMark := by
    rw [hd, move_group, ← hamark, hb]
    simp
  obtain ⟨htmotion, htstation, htodo, -, httakes, -⟩ := clearHostMark_unheld hdvalues.1 (by
    rw [State.working, hdstation]
    exact hsilent)
  rw [hroutes] at ht
  rw [← ht] at htmotion htstation htodo httakes
  rw [hdmark] at httakes
  refine ⟨⟨htodo.trans (by rw [← hbodo, hd]; simp), by rw [htmotion]; exact hdvalues.1,
    by rw [htmotion]; exact hdvalues.2, htstation.trans hdstation⟩, fun hroom => ?_⟩
  have hmarks : (if s.group.hostMark = none then 1 else 0) + (if s.group.hostMark = none then 0 else 1) = 1 := by
    split <;> rfl
  obtain ⟨haclaims, -, haframes⟩ := hatakes (by omega)
  obtain ⟨heframes, helength, hekept⟩ := endEntry_claims (s := a) (by omega)
  have hbtakes : Takes 0 (endEntry a) d := by
    have hceiling : Takes 0 (endEntry a) b := by
      rw [hb]
      exact .same rfl rfl rfl rfl
    rw [hd]
    exact hceiling.trans (moveTo_idle_takes hbfree)
  obtain ⟨hdclaims, -, hdframes⟩ := hbtakes (by omega)
  obtain ⟨htclaims, -, htframes⟩ := httakes (by omega)
  have htells (m : Nat) (i : Intent) (k : Nat) (v : ViewEntry) : a.TellsAgainst m i k v ↔ s.TellsAgainst m i k v := by
    simp only [State.TellsAgainst, haclaims, hastation]
  have hcurrent : a.currentSegment = s.currentSegment := by simp only [State.currentSegment, haodo]
  rw [haclaims] at helength hekept
  rw [htclaims, hdclaims]
  refine ⟨by omega, helength, fun hnodup r hr hclear => hekept hnodup r hr fun hrn v => ?_⟩
  rw [htells]
  exact hclear (hcurrent ▸ hrn) v

end Sys2Proof.Machine

/-! ## LEAVE in ACTIVE: the RELEASE frames, and the request in all (R31, R32, R95; O23) -/

namespace Sys2Proof.Machine

/-! ### The claims end one by one (R31, R95) -/

/-- From `s` to `t` the records `l` have ended, with a RELEASE frame that the Leave waits for where one was HOLDING. -/
structure EndsClaims (l : List OwnClaim) (s t : State) : Prop where
  station : t.station = { s.station with leaveFrames := t.station.leaveFrames }
  odo : t.odo = s.odo
  motion : t.motion = s.motion
  length : t.channel.queue.length ≤ s.channel.queue.length + l.length
  kept : ∀ q ∈ s.channel.queue, (∀ n, isClaimFor n q = false) → q ∈ t.channel.queue
  waits : ∀ k ∈ s.station.leaveFrames, k ∈ t.station.leaveFrames
  released : ∀ r ∈ l, r.state = .holding →
    ∃ q ∈ t.channel.queue, q.payload = .release r.segment ∧ q.entry ∈ t.station.leaveFrames
  ended : ∀ x ∈ t.claims.own, x ∈ s.claims.own ∧ ∀ r ∈ l, x.segment ≠ r.segment
  quiet : (∀ r ∈ l, r.state ≠ .holding) → t.station = s.station

theorem EndsClaims.nil (s : State) : EndsClaims [] s s :=
  ⟨rfl, rfl, rfl, le_rfl, fun _ hq _ => hq, fun _ hk => hk, nofun, fun _ hx => ⟨hx, nofun⟩, fun _ => rfl⟩

theorem release_noClaim {q : Queued} {n : Nat} (h : q.payload = .release n) (m : Nat) : isClaimFor m q = false := by
  simp only [isClaimFor, h]

theorem EndsClaims.cons {r : OwnClaim} {l : List OwnClaim} {s u t : State} (h : EndsClaims [r] s u)
    (k : EndsClaims l u t) : EndsClaims (r :: l) s t where
  station := by rw [k.station, h.station]
  odo := k.odo.trans h.odo
  motion := k.motion.trans h.motion
  length := by
    have hfirst := h.length
    have hrest := k.length
    simp only [List.length_cons, List.length_nil] at hfirst ⊢
    omega
  kept q hq hother := k.kept q (h.kept q hq hother) hother
  waits x hx := k.waits x (h.waits x hx)
  released x hx hholding := by
    rcases List.mem_cons.1 hx with rfl | hx
    · obtain ⟨q, hq, hpayload, hwaits⟩ := h.released x (List.mem_singleton_self x) hholding
      exact ⟨q, k.kept q hq (release_noClaim hpayload), hpayload, k.waits _ hwaits⟩
    · exact k.released x hx hholding
  ended x hx := by
    obtain ⟨hu, hrest⟩ := k.ended x hx
    obtain ⟨hs, hfirst⟩ := h.ended x hu
    refine ⟨hs, fun y hy => ?_⟩
    rcases List.mem_cons.1 hy with rfl | hy
    · exact hfirst y (List.mem_singleton_self y)
    · exact hrest y hy
  quiet hnone := (k.quiet fun x hx => hnone x (List.mem_cons_of_mem r hx)).trans
    (h.quiet fun x hx => hnone x (by rw [List.mem_singleton.1 hx]; exact List.mem_cons_self))

/-- What the end of a record leaves of queue and claims (R25, R72). -/
theorem endOwn_leaves (n : Nat) (change : ClaimChange) (w : Option (Nat × Nat)) (s : State) :
    (endOwn n change w s).channel.queue.length ≤ s.channel.queue.length ∧
    (∀ q ∈ s.channel.queue, isClaimFor n q = false → q ∈ (endOwn n change w s).channel.queue) ∧
    ∀ x ∈ (endOwn n change w s).claims.own, x ∈ s.claims.own ∧ x.segment ≠ n := by
  cases hr : s.ownClaim? n with
  | none =>
    rw [endOwn_none hr]
    exact ⟨le_rfl, fun _ hq _ => hq, fun x hx => ⟨hx, by simpa using List.find?_eq_none.1 hr x hx⟩⟩
  | some r =>
    rw [endOwn_eq hr]
    refine ⟨List.length_filter_le _ _, fun q hq hother => List.mem_filter.2 ⟨hq, by rw [hother]; rfl⟩, fun x hx => ?_⟩
    obtain ⟨hmem, hne⟩ := List.mem_filter.1 hx
    exact ⟨hmem, by simpa using hne⟩

/-- The RELEASE frame of a record that is released joins the queue under the next entry number (R92, R93). -/
theorem releaseHeld_queues {n : Nat} {s : State} (hroom : s.hasRoom) :
    (releaseHeld n s).channel.queue.length ≤ s.channel.queue.length + 1 ∧
    (∀ q ∈ s.channel.queue, isClaimFor n q = false → q ∈ (releaseHeld n s).channel.queue) ∧
    (∃ q ∈ (releaseHeld n s).channel.queue, q.payload = .release n ∧ q.entry = s.channel.nextEntry) ∧
    ∀ x ∈ (releaseHeld n s).claims.own, x ∈ s.claims.own ∧ x.segment ≠ n := by
  obtain ⟨u, hu⟩ : ∃ u, u = withdraw (isClaimFor n) s := ⟨_, rfl⟩
  obtain ⟨v, hv⟩ : ∃ v, v = queueFrame .claims (.release n) u := ⟨_, rfl⟩
  have hspace : u.hasRoom := by rw [hu]; exact withdraw_hasRoom hroom
  have hreleased : releaseHeld n s = endOwn n .released none v := by rw [hv, hu]; rfl
  have hfewer : u.channel.queue.length ≤ s.channel.queue.length := by
    rw [hu]
    exact List.length_filter_le _ _
  obtain ⟨-, hclaims, hlength⟩ := queueFrame_roomy .claims (.release n) u hspace
  have hjoined := queueFrame_room .claims (.release n) u hspace
  rw [← hv] at hclaims hlength hjoined
  obtain ⟨hshort, hkept, hended⟩ := endOwn_leaves n .released none v
  rw [hreleased]
  refine ⟨by omega, fun q hq hother => hkept q ?_ hother, ?_, fun x hx => ?_⟩
  · rw [hv]
    refine mem_queueFrame hspace ?_
    rw [hu]
    exact List.mem_filter.2 ⟨hq, by rw [hother]; rfl⟩
  · refine ⟨⟨.release n, Payload.priority (.release n), .claims, 0, s.channel.nextEntry⟩, hkept _ ?_ rfl, rfl, rfl⟩
    rw [hjoined, hu]
    exact (insertFrame_perm _ _).mem_iff.2 List.mem_cons_self
  · obtain ⟨hmem, hne⟩ := hended x hx
    rw [hclaims, hu] at hmem
    exact ⟨hmem, hne⟩

theorem leaveClaim_ends {r : OwnClaim} {s : State} (hroom : s.hasRoom) : EndsClaims [r] s (leaveClaim s r) := by
  by_cases hholding : r.state = .holding
  · obtain ⟨u, hu⟩ : ∃ u, u = releaseHeld r.segment s := ⟨_, rfl⟩
    obtain ⟨hlength, hkept, ⟨q, hq, hpayload, hentry⟩, hended⟩ := releaseHeld_queues (n := r.segment) hroom
    rw [← hu] at hlength hkept hq hended
    have hjoined : u.channel.queue.any (·.entry == s.channel.nextEntry) = true :=
      List.any_eq_true.2 ⟨q, hq, by simp [hentry]⟩
    have hleaves : leaveClaim s r = u.onStation fun t =>
        { t with leaveFrames := t.leaveFrames ++ [s.channel.nextEntry] } := by
      rw [leaveClaim, hholding]
      dsimp only
      rw [← hu, if_pos hjoined]
    have hstation : u.station = s.station := by simp [hu]
    rw [hleaves]
    refine ⟨?_, by simp [hu], by simp [hu], hlength, fun q hq hother => hkept q hq (hother _), fun k hk => ?_,
      fun x hx _ => ?_, fun x hx => ?_, fun hnone => absurd hholding (hnone r (List.mem_singleton_self r))⟩
    · rw [← hstation]
      rfl
    · rw [← hstation] at hk
      exact List.mem_append_left _ hk
    · rw [List.mem_singleton.1 hx]
      exact ⟨q, hq, hpayload, List.mem_append_right _ (by rw [hentry]; exact List.mem_singleton_self _)⟩
    · obtain ⟨hmem, hne⟩ := hended x hx
      exact ⟨hmem, fun y hy => by rw [List.mem_singleton.1 hy]; exact hne⟩
  · have hleaves : leaveClaim s r = endOwn r.segment .released none s := by
      unfold leaveClaim
      split
      · next h => exact absurd h hholding
      · rfl
    obtain ⟨hlength, hkept, hended⟩ := endOwn_leaves r.segment .released none s
    rw [hleaves]
    refine ⟨by simp, by simp, by simp, hlength.trans (Nat.le_succ _), fun q hq hother => hkept q hq (hother _),
      fun k hk => by simpa using hk, fun x hx hx' => ?_, fun x hx => ?_, fun _ => by simp⟩
    · rw [List.mem_singleton.1 hx] at hx'
      exact absurd hx' hholding
    · obtain ⟨hmem, hne⟩ := hended x hx
      exact ⟨hmem, fun y hy => by rw [List.mem_singleton.1 hy]; exact hne⟩

theorem leaveClaims_end (l : List OwnClaim) : ∀ s : State, s.station.state ≠ .offline →
    s.channel.queue.length + l.length ≤ 8 → EndsClaims l s (l.foldl leaveClaim s) := by
  induction l with
  | nil => exact fun s _ _ => .nil s
  | cons r l ih =>
    intro s hon hroom
    rw [List.length_cons] at hroom
    have hfirst := leaveClaim_ends (r := r) (s := s) ⟨hon, by omega⟩
    refine hfirst.cons (ih (leaveClaim s r) ?_ ?_)
    · rw [hfirst.station]
      exact hon
    · have hlength := hfirst.length
      rw [List.length_singleton] at hlength
      omega

/-- What the claims' end leaves, with room in the queue or without. -/
theorem leaveClaims_frame (l : List OwnClaim) : ∀ s : State, (l.foldl leaveClaim s).odo = s.odo ∧
    (l.foldl leaveClaim s).motion = s.motion := by
  induction l with
  | nil => exact fun s => ⟨rfl, rfl⟩
  | cons r l ih =>
    intro s
    have hfirst : (leaveClaim s r).odo = s.odo ∧ (leaveClaim s r).motion = s.motion := by
      unfold leaveClaim
      split
      · dsimp only
        split <;> simp
      · simp
    exact ⟨(ih _).1.trans hfirst.1, (ih _).2.trans hfirst.2⟩

/-! ### The end of the step (R32) -/

theorem enterOffline_motion (s : State) : (enterOffline s).motion = { s.motion with seizePeriod := none } := by
  rw [enterOffline_eq]
  simp [State.cleared]

/-- What the end of a step leaves of route and motion, whether the Leave completes or not (R32). -/
theorem endOfStep_route (s : State) : (endOfStep s).odo = s.odo ∧ (endOfStep s).host.reply = s.host.reply ∧
    (endOfStep s).motion.state = s.motion.state ∧ (endOfStep s).motion.ceiling = s.motion.ceiling := by
  have hsettled : (settleLeave s).motion.ceiling = s.motion.ceiling := by
    unfold settleLeave
    split
    · rw [enterOffline_motion]
    · rfl
  unfold endOfStep
  exact ⟨by simp, by simp, by simp, by simpa using hsettled⟩

/-! ### The request (R31, R32) -/

/-- The block with a LEAVE accepted in ACTIVE, before anything of it has been done (R31). -/
def State.leaving (s : State) : State := { s with
  station := { s.station with leavePending := true, leaveMs := 0, leaveFrames := [], presenceMs := 0 } }

/-- The block once route and own hold have ended, before the claims (R31). -/
def State.routeLeft (s : State) : State := clearHostMark true (endRoute true s.leaving)

/-- The block once the claims have ended too. -/
def State.claimsLeft (s : State) : State := s.routeLeft.claims.own.foldl leaveClaim s.routeLeft

theorem exec_leave_pending {s : State} (hactive : s.station.state = .active) (hsel : s.host.heldSel = false)
    (hleave : s.station.leavePending = false) : exec .leave s = .next (endOfStep (s.claimsLeft.answered [0x00])) := by
  refine (whenTaken_taken s _ hsel).trans ?_
  rw [hactive]
  dsimp only
  rw [if_neg (by simp [hleave])]
  rfl

/-- A LEAVE with its claims ended, of which none was HOLDING or one is released still (R32, R95). -/
theorem claimsLeft_ends {s u : State} {l : List OwnClaim} (hends : EndsClaims l u s) (hall : l = u.claims.own)
    (hactive : u.station.state = .active) (hpending : u.station.leavePending = true) :
    (endOfStep (s.answered [0x00])).claims.own = [] ∧
    (∀ r ∈ l, r.state = .holding → (endOfStep (s.answered [0x00])).station.state = .active ∧
      (endOfStep (s.answered [0x00])).station.leavePending = true ∧
      ∃ q ∈ (endOfStep (s.answered [0x00])).channel.queue, q.payload = .release r.segment) ∧
    ((∃ r ∈ l, r.state = .holding) → endOfStep (s.answered [0x00]) = settleFeed (s.answered [0x00])) ∧
    (u.station.leaveFrames = [] → (∀ r ∈ l, r.state ≠ .holding) →
      endOfStep (s.answered [0x00]) = settleFeed (enterOffline (s.answered [0x00]))) := by
  have hown : s.claims.own = [] := by
    refine List.eq_nil_iff_forall_not_mem.2 fun x hx => ?_
    obtain ⟨hu, hne⟩ := hends.ended x hx
    exact hne x (hall ▸ hu) rfl
  have hstate : (s.answered [0x00]).station.state = .active := by
    show s.station.state = .active
    rw [hends.station]
    exact hactive
  have hleave : (s.answered [0x00]).station.leavePending = true := by
    show s.station.leavePending = true
    rw [hends.station]
    exact hpending
  have hwaits (h : ∃ r ∈ l, r.state = .holding) : endOfStep (s.answered [0x00]) = settleFeed (s.answered [0x00]) := by
    obtain ⟨r, hr, hholding⟩ := h
    obtain ⟨q, hq, -, hwait⟩ := hends.released r hr hholding
    exact endOfStep_waits ⟨q, hq, hwait⟩
  refine ⟨?_, fun r hr hholding => ?_, hwaits, fun hempty hnone => ?_⟩
  · unfold endOfStep settleLeave
    split
    · simp
    · simpa [State.answered] using hown
  · obtain ⟨q, hq, hpayload, -⟩ := hends.released r hr hholding
    rw [hwaits ⟨r, hr, hholding⟩]
    refine ⟨by simpa using hstate, by simpa using hleave, q, ?_, hpayload⟩
    rw [(settleFeed_frame _).2.2.1]
    exact hq
  · have hframes : (s.answered [0x00]).station.leaveFrames = [] := by
      show s.station.leaveFrames = []
      rw [hends.quiet hnone]
      exact hempty
    rw [endOfStep, settleLeave_completes hstate hleave fun q _ => by rw [hframes]; exact List.not_mem_nil]

/-- Settles O23. -/
theorem leaveInActive : Obligations.LeaveInActive := by
  intro s hactive hsel
  refine ⟨fun hleave => ?_, fun hleave hrobot hroute => ?_, fun hleave hfree hidle hroom => ?_⟩
  · refine (whenTaken_taken s _ hsel).trans ?_
    rw [hactive]
    dsimp only
    rw [if_pos hleave]
    rfl
  · have hsilent : s.leaving.working = false := by simp [State.working, State.leaving]
    obtain ⟨⟨hodo, hstate, hceiling, hstation⟩, hclaims⟩ := route_ends (s := s.leaving) hrobot hroute hsilent rfl
    change s.routeLeft.odo = _ at hodo
    change s.routeLeft.motion.state = _ at hstate
    change s.routeLeft.motion.ceiling = _ at hceiling
    change s.routeLeft.station = _ at hstation
    obtain ⟨hodo', hmotion'⟩ := leaveClaims_frame s.routeLeft.claims.own s.routeLeft
    obtain ⟨heodo, hereply, hestate, heceiling⟩ := endOfStep_route (s.claimsLeft.answered [0x00])
    have hstill : (endOfStep (s.claimsLeft.answered [0x00])).motion.state = .idle := by
      rw [hestate, ← hstate, ← hmotion']
      rfl
    refine ⟨_, exec_leave_pending hactive hsel hleave, hereply, heodo.trans (hodo'.trans hodo), hstill,
      heceiling.trans ((congrArg Motion.ceiling hmotion').trans hceiling),
      permit_standing (by rw [hstill]; decide) (by rw [hstill]; decide) (by rw [hstill]; decide),
      fun hkeyed hroom => ?_⟩
    have hle : s.leaving.frames ≤ s.channel.queue.length + 1 := frames_le s.leaving
    obtain ⟨hframes, hlength, hkept⟩ := hclaims (by omega)
    change s.routeLeft.frames ≤ _ at hframes
    change s.routeLeft.claims.own.length ≤ s.claims.own.length at hlength
    have hqueue : s.routeLeft.channel.queue.length ≤ s.routeLeft.frames := Nat.le_add_right _ _
    have hends := leaveClaims_end s.routeLeft.claims.own s.routeLeft (by rw [hstation]; simp [State.leaving, hactive])
      (by omega)
    obtain ⟨hown, hreleased, -⟩ := claimsLeft_ends hends rfl (by rw [hstation]; exact hactive) (by rw [hstation]; rfl)
    exact ⟨hown, fun r hr hholding hclear => hreleased r (hkept hkeyed.2.1 r hr hclear) hholding⟩
  · have hroutes : endRoute true s.leaving = s.leaving :=
      if_neg fun ⟨_, hmoves⟩ => hmoves.elim (by simp [State.leaving, hfree]) fun h => h hidle
    have hleft : s.routeLeft = clearHostMark true s.leaving := by rw [State.routeLeft, hroutes]
    obtain ⟨hmotion, hstation, hodo, -, -, hroomy⟩ := clearHostMark_unheld (s := s.leaving) hidle
      (by simp [State.working, State.leaving])
    rw [← hleft] at hmotion hstation hodo hroomy
    have hon : s.leaving.station.state ≠ .offline := by
      rw [show s.leaving.station.state = s.station.state from rfl, hactive]
      decide
    have hqueue : s.leaving.channel.queue.length < 8 := by
      show s.channel.queue.length < 8
      omega
    obtain ⟨-, hclaims, hlength⟩ := hroomy ⟨hon, hqueue⟩
    have hown : s.routeLeft.claims.own = s.claims.own := congrArg (·.own) hclaims
    have hends := leaveClaims_end s.routeLeft.claims.own s.routeLeft (by rw [hstation]; exact hon) (by
      rw [hown]
      have hlength : s.routeLeft.channel.queue.length ≤ s.channel.queue.length + 1 := hlength
      omega)
    obtain ⟨hgone, hreleased, hwaits, hcompletes⟩ := claimsLeft_ends hends rfl (by rw [hstation]; exact hactive)
      (by rw [hstation]; rfl)
    change (endOfStep (s.claimsLeft.answered [0x00])).claims.own = [] at hgone
    change ∀ r ∈ s.routeLeft.claims.own, r.state = .holding → (endOfStep (s.claimsLeft.answered [0x00])).station.state = .active ∧
      (endOfStep (s.claimsLeft.answered [0x00])).station.leavePending = true ∧
      ∃ q ∈ (endOfStep (s.claimsLeft.answered [0x00])).channel.queue, q.payload = .release r.segment at hreleased
    change _ → endOfStep (s.claimsLeft.answered [0x00]) = settleFeed (s.claimsLeft.answered [0x00]) at hwaits
    change _ → _ → endOfStep (s.claimsLeft.answered [0x00]) = settleFeed (enterOffline (s.claimsLeft.answered [0x00]))
      at hcompletes
    rw [hown] at hreleased hwaits hcompletes
    have hkept : (s.claimsLeft.answered [0x00]).motion = s.motion := hends.motion.trans hmotion
    obtain ⟨heodo, hereply, -, -⟩ := endOfStep_route (s.claimsLeft.answered [0x00])
    refine ⟨_, exec_leave_pending hactive hsel hleave, hereply, hgone, heodo.trans (hends.odo.trans hodo), ?_,
      fun hsome => ?_, fun hnone => ?_⟩
    · by_cases hsome : ∃ r ∈ s.claims.own, r.state = .holding
      · obtain ⟨r, hr, hholding⟩ := hsome
        have hstays := (hreleased r hr hholding).1
        rw [if_neg (by rw [hstays]; decide), hwaits ⟨r, hr, hholding⟩, (settleFeed_frame _).2.2.2.2.2.2.1, hkept]
      · have hnone : ∀ r ∈ s.claims.own, r.state ≠ .holding := fun r hr h => hsome ⟨r, hr, h⟩
        have hends := hcompletes (by rw [hstation]; rfl) hnone
        rw [if_pos (by rw [hends]; simp), hends, (settleFeed_frame _).2.2.2.2.2.2.1, enterOffline_motion, hkept]
    · obtain ⟨r, hr, hholding⟩ := hsome
      obtain ⟨hstays, hpending, -⟩ := hreleased r hr hholding
      exact ⟨hstays, hpending, fun x hx hx' => (hreleased x hx hx').2.2⟩
    · rw [hcompletes (by rw [hstation]; rfl) hnone]
      simp

end Sys2Proof.Machine
